-- ==== Sys2Proof/Word.lean ====
section
/-! DEFINITION. Word.lean: the words the TL-24 sends, receives and counts with. -/

namespace Sys2Proof

/-- One byte of the service link or the report port. -/
abbrev Byte := BitVec 8

/-- A Plant Clock second or a ticket: a 32-bit number (00_scope.md section 4.2). -/
abbrev Word32 := BitVec 32

/-- A leg of the node, 0 to 3 (00_scope.md section 4.3). -/
abbrev Leg := Fin 4

/-- The number of a record slot, 0 to 95 (R1). -/
abbrev SlotNo := Fin 96

/-- An upstream band, 0 to 15 (00_scope.md section 4.3). -/
abbrev Band := Fin 16

/-- One item for each of the four legs. -/
structure PerLeg (α : Type) where
  leg0 : α
  leg1 : α
  leg2 : α
  leg3 : α
  deriving DecidableEq, Repr

/-- The two lines of a sense pair or a drive pair, the first line written first (R147). -/
structure LinePair where
  first : Bool
  second : Bool
  deriving DecidableEq, Repr

end Sys2Proof
end

