-- ==== Sys2Proof/Syntax.lean ====
section
/-! DEFINITION. Syntax.lean: the commands of the TL-24, one constructor per row of spec/opcode_table.json, in its order.
A request command is one good frame of R186: the constructor is the request code, the operands are the frame's tag byte
and argument bytes (log entry 4). -/

namespace Sys2Proof

/-- The commands. Each constructor's docstring cites the rule that the table names for its row. -/
inductive Instr where
  /-- POWER_ON_RESET (R33). Supply is applied. -/
  | powerOnReset
  /-- LINE_RESET (R194). The RESET line becomes asserted. -/
  | lineReset
  /-- RESET_RELEASE (R194). The RESET line is released. -/
  | resetRelease
  /-- MILLISECOND_TICK (R29). A millisecond tick, with the levels of the four sense pairs that it samples. -/
  | millisecondTick (sense : PerLeg LinePair)
  /-- SECOND_TICK (R29). The second tick that is due. -/
  | secondTick
  /-- AGING_TICK (R14). The aging tick that is due. -/
  | agingTick
  /-- WINDOW_START (R157). The budget-window start that is due. -/
  | windowStart
  /-- SETTLE_EXPIRY (R152). The settle check of a leg whose interval has expired. -/
  | settleExpiry (leg : Leg)
  /-- DWELL_EXPIRY (R130). The end of the REF or PROBE_L dwell that has run its length. -/
  | dwellExpiry
  /-- HOLD_EXHAUSTED (R159). The end of a manual hold whose charge has reached the allowance. -/
  | holdExhausted
  /-- REPORT_ARRIVAL (R59). Select is released on the report port. -/
  | reportArrival
  /-- DISPATCH (R64). The dispatcher takes the head entry of the report queue. -/
  | dispatch
  /-- ROUND_START (R128). The round that the start test has passed begins. -/
  | roundStart
  /-- ROUND_EVALUATION (R137). The drained round is evaluated. -/
  | roundEvaluation
  /-- ALIGN_RUN (R182). A low run, from the falling edge that ends a high period to the next rising edge, of so many REFCLK periods. -/
  | alignRun (periods : Nat)
  /-- ALIGN_IDLE_ELAPSED (R182). The receive line has been high for one character time at the rate taken. -/
  | alignIdleElapsed
  /-- ALIGN_COMPLETE (R182). The last bit of 0x3C has been sent. -/
  | alignComplete
  /-- BREAK (R183). The receive line has been low for 20 bit times. -/
  | lineBreak
  /-- FRAMING_ERROR (R181). A character arrives with its stop bit low. -/
  | framingError
  /-- FRAME_TIMEOUT (R185). The discard of a frame whose inter-byte count has run out. -/
  | frameTimeout
  /-- FRAME_DISCARD (R184). The frame in reception proves bad, by its LEN or its CRC. -/
  | frameDiscard
  /-- UNKNOWN_REQUEST (R186). A good frame is complete whose code names no request. -/
  | unknownRequest (code : Byte) (tag : Byte) (args : List Byte)
  /-- REPLY_SENT (R187). The last bit of the reply in progress has been sent. -/
  | replySent
  /-- IDENT (R188). The request IDENT. -/
  | ident (tag : Byte) (args : List Byte)
  /-- RESTART (R188). The request RESTART. -/
  | restart (tag : Byte) (args : List Byte)
  /-- READ_CLOCK (R30). The request READ_CLOCK. -/
  | readClock (tag : Byte) (args : List Byte)
  /-- SET_CLOCK (R30). The request SET_CLOCK. -/
  | setClock (tag : Byte) (args : List Byte)
  /-- READ_SETTINGS (R189). The request READ_SETTINGS. -/
  | readSettings (tag : Byte) (args : List Byte)
  /-- CONFIGURE (R189). The request CONFIGURE. -/
  | configure (tag : Byte) (args : List Byte)
  /-- READ_SAFETY (R162). The request READ_SAFETY. -/
  | readSafety (tag : Byte) (args : List Byte)
  /-- SET_SAFETY (R161). The request SET_SAFETY. -/
  | setSafety (tag : Byte) (args : List Byte)
  /-- LOCK_SAFETY (R162). The request LOCK_SAFETY. -/
  | lockSafety (tag : Byte) (args : List Byte)
  /-- MAP_OPEN (R42). The request MAP_OPEN. -/
  | mapOpen (tag : Byte) (args : List Byte)
  /-- MAP_TAPS (R43). The request MAP_TAPS. -/
  | mapTaps (tag : Byte) (args : List Byte)
  /-- MAP_STATIONS (R44). The request MAP_STATIONS. -/
  | mapStations (tag : Byte) (args : List Byte)
  /-- MAP_ACTIVATE (R47). The request MAP_ACTIVATE. -/
  | mapActivate (tag : Byte) (args : List Byte)
  /-- MAP_DISCARD (R45). The request MAP_DISCARD. -/
  | mapDiscard (tag : Byte) (args : List Byte)
  /-- READ_LEG (R50). The request READ_LEG. -/
  | readLeg (tag : Byte) (args : List Byte)
  /-- READ_STATIONS (R51). The request READ_STATIONS. -/
  | readStations (tag : Byte) (args : List Byte)
  /-- SET_ZONE (R53). The request SET_ZONE. -/
  | setZone (tag : Byte) (args : List Byte)
  /-- CLEAR_ZONE (R53). The request CLEAR_ZONE. -/
  | clearZone (tag : Byte) (args : List Byte)
  /-- READ_ZONES (R54). The request READ_ZONES. -/
  | readZones (tag : Byte) (args : List Byte)
  /-- LOOKUP (R166). The request LOOKUP. -/
  | lookup (tag : Byte) (args : List Byte)
  /-- FIND (R169). The request FIND. -/
  | find (tag : Byte) (args : List Byte)
  /-- FIND_STATION (R170). The request FIND_STATION. -/
  | findStation (tag : Byte) (args : List Byte)
  /-- LIST_CHANGED (R171). The request LIST_CHANGED. -/
  | listChanged (tag : Byte) (args : List Byte)
  /-- ACKNOWLEDGE (R172). The request ACKNOWLEDGE. -/
  | acknowledge (tag : Byte) (args : List Byte)
  /-- ANNOTATE (R173). The request ANNOTATE. -/
  | annotate (tag : Byte) (args : List Byte)
  /-- PIN (R174). The request PIN. -/
  | pin (tag : Byte) (args : List Byte)
  /-- UNPIN (R174). The request UNPIN. -/
  | unpin (tag : Byte) (args : List Byte)
  /-- RETIRE (R175). The request RETIRE. -/
  | retire (tag : Byte) (args : List Byte)
  /-- MERGE (R177). The request MERGE. -/
  | merge (tag : Byte) (args : List Byte)
  /-- REPROBE (R179). The request REPROBE. -/
  | reprobe (tag : Byte) (args : List Byte)
  /-- READ_PROBE (R145). The request READ_PROBE. -/
  | readProbe (tag : Byte) (args : List Byte)
  /-- PAUSE_PROBING (R142). The request PAUSE_PROBING. -/
  | pauseProbing (tag : Byte) (args : List Byte)
  /-- RESUME_PROBING (R142). The request RESUME_PROBING. -/
  | resumeProbing (tag : Byte) (args : List Byte)
  /-- LEG_MANUAL (R143). The request LEG_MANUAL. -/
  | legManual (tag : Byte) (args : List Byte)
  /-- LEG_RELEASE (R144). The request LEG_RELEASE. -/
  | legRelease (tag : Byte) (args : List Byte)
  /-- RELEASE_LOCKOUT (R156). The request RELEASE_LOCKOUT. -/
  | releaseLockout (tag : Byte) (args : List Byte)
  /-- READ_EVENTS (R192). The request READ_EVENTS. -/
  | readEvents (tag : Byte) (args : List Byte)
  /-- CLEAR_EVENTS (R192). The request CLEAR_EVENTS. -/
  | clearEvents (tag : Byte) (args : List Byte)
  /-- SET_EVENT_MASK (R192). The request SET_EVENT_MASK. -/
  | setEventMask (tag : Byte) (args : List Byte)
  /-- RECEIVED_BYTE (R184). A character with its stop bit high arrives. -/
  | receivedByte (byte : Byte)
  /-- SELECT_ASSERTION (R57). Select is asserted on the report port. -/
  | selectAssertion
  /-- REPORT_BIT_RECEIVED (R59). A clock edge of the report port, with the level of the data line. -/
  | reportBitReceived (bit : Bool)
  deriving DecidableEq, Repr

end Sys2Proof
end

