-- ==== Sys2Proof/Decode.lean ====
section
/-! DEFINITION. Decode.lean: bytes and their order, the CRC, the request frame and its codes, and the host's reading of
the opcode table (whose rows give no bits). -/

namespace Sys2Proof

/-- The byte of a number's low eight bits. -/
def byteOf (n : Nat) : Byte := BitVec.ofNat 8 n

/-- A 16-bit field, high byte first (R195). -/
def bytes2 (n : Nat) : List Byte := [byteOf (n / 256), byteOf n]

/-- A 32-bit field, high byte first (R195). -/
def bytes4 (n : Nat) : List Byte := [byteOf (n / 16777216), byteOf (n / 65536), byteOf (n / 256), byteOf n]

/-- A signed byte, two's complement (10, section 10.9). -/
def signedByte (z : Int) : Byte := BitVec.ofInt 8 z

/-- A signed 16-bit field, two's complement, high byte first. -/
def signedBytes2 (z : Int) : List Byte := bytes2 (BitVec.ofInt 16 z).toNat

/-- The number two bytes hold, high byte first. -/
def nat2 (hi lo : Byte) : Nat := hi.toNat * 256 + lo.toNat

/-- The number four bytes hold, high byte first. -/
def nat4 (b3 b2 b1 b0 : Byte) : Nat := b3.toNat * 16777216 + b2.toNat * 65536 + b1.toNat * 256 + b0.toNat

/-- One bit of a byte of flags. -/
def flagBit (b : Bool) (n : Nat) : Byte := if b then BitVec.ofNat 8 (2 ^ n) else 0

/-- One of the eight shifts of the CRC: polynomial 0x1021, most significant bit first (R184). -/
def crcShift (c : BitVec 16) : BitVec 16 := if c.msb then (c <<< 1) ^^^ 0x1021#16 else c <<< 1

/-- One byte taken into the CRC (R184). -/
def crcByte (c : BitVec 16) (b : Byte) : BitVec 16 :=
  crcShift (crcShift (crcShift (crcShift (crcShift (crcShift (crcShift (crcShift (c ^^^ (b.zeroExtend 16 <<< 8)))))))))

/-- The CRC of a run of bytes: initial value 0xFFFF, no final inversion (R184). -/
def crc16 (bs : List Byte) : BitVec 16 := bs.foldl crcByte 0xFFFF#16

/-- The two CRC bytes of a frame, high byte first (R184). -/
def crcBytes (bs : List Byte) : List Byte := bytes2 (crc16 bs).toNat

/-- The sync byte of a request frame (R184). -/
def requestSync : Byte := 0xA5#8

/-- The sync byte of a reply frame (R187). -/
def replySync : Byte := 0x5A#8

/-- A frame after its sync byte: LEN, the body, the CRC over both (R184, R195). -/
def framed (body : List Byte) : List Byte :=
  let counted := byteOf body.length :: body
  counted ++ crcBytes counted

/-- The command that a good frame's code, tag and arguments make (R186, R188 to R190, R192). A code that names no
request makes UNKNOWN_REQUEST. -/
def decodeRequest (code tag : Byte) (args : List Byte) : Instr :=
  match code.toNat with
  | 0x01 => .ident tag args
  | 0x02 => .restart tag args
  | 0x08 => .readClock tag args
  | 0x09 => .setClock tag args
  | 0x10 => .readSettings tag args
  | 0x11 => .configure tag args
  | 0x12 => .readSafety tag args
  | 0x13 => .setSafety tag args
  | 0x14 => .lockSafety tag args
  | 0x20 => .mapOpen tag args
  | 0x21 => .mapTaps tag args
  | 0x22 => .mapStations tag args
  | 0x23 => .mapActivate tag args
  | 0x24 => .mapDiscard tag args
  | 0x25 => .readLeg tag args
  | 0x26 => .readStations tag args
  | 0x28 => .setZone tag args
  | 0x29 => .clearZone tag args
  | 0x2A => .readZones tag args
  | 0x30 => .lookup tag args
  | 0x31 => .find tag args
  | 0x32 => .findStation tag args
  | 0x33 => .listChanged tag args
  | 0x34 => .acknowledge tag args
  | 0x35 => .annotate tag args
  | 0x36 => .pin tag args
  | 0x37 => .unpin tag args
  | 0x38 => .retire tag args
  | 0x39 => .merge tag args
  | 0x3A => .reprobe tag args
  | 0x40 => .readProbe tag args
  | 0x41 => .pauseProbing tag args
  | 0x42 => .resumeProbing tag args
  | 0x43 => .legManual tag args
  | 0x44 => .legRelease tag args
  | 0x45 => .releaseLockout tag args
  | 0x48 => .readEvents tag args
  | 0x49 => .clearEvents tag args
  | 0x4A => .setEventMask tag args
  | _ => .unknownRequest code tag args

/-- Whether a code names one of the requests of 10, section 10.6. -/
def namesRequest (code : Byte) : Bool := decodeRequest code 0 [] != .unknownRequest code 0 []

/-- The body of the request frame that a command stands for, for the commands that are request frames. -/
def requestBody (i : Instr) : Option (List Byte) :=
  match i with
  | .powerOnReset => none
  | .lineReset => none
  | .resetRelease => none
  | .millisecondTick _ => none
  | .secondTick => none
  | .agingTick => none
  | .windowStart => none
  | .settleExpiry _ => none
  | .dwellExpiry => none
  | .holdExhausted => none
  | .reportArrival => none
  | .dispatch => none
  | .roundStart => none
  | .roundEvaluation => none
  | .alignRun _ => none
  | .alignIdleElapsed => none
  | .alignComplete => none
  | .lineBreak => none
  | .framingError => none
  | .frameTimeout => none
  | .frameDiscard => none
  | .unknownRequest code tag args => some (code :: tag :: args)
  | .replySent => none
  | .ident tag args => some (0x01#8 :: tag :: args)
  | .restart tag args => some (0x02#8 :: tag :: args)
  | .readClock tag args => some (0x08#8 :: tag :: args)
  | .setClock tag args => some (0x09#8 :: tag :: args)
  | .readSettings tag args => some (0x10#8 :: tag :: args)
  | .configure tag args => some (0x11#8 :: tag :: args)
  | .readSafety tag args => some (0x12#8 :: tag :: args)
  | .setSafety tag args => some (0x13#8 :: tag :: args)
  | .lockSafety tag args => some (0x14#8 :: tag :: args)
  | .mapOpen tag args => some (0x20#8 :: tag :: args)
  | .mapTaps tag args => some (0x21#8 :: tag :: args)
  | .mapStations tag args => some (0x22#8 :: tag :: args)
  | .mapActivate tag args => some (0x23#8 :: tag :: args)
  | .mapDiscard tag args => some (0x24#8 :: tag :: args)
  | .readLeg tag args => some (0x25#8 :: tag :: args)
  | .readStations tag args => some (0x26#8 :: tag :: args)
  | .setZone tag args => some (0x28#8 :: tag :: args)
  | .clearZone tag args => some (0x29#8 :: tag :: args)
  | .readZones tag args => some (0x2A#8 :: tag :: args)
  | .lookup tag args => some (0x30#8 :: tag :: args)
  | .find tag args => some (0x31#8 :: tag :: args)
  | .findStation tag args => some (0x32#8 :: tag :: args)
  | .listChanged tag args => some (0x33#8 :: tag :: args)
  | .acknowledge tag args => some (0x34#8 :: tag :: args)
  | .annotate tag args => some (0x35#8 :: tag :: args)
  | .pin tag args => some (0x36#8 :: tag :: args)
  | .unpin tag args => some (0x37#8 :: tag :: args)
  | .retire tag args => some (0x38#8 :: tag :: args)
  | .merge tag args => some (0x39#8 :: tag :: args)
  | .reprobe tag args => some (0x3A#8 :: tag :: args)
  | .readProbe tag args => some (0x40#8 :: tag :: args)
  | .pauseProbing tag args => some (0x41#8 :: tag :: args)
  | .resumeProbing tag args => some (0x42#8 :: tag :: args)
  | .legManual tag args => some (0x43#8 :: tag :: args)
  | .legRelease tag args => some (0x44#8 :: tag :: args)
  | .releaseLockout tag args => some (0x45#8 :: tag :: args)
  | .readEvents tag args => some (0x48#8 :: tag :: args)
  | .clearEvents tag args => some (0x49#8 :: tag :: args)
  | .setEventMask tag args => some (0x4A#8 :: tag :: args)
  | .receivedByte _ => none
  | .selectAssertion => none
  | .reportBitReceived _ => none

/-- The bytes of the request frame that a command stands for (R195), sync first. -/
def encodeRequest (i : Instr) : Option (List Byte) := (requestBody i).map fun body => requestSync :: framed body

/-- The bytes still wanted after the sync byte, once LEN is known: LEN itself, the body and the CRC (R184). -/
def frameLength (len : Byte) : Nat := len.toNat + 3

/-- Whether LEN is one that R184 accepts. -/
def lenAccepted (len : Byte) : Bool := 2 ≤ len.toNat && len.toNat ≤ 250

/-- Whether the last two of a complete frame's bytes (after the sync) are the CRC of the others (R184). -/
def crcMatches (bytes : List Byte) : Bool :=
  bytes.drop (bytes.length - 2) == crcBytes (bytes.take (bytes.length - 2))

/-- The command that a complete frame's bytes (after the sync) carry: LEN, code, tag, arguments, CRC (R184, R186). -/
def decodeFrameBody (bytes : List Byte) : Option Instr :=
  match bytes.take (bytes.length - 2) with
  | _ :: code :: tag :: args => some (decodeRequest code tag args)
  | _ => none

/-- The command that the bytes of one whole request frame spell, sync first; none where they are not one good frame
(R184). -/
def decodeRequestFrame (bytes : List Byte) : Option Instr :=
  match bytes with
  | sync :: len :: rest =>
    if sync = requestSync ∧ lenAccepted len = true ∧ rest.length + 1 = frameLength len ∧ crcMatches (len :: rest) = true then
      decodeFrameBody (len :: rest)
    else none
  | _ => none

/-- The command that a word of spec/opcode_table.json spells. No row of the table gives bits, so none does. -/
def decodeTableWord (_nbits _w : Nat) : Option Instr := none

end Sys2Proof
end

