-- ==== Sys2Proof/Config.lean ====
section
/-! DEFINITION. Config.lean: what is fixed in the part, and the free values, which nothing constrains. -/

namespace Sys2Proof.Config

/-- Entries the report queue holds (R61). -/
def queueCapacity : Nat := 64
/-- Queued entries at which an arrival drives HOLD (R63). -/
def holdDriveAt : Nat := 56
/-- Queued entries at which a dispatch releases HOLD (R63). -/
def holdReleaseAt : Nat := 48
/-- The greatest distance along a leg, in dm (R36). -/
def maxDistance : Nat := 20000
/-- Tap distances a leg holds (R35). -/
def tapsPerLeg : Nat := 64
/-- Stations one leg holds (R35). -/
def stationsPerLeg : Nat := 512
/-- Stations the whole map holds (R35). -/
def stationsInAll : Nat := 1024
/-- Handles an echo record's station list holds (R97). -/
def stationListLimit : Nat := 8

/-- FREE VALUE. The baseline read for a band that has none, where a rule asks for one. R116 says that the baseline is
always present then, so no run reaches it. Log entry 9. -/
opaque openBaseline : Band → Int

/-- FREE VALUE. The distance of a tap whose index lies beyond its leg's tap list, where a rule asks for one. R71 and
R167 say that it is always found, so no run reaches it. Log entry 9. -/
opaque openTapDistance : Leg → Nat → Nat

end Sys2Proof.Config
end

