-- ==== Sys2Proof/Machine/State.lean ====
section
/-! DEFINITION. State.lean: every piece of state that the spec gives the TL-24, as plain data, and its power-on value. -/

namespace Sys2Proof.Machine

/-- A command that stops the block with a fault. The spec names no such condition: a refused request is answered with a
status, and a switch that does not follow is a lockout. Nothing raises a fault, so the type is empty. -/
inductive Fault where
  deriving DecidableEq, Repr

/-- A command without a meaning. -/
inductive Refusal where
  /-- Raised by `exec` for a row of the table that has no meaning yet (none has it now). Safe: the run stops. -/
  | notModelled (mnemonic : String)
  deriving DecidableEq, Repr

/-! ### The Plant Clock -/

/-- The four counts of the Plant Clock (R29 to R32). -/
structure Clock where
  /-- Millisecond ticks within the second, 0 to 999; 1000 while the second tick is due (R29). -/
  ms : Nat
  /-- The seconds value (R29). -/
  seconds : Word32
  /-- Second ticks since the latest aging tick (R31). -/
  agingCount : Nat
  /-- Second ticks since the latest window start (R32). -/
  windowCount : Nat
  deriving DecidableEq, Repr

/-! ### The Impairment Table -/

/-- The states of a record; a FREE slot holds no record (section 1.3). -/
inductive RecordState where
  | suspect | probeWait | probing | confirmed | dormant | unresolved | cleared
  deriving DecidableEq, Repr

/-- The outcomes of an evaluated round (R136). -/
inductive RoundOutcome where
  | located | void | thin | weak | multi
  deriving DecidableEq, Repr

/-- The name of a record: its slot's number and generation (R2). -/
structure RecordName where
  num : SlotNo
  gen : Byte
  deriving DecidableEq, Repr

/-- The fields of R4 that an echo record alone has. -/
structure EchoPart where
  leg : Leg
  position : Nat
  spreadMin : Nat
  spreadMax : Nat
  tap : Option Nat
  stations : List Nat
  staleScale : Bool
  deriving DecidableEq, Repr

/-- What the latest evaluated round wrote: last outcome and last drops (R137). -/
structure RoundResult where
  outcome : RoundOutcome
  drops : PerLeg (Option Int)
  deriving DecidableEq, Repr

/-- The fields of R4 that an ingress record alone has. -/
structure IngressPart where
  leg : Option Leg
  band : Band
  attempts : Nat
  voidStreak : Nat
  lastRound : Option RoundResult
  link : Option RecordName
  deriving DecidableEq, Repr

/-- The kind of a record, with the fields of its kind. -/
inductive RecordBody where
  | echo (e : EchoPart)
  | ingress (g : IngressPart)
  deriving DecidableEq, Repr

/-- A record: the fields of R4. -/
structure Record where
  state : RecordState
  severity : Nat
  observations : Nat
  score : Nat
  recurrences : Nat
  retention : Option Nat
  firstSeen : Word32
  lastEvidence : Word32
  acknowledged : Bool
  pinned : Bool
  frozen : Bool
  ticket : Option Word32
  body : RecordBody
  deriving DecidableEq, Repr

/-- A slot of the Impairment Table: its generation, its changed flag, and its record unless it is FREE (R1, R2, R22). -/
structure Slot where
  gen : Byte
  changed : Bool
  record : Option Record
  deriving DecidableEq, Repr

/-! ### The Plant Map -/

/-- A station entry (R37). -/
structure Station where
  handle : Nat
  tap : Nat
  drop : Nat
  misplaced : Option Word32
  dropEcho : Option Word32
  deriving DecidableEq, Repr

/-- A work zone: its start and end in dm, both included (R53). -/
structure Zone where
  first : Nat
  last : Nat
  deriving DecidableEq, Repr

/-- A leg of the map (R35). The leg is ACTIVE exactly when it has a velocity factor. -/
structure LegMap where
  vf : Option Nat
  taps : List Nat
  stations : List Station
  zone : Option Zone
  deriving DecidableEq, Repr

/-- The open staging area (R41). A staged station's marks are absent. -/
structure Staging where
  leg : Leg
  vf : Nat
  taps : List Nat
  stations : List Station
  deriving DecidableEq, Repr

/-! ### Switch positions, step tags and reports -/

/-- The depths at which a leg is held out of THROUGH. -/
inductive Depth where
  | atten | isolate
  deriving DecidableEq, Repr

/-- The positions a leg's switch can be commanded to (R147). -/
inductive SwitchState where
  | through | atten | isolate
  deriving DecidableEq, Repr

/-- The positions a sense pair reports (R147). -/
inductive Sensed where
  | through | atten | isolate | invalid
  deriving DecidableEq, Repr

/-- The step tag stamped on a report (R60). -/
inductive StepTag where
  | quiet
  | settle
  | refDwell (round : Byte)
  | legDwell (leg : Leg) (round : Byte) (depth : Depth)
  deriving DecidableEq, Repr

/-- The fields of an arriving report, as R58 reads them. -/
inductive Report where
  | burst (rate handle delay level : Nat)
  | band (band : Nat) (power : Int)
  | other (kind : Nat)
  deriving DecidableEq, Repr

/-- The two stamps taken at a report's eighth byte (R59). -/
structure Stamps where
  second : Word32
  tag : StepTag
  deriving DecidableEq, Repr

/-- An entry of the report queue (R61). -/
structure QueuedReport where
  report : Report
  stamps : Stamps
  deriving DecidableEq, Repr

/-- The report port (R57, R59): whether the select under way is counted, the bits counted under it, the first 64 of
them, and the stamps of the pending report. -/
structure Port where
  counting : Bool
  count : Nat
  bits : BitVec 64
  pending : Option Stamps
  deriving DecidableEq, Repr

/-! ### The Band Monitor -/

/-- A band entry (R104). -/
structure BandEntry where
  baseline : Option Int
  streak : Nat
  deriving DecidableEq, Repr

/-! ### The Probe Sequencer -/

/-- An entry of the probe wait queue (R123). -/
structure WaitEntry where
  name : RecordName
  excess : Nat
  second : Word32
  deriving DecidableEq, Repr

/-- The settings latched at round start (R128), but for the legs, which the visit marks hold. -/
structure Snapshot where
  dwell : Nat
  guard : Nat
  dropHigh : Nat
  dropLow : Nat
  minSamples : Nat
  depth : Depth
  maxIsolateDwell : Option Nat
  deriving DecidableEq, Repr

/-- The visit mark of a leg (R121). -/
inductive VisitMark where
  | notInSnapshot | notYetVisited | visited | skipped
  deriving DecidableEq, Repr

/-- A dwell sum: a count of reports and the total of their powers (R133). -/
structure DwellSum where
  count : Nat
  total : Int
  deriving DecidableEq, Repr

/-- What the sequencer holds for the round in progress (R121, R128). -/
structure Round where
  record : RecordName
  snap : Snapshot
  marks : PerLeg VisitMark
  dropAbsent : PerLeg Bool
  refSum : DwellSum
  legSums : PerLeg DwellSum
  deriving DecidableEq, Repr

/-- The current step of an ACTIVE round (R130). -/
inductive ProbeStep where
  | ref
  | settleIn (leg : Leg)
  | probe (leg : Leg)
  | settleOut (leg : Leg)
  deriving DecidableEq, Repr

/-- The state a manual hold returns to (R143). -/
inductive Origin where
  | idle | paused
  deriving DecidableEq, Repr

/-- The states of the Probe Sequencer, each with what it holds in that state (R121). -/
inductive Mode where
  | idle
  | waitBudget
  | active (round : Round) (step : ProbeStep) (elapsed : Nat)
  | closing (round : Round)
  | paused
  | manual (leg : Leg) (depth : Depth) (origin : Origin)
  | locked
  deriving DecidableEq, Repr

/-! ### The Leg Switch Controller -/

/-- What the controller holds for one leg (R148). `settle` counts the milliseconds left; it is 0 from the tick at which
the interval expires until its check is made. -/
structure LegSwitch where
  commanded : SwitchState
  sensed : Sensed
  settle : Option Nat
  faultLatch : Bool
  charge : Nat
  deriving DecidableEq, Repr

/-- The safety settings (R160). -/
structure Safety where
  budgetWindow : Nat
  allowance : PerLeg Nat
  isolatePermitted : Bool
  maxIsolateDwell : Nat
  deriving DecidableEq, Repr

/-- The detection and probe settings (R13, R72, R117, R122). -/
structure Settings where
  echoFloor : Nat
  matchWindow : Nat
  confirmStations : Nat
  scoreAdd : Nat
  agingStep : Nat
  agingCode : Nat
  retention : Nat
  ingressExcess : Nat
  ingressStreak : Nat
  probeDepth : Depth
  dropHigh : Nat
  dropLow : Nat
  dwell : Nat
  guard : Nat
  maxAttempts : Nat
  minSamples : Nat
  deriving DecidableEq, Repr

/-! ### The Service Link and the Event Unit -/

/-- The six bit rates (R181). -/
inductive Rate where
  | r19200 | r38400 | r57600 | r115200 | r230400 | r460800
  deriving DecidableEq, Repr

/-- Where the link stands: measuring low runs in ALIGN, waiting in ALIGN for the line's high time after a rate was
taken, sending 0x3C in ALIGN, or READY (R182). -/
inductive LinkPhase where
  | measuring
  | rateTaken (rate : Rate)
  | sendingAlign (rate : Rate)
  | ready (rate : Rate)
  deriving DecidableEq, Repr

/-- The frame in reception: the bytes after its sync, and the millisecond ticks since its last byte (R184, R185). -/
structure Frame where
  bytes : List Byte
  gap : Nat
  deriving DecidableEq, Repr

/-- The reply in progress: its frame, and whether a line reset is arranged at its end (R187, R188). -/
structure Reply where
  frame : List Byte
  restart : Bool
  deriving DecidableEq, Repr

/-- The Service Link (10, introduction). -/
structure Link where
  phase : LinkPhase
  frame : Option Frame
  reply : Option Reply
  deriving DecidableEq, Repr

/-- The state of the TL-24, and the queue of the commands that wait. -/
structure State where
  clock : Clock
  table : Vector Slot 96
  plant : PerLeg LegMap
  staging : Option Staging
  port : Port
  queue : List QueuedReport
  /-- The HOLD line, true while driven (R63). -/
  hold : Bool
  bands : Vector BandEntry 16
  mode : Mode
  waitQueue : List WaitEntry
  roundNumber : Byte
  switches : PerLeg LegSwitch
  lockout : Bool
  settings : Settings
  safety : Safety
  safetyLock : Bool
  link : Link
  /-- The event flags, bit n the flag of mask bit n (R191). -/
  flags : BitVec 7
  /-- The event mask (R191). -/
  mask : BitVec 7
  /-- The RESET line, true while asserted (R194). -/
  resetLine : Bool
  /-- The model's own field: the record that an evaluation has confirmed since the latest millisecond tick. A RETIRE that finds it
  here comes together with that evaluation, taken second (R139, log entry 21). -/
  confirmedNow : Option RecordName
  /-- The model's own field: the commands that wait, first in, first out. -/
  pending : List Instr
  deriving DecidableEq, Repr

/-- The settings at power-on: the defaults of R13, R72, R117 and R122. -/
def Settings.default : Settings :=
  { echoFloor := 60, matchWindow := 50, confirmStations := 2, scoreAdd := 20, agingStep := 2, agingCode := 2,
    retention := 60, ingressExcess := 40, ingressStreak := 3, probeDepth := .atten, dropHigh := 12, dropLow := 4,
    dwell := 99, guard := 9, maxAttempts := 8, minSamples := 2 }

/-- The safety settings at power-on (R160). -/
def Safety.default : Safety :=
  { budgetWindow := 60, allowance := ⟨2000, 2000, 2000, 2000⟩, isolatePermitted := false, maxIsolateDwell := 200 }

/-- A slot at power-on: FREE, at generation 0, its changed flag clear (R33). -/
def Slot.initial : Slot := { gen := 0, changed := false, record := none }

/-- A leg of the map at power-on: EMPTY (R55). -/
def LegMap.initial : LegMap := { vf := none, taps := [], stations := [], zone := none }

/-- A leg's switch at power-on: commanded THROUGH, nothing pending, latched or charged (R164). The sensed state is the
model's choice until the first tick samples it (DESIGN CHOICE, unsafe, log entry 5). -/
def LegSwitch.initial : LegSwitch :=
  { commanded := .through, sensed := .through, settle := none, faultLatch := false, charge := 0 }

/-- The port with no select under way (R69): a select already asserted is not counted. -/
def Port.initial : Port := { counting := false, count := 0, bits := 0, pending := none }

/-- The link as it enters ALIGN: no rate, no frame in reception, no reply in progress (R194). -/
def Link.initial : Link := { phase := .measuring, frame := none, reply := none }

/-- The TL-24 right after power-on (R33, R55, R69, R120, R146, R164, R191, R194), with an empty command queue, no
record just confirmed, and the RESET line released (DESIGN CHOICE, unsafe, log entry 6). -/
def State.reset : State :=
  { clock := { ms := 0, seconds := 0, agingCount := 0, windowCount := 0 }
    table := Vector.replicate 96 Slot.initial
    plant := ⟨LegMap.initial, LegMap.initial, LegMap.initial, LegMap.initial⟩
    staging := none
    port := Port.initial
    queue := []
    hold := false
    bands := Vector.replicate 16 { baseline := none, streak := 0 }
    mode := .idle
    waitQueue := []
    roundNumber := 0
    switches := ⟨LegSwitch.initial, LegSwitch.initial, LegSwitch.initial, LegSwitch.initial⟩
    lockout := false
    settings := Settings.default
    safety := Safety.default
    safetyLock := false
    link := Link.initial
    flags := 0
    mask := 0x7F
    resetLine := false
    confirmedNow := none
    pending := [] }

end Sys2Proof.Machine
end

