-- ==== Sys2Proof/Machine/Update.lean ====
section
/-! DEFINITION. Update.lean: one named update of State per field. The model writes State through these alone, so that
Laws/State.lean can say once what each leaves unchanged. -/

namespace Sys2Proof.Machine

/-- The state with another `clock`. -/
def State.withClock (s : State) (x : Clock) : State := { s with clock := x }

/-- The state with another `table`. -/
def State.withTable (s : State) (x : Vector Slot 96) : State := { s with table := x }

/-- The state with another `plant`. -/
def State.withPlant (s : State) (x : PerLeg LegMap) : State := { s with plant := x }

/-- The state with another `staging`. -/
def State.withStaging (s : State) (x : Option Staging) : State := { s with staging := x }

/-- The state with another `port`. -/
def State.withPort (s : State) (x : Port) : State := { s with port := x }

/-- The state with another `queue`. -/
def State.withQueue (s : State) (x : List QueuedReport) : State := { s with queue := x }

/-- The state with another `hold`. -/
def State.withHold (s : State) (x : Bool) : State := { s with hold := x }

/-- The state with another `bands`. -/
def State.withBands (s : State) (x : Vector BandEntry 16) : State := { s with bands := x }

/-- The state with another `mode`. -/
def State.withMode (s : State) (x : Mode) : State := { s with mode := x }

/-- The state with another `waitQueue`. -/
def State.withWaitQueue (s : State) (x : List WaitEntry) : State := { s with waitQueue := x }

/-- The state with another `roundNumber`. -/
def State.withRoundNumber (s : State) (x : Byte) : State := { s with roundNumber := x }

/-- The state with another `switches`. -/
def State.withSwitches (s : State) (x : PerLeg LegSwitch) : State := { s with switches := x }

/-- The state with another `lockout`. -/
def State.withLockout (s : State) (x : Bool) : State := { s with lockout := x }

/-- The state with another `settings`. -/
def State.withSettings (s : State) (x : Settings) : State := { s with settings := x }

/-- The state with another `safety`. -/
def State.withSafety (s : State) (x : Safety) : State := { s with safety := x }

/-- The state with another `safetyLock`. -/
def State.withSafetyLock (s : State) (x : Bool) : State := { s with safetyLock := x }

/-- The state with another `link`. -/
def State.withLink (s : State) (x : Link) : State := { s with link := x }

/-- The state with another `flags`. -/
def State.withFlags (s : State) (x : BitVec 7) : State := { s with flags := x }

/-- The state with another `mask`. -/
def State.withMask (s : State) (x : BitVec 7) : State := { s with mask := x }

/-- The state with another `resetLine`. -/
def State.withResetLine (s : State) (x : Bool) : State := { s with resetLine := x }

/-- The state with another `confirmedNow`. -/
def State.withConfirmedNow (s : State) (x : Option RecordName) : State := { s with confirmedNow := x }

/-- The state with another `pending`. -/
def State.withPending (s : State) (x : List Instr) : State := { s with pending := x }

end Sys2Proof.Machine
end

