-- ==== Sys2Proof/Machine/Legs.lean ====
section
/-! DEFINITION. Legs.lean: reading and writing one leg's item, and the choice of the least of a list. -/

namespace Sys2Proof

/-- The item of one leg. -/
def PerLeg.get {α : Type} (p : PerLeg α) (l : Leg) : α :=
  match l with
  | 0 => p.leg0
  | 1 => p.leg1
  | 2 => p.leg2
  | 3 => p.leg3

/-- Another item for one leg. -/
def PerLeg.set {α : Type} (p : PerLeg α) (l : Leg) (x : α) : PerLeg α :=
  match l with
  | 0 => { p with leg0 := x }
  | 1 => { p with leg1 := x }
  | 2 => { p with leg2 := x }
  | 3 => { p with leg3 := x }

/-- An item computed for each leg. -/
def PerLeg.ofFn {α : Type} (f : Leg → α) : PerLeg α := ⟨f 0, f 1, f 2, f 3⟩

/-- The items in leg order. -/
def PerLeg.toList {α : Type} (p : PerLeg α) : List α := [p.leg0, p.leg1, p.leg2, p.leg3]

/-- The four legs in ascending order. -/
def allLegs : List Leg := [0, 1, 2, 3]

/-- The legs after one, in ascending order. -/
def legsAfter (l : Leg) : List Leg := allLegs.filter fun k => l < k

/-- The leg that a byte names: a byte of 4 or higher names none. -/
def legOf (b : Byte) : Option Leg := if h : b.toNat < 4 then some ⟨b.toNat, h⟩ else none

/-- The least item of a list by a strict order; among equals, the earliest in the list. Every choice "the lower number"
of R1 is this choice over a list in ascending number. -/
def least {α : Type} (lt : α → α → Bool) : List α → Option α
  | [] => none
  | x :: xs =>
    match least lt xs with
    | none => some x
    | some y => if lt y x then some y else some x

/-- A number taken into a range by the nearer end (R13). -/
def clamp (low high n : Nat) : Nat := max low (min n high)

end Sys2Proof
end

