-- ==== Sys2Proof/Machine/Flags.lean ====
section
/-! DEFINITION. Flags.lean: the event flags, the mask and ALERT (R191 to R193). -/

namespace Sys2Proof.Machine

/-- The mask bits of the seven event flags (R191). -/
def flagConfirmed : Nat := 0
def flagCleared : Nat := 1
def flagUnresolved : Nat := 2
def flagTableFull : Nat := 3
def flagOverrun : Nat := 4
def flagSwitchFault : Nat := 5
def flagMapMismatch : Nat := 6

/-- A flag is set; a flag already set stays set (R191). -/
def State.raise (n : Nat) (s : State) : State := s.withFlags (s.flags ||| (1#7 <<< n))

/-- Whether a flag is set. -/
def State.flagSet (n : Nat) (s : State) : Bool := s.flags.getLsbD n

/-- ALERT, true while asserted: some flag is set whose mask bit is enabled (R193). -/
def State.alert (s : State) : Bool := s.flags &&& s.mask != 0#7

/-- The byte that carries the flags or the mask; bit 7 reads 0 (R192). -/
def eventByte (x : BitVec 7) : Byte := x.zeroExtend 8

/-- The flags or mask that a written byte names; bit 7 is ignored (R192). -/
def eventBits (b : Byte) : BitVec 7 := b.truncate 7

end Sys2Proof.Machine
end

