-- ==== Sys2Proof/Machine/Operands.lean ====
section
/-! DEFINITION. Operands.lean: the statuses and answers of requests, and the reading of argument bytes (R186, R189, R190,
R195). -/

namespace Sys2Proof.Machine

/-- The status codes of a reply (R186). -/
inductive Status where
  | ok | unknownRequest | badArgument | noRecord | wrongState | busy | locked | full | conflict
  deriving DecidableEq, Repr

/-- The value of a status (R186). -/
def statusByte (st : Status) : Byte :=
  match st with
  | .ok => 0
  | .unknownRequest => 1
  | .badArgument => 2
  | .noRecord => 3
  | .wrongState => 4
  | .busy => 5
  | .locked => 6
  | .full => 7
  | .conflict => 8

/-- What the owner of a request answers: a status, the reply data, and the state after the request. -/
structure Answer where
  status : Status
  data : List Byte
  state : State
  deriving DecidableEq, Repr

/-- The answer OK, with its reply data. -/
def answerOk (data : List Byte) (s : State) : Answer := { status := .ok, data := data, state := s }

/-- A refusal that carries no data and changes no state (R186). -/
def refuse (st : Status) (s : State) : Answer := { status := st, data := [], state := s }

/-- A refusal that carries the data its rule names and changes no state (R196). -/
def refuseWith (st : Status) (data : List Byte) (s : State) : Answer := { status := st, data := data, state := s }

/-- A record name in reply data: the number, then the generation (10, section 10.6). -/
def nameBytes (n : RecordName) : List Byte := [byteOf n.num.val, n.gen]

/-- 16-bit numbers, high byte first; none when a byte is left over. -/
def readWords : List Byte → Option (List Nat)
  | [] => some []
  | [_] => none
  | hi :: lo :: rest => (readWords rest).map (nat2 hi lo :: ·)

/-- The entries of MAP_STATIONS: handle (2), tap index (1), drop (2) (R190). A drop of 65535 stands for 300 dm (R44);
the flag says whether the drop sent is acceptable. None when the bytes are no multiple of five. -/
def readStations : List Byte → Option (List (Station × Bool))
  | [] => some []
  | h1 :: h0 :: tap :: d1 :: d0 :: rest =>
    let drop := nat2 d1 d0
    let entry : Station :=
      { handle := nat2 h1 h0, tap := tap.toNat, drop := if drop = 65535 then 300 else drop
        misplaced := none, dropEcho := none }
    (readStations rest).map ((entry, drop = 65535 || drop ≤ 1000) :: ·)
  | _ => none

/-- The code of a depth (R195). -/
def depthCode (d : Depth) : Nat :=
  match d with
  | .atten => 0
  | .isolate => 1

/-- The depth of a code; any other code names none (R143). -/
def depthOf (b : Byte) : Option Depth :=
  match b.toNat with
  | 0 => some .atten
  | 1 => some .isolate
  | _ => none

/-- The settings block: the effective values that 17 bytes store, each clamped by its owner, DROP_HIGH before DROP_LOW
(R13, R72, R117, R122, R189, R195). Any other number of bytes is no settings block. -/
def readSettings (args : List Byte) : Option Settings :=
  match args with
  | [echoFloor, matchWindow, confirm, scoreAdd, agingStep, agingCode, retention, excess, streak, depth, high, low,
      dwell1, dwell0, guard, attempts, samples] =>
    let dropHigh := clamp 4 80 high.toNat
    let dropLow := clamp 0 40 low.toNat
    some
      { echoFloor := clamp 20 120 echoFloor.toNat
        matchWindow := clamp 10 200 matchWindow.toNat
        confirmStations := clamp 1 8 confirm.toNat
        scoreAdd := clamp 1 50 scoreAdd.toNat
        agingStep := clamp 1 10 agingStep.toNat
        agingCode := clamp 0 3 agingCode.toNat
        retention := clamp 0 255 retention.toNat
        ingressExcess := clamp 16 120 excess.toNat
        ingressStreak := clamp 1 8 streak.toNat
        probeDepth := if depth.toNat = 0 then .atten else .isolate
        dropHigh := dropHigh
        dropLow := if dropLow < dropHigh then dropLow else dropHigh - 1
        dwell := clamp 19 999 (nat2 dwell1 dwell0)
        guard := clamp 1 49 guard.toNat
        maxAttempts := clamp 1 32 attempts.toNat
        minSamples := clamp 1 16 samples.toNat }
  | _ => none

/-- The settings block of the effective values (R195). -/
def settingsBlock (c : Settings) : List Byte :=
  [byteOf c.echoFloor, byteOf c.matchWindow, byteOf c.confirmStations, byteOf c.scoreAdd, byteOf c.agingStep,
    byteOf c.agingCode, byteOf c.retention, byteOf c.ingressExcess, byteOf c.ingressStreak,
    byteOf (depthCode c.probeDepth), byteOf c.dropHigh, byteOf c.dropLow] ++ bytes2 c.dwell ++
    [byteOf c.guard, byteOf c.maxAttempts, byteOf c.minSamples]

/-- The safety block: the effective values that 21 bytes store, BUDGET_WINDOW clamped first and each allowance against
the effective window (R160, R161, R195). -/
def readSafety (args : List Byte) : Option Safety :=
  match args with
  | [w1, w0, a3, a2, a1, a0, b3, b2, b1, b0, c3, c2, c1, c0, d3, d2, d1, d0, permitted, m1, m0] =>
    let window := clamp 10 600 (nat2 w1 w0)
    let most := window * 1000
    some
      { budgetWindow := window
        allowance :=
          ⟨clamp 0 most (nat4 a3 a2 a1 a0), clamp 0 most (nat4 b3 b2 b1 b0), clamp 0 most (nat4 c3 c2 c1 c0),
            clamp 0 most (nat4 d3 d2 d1 d0)⟩
        isolatePermitted := permitted.toNat != 0
        maxIsolateDwell := clamp 20 1000 (nat2 m1 m0) }
  | _ => none

/-- The safety block of the effective values (R195). -/
def safetyBlock (c : Safety) : List Byte :=
  bytes2 c.budgetWindow ++ c.allowance.toList.flatMap bytes4 ++ [flagBit c.isolatePermitted 0] ++
    bytes2 c.maxIsolateDwell

/-- The code of a record's state (R195). -/
def recordStateCode (st : RecordState) : Nat :=
  match st with
  | .suspect => 1
  | .probeWait => 2
  | .probing => 3
  | .confirmed => 4
  | .dormant => 5
  | .unresolved => 6
  | .cleared => 7

/-- The code of a round's outcome (R195). -/
def outcomeCode (o : RoundOutcome) : Nat :=
  match o with
  | .located => 0
  | .void => 1
  | .thin => 2
  | .weak => 3
  | .multi => 4

end Sys2Proof.Machine
end

