-- ==== Sys2Proof/Machine/Ops.lean ====
section
/-! DEFINITION. Ops.lean: the shared operations over the Impairment Table: slots, changes of state, evidence, tap
attribution, the frozen flag, links and aging (chapter 1). -/

namespace Sys2Proof.Machine

/-! ### Slots and records -/

/-- The slots in ascending number. -/
def allSlots : List SlotNo := List.finRange 96

/-- One slot of the table. -/
def State.slot (s : State) (n : SlotNo) : Slot := s.table[n]

/-- Another slot under one number. -/
def State.setSlot (n : SlotNo) (x : Slot) (s : State) : State := s.withTable (s.table.set n.val x)

/-- The record in a slot, or none while it is FREE. -/
def State.record (s : State) (n : SlotNo) : Option Record := (s.slot n).record

/-- The records of the table with their numbers, in ascending number. -/
def State.records (s : State) : List (SlotNo × Record) :=
  allSlots.filterMap fun n => (s.record n).map fun r => (n, r)

/-- The record of a name, where the slot is not FREE and holds that generation (R3). -/
def State.named (s : State) (name : RecordName) : Option Record :=
  if (s.slot name.num).gen = name.gen then s.record name.num else none

/-- The present name of a slot: its number and its generation. -/
def State.nameOf (s : State) (n : SlotNo) : RecordName := { num := n, gen := (s.slot n).gen }

/-- Another record in a slot that is not FREE; the changed flag is set as well when `changed` says so (R22). -/
def State.putRecord (n : SlotNo) (r : Record) (changed : Bool) (s : State) : State :=
  s.setSlot n { gen := (s.slot n).gen, changed := (s.slot n).changed || changed, record := some r }

/-- The echo part of an echo record. -/
def Record.echo? (r : Record) : Option EchoPart :=
  match r.body with
  | .echo e => some e
  | .ingress _ => none

/-- The ingress part of an ingress record. -/
def Record.ingress? (r : Record) : Option IngressPart :=
  match r.body with
  | .echo _ => none
  | .ingress g => some g

/-- The record's leg, where it has one (R4). -/
def Record.leg? (r : Record) : Option Leg :=
  match r.body with
  | .echo e => some e.leg
  | .ingress g => g.leg

/-- Whether a record is an echo record CONFIRMED on a leg. -/
def Record.confirmedEchoOn (leg : Leg) (r : Record) : Bool :=
  match r.body with
  | .echo e => r.state == .confirmed && e.leg == leg
  | .ingress _ => false

/-! ### Work zones and taps -/

/-- Whether a position lies in a zone, start and end included (R24, R77). -/
def Zone.holds (z : Zone) (position : Nat) : Bool := z.first ≤ position && position ≤ z.last

/-- Whether a record lies within a work zone (R24): an echo record by its position, an ingress record by its leg. -/
def Record.inZone (plant : PerLeg LegMap) (r : Record) : Bool :=
  match r.body with
  | .echo e =>
    match (plant.get e.leg).zone with
    | some z => z.holds e.position
    | none => false
  | .ingress g =>
    match g.leg with
    | some l => (plant.get l).zone.isSome
    | none => false

/-- The record with its frozen flag recomputed (R24). -/
def Record.refreeze (plant : PerLeg LegMap) (r : Record) : Record := { r with frozen := r.inZone plant }

/-- How far apart two positions lie. -/
def apart (a b : Nat) : Nat := (a - b) + (b - a)

/-- The tap nearest a position; of two equally near, the one of the lower index; none on an empty list (R25). -/
def nearestTap (taps : List Nat) (position : Nat) : Option Nat :=
  (least (fun a b => decide (apart a.1 position < apart b.1 position)) taps.zipIdx).map Prod.snd

/-- The echo record with the tap it should have in its state: attributed in CONFIRMED and CLEARED, absent in any other
(R5, R26). -/
def EchoPart.retap (plant : PerLeg LegMap) (st : RecordState) (e : EchoPart) : EchoPart :=
  match st with
  | .confirmed | .cleared => { e with tap := nearestTap (plant.get e.leg).taps e.position }
  | _ => { e with tap := none }

/-- The distance of a tap of a leg (R36). Beyond the leg's tap list it is a free value (log entry 9). -/
def tapDistance (plant : PerLeg LegMap) (leg : Leg) (tap : Nat) : Nat :=
  match (plant.get leg).taps[tap]? with
  | some t => t
  | none => Config.openTapDistance leg tap

/-! ### Changes of state -/

/-- The fields of R5 in agreement with a new state: the retention goes on leaving CLEARED; an ingress record's link goes
on leaving CONFIRMED, and its leg on leaving CONFIRMED or CLEARED but for the change from CONFIRMED to CLEARED; an echo
record's tap goes on entering SUSPECT. -/
def RecordBody.agree (old new : RecordState) (b : RecordBody) : RecordBody :=
  match b with
  | .echo e => .echo (if new = .suspect then { e with tap := none } else e)
  | .ingress g =>
    .ingress
      { g with
        link := if old = .confirmed then none else g.link
        leg :=
          if old = .confirmed ∧ new = .cleared then g.leg
          else if old = .confirmed ∨ old = .cleared then none
          else g.leg }

/-- The frozen flag after R5 took the leg of an ingress record away: clear, as a record with no leg lies in no zone
(R24). It is otherwise as it stood. -/
def RecordBody.stillFrozen (b : RecordBody) (frozen : Bool) : Bool :=
  match b with
  | .echo _ => frozen
  | .ingress g => if g.leg = none then false else frozen

/-- A record's entry into a state: the acknowledged flag is cleared and R5 applied (R6). A record already in the state
is left as it is: that is no change of state. -/
def Record.enter (new : RecordState) (r : Record) : Record :=
  if r.state = new then r
  else
    { r with
      state := new
      acknowledged := false
      retention := if r.state = .cleared then none else r.retention
      body := r.body.agree r.state new
      frozen := (r.body.agree r.state new).stillFrozen r.frozen }

/-- The event flag of an entry into a state (R7). -/
def State.raiseEntry (new : RecordState) (s : State) : State :=
  match new with
  | .confirmed => s.raise flagConfirmed
  | .cleared => s.raise flagCleared
  | .unresolved => s.raise flagUnresolved
  | .suspect | .probeWait | .probing | .dormant => s

/-- The record of a slot changes state: R5, R6 and R7. Nothing happens where it already holds the state, or the slot is
FREE. -/
def State.enterState (n : SlotNo) (new : RecordState) (s : State) : State :=
  match s.record n with
  | none => s
  | some r => if r.state = new then s else (s.putRecord n (r.enter new) true).raiseEntry new

/-- A slot becomes FREE: every field of the record goes, the generation stays, the changed flag is set (R19). -/
def State.freeSlot (n : SlotNo) (s : State) : State :=
  s.setSlot n { gen := (s.slot n).gen, changed := true, record := none }

/-! ### Evidence -/

/-- Evidence for an existing record: score, n, last evidence and severity, the severity of the record's kind (R12). -/
def Record.addEvidence (scoreAdd strength : Nat) (second : Word32) (r : Record) : Record :=
  { r with
    score := min 100 (r.score + scoreAdd)
    observations := min 65535 (r.observations + 1)
    lastEvidence := second
    severity :=
      match r.body with
      | .echo _ => min r.severity strength
      | .ingress _ => max r.severity (min strength 255) }

/-! ### Links -/

/-- The strongest echo record CONFIRMED on a leg: the smallest level code, then the lowest number (R27). -/
def State.strongestEcho (leg : Leg) (s : State) : Option RecordName :=
  (least (fun a b => decide (a.2.severity < b.2.severity))
    (s.records.filter fun p => p.2.confirmedEchoOn leg)).map fun p => s.nameOf p.1

/-- A slot with its record's link evaluated, for an ingress record CONFIRMED on a leg: another target is written and sets
the changed flag, the same target changes nothing (R27). Any other slot is left. -/
def Slot.relink (leg : Leg) (target : Option RecordName) (x : Slot) : Slot :=
  match x.record with
  | none => x
  | some r =>
    match r.body with
    | .echo _ => x
    | .ingress g =>
      if r.state = .confirmed ∧ g.leg = some leg ∧ g.link ≠ target then
        { x with changed := true, record := some { r with body := .ingress { g with link := target } } }
      else x

/-- The links of every ingress record CONFIRMED on a leg are evaluated (R27, R28). -/
def State.evaluateLinks (leg : Leg) (s : State) : State :=
  s.withTable (s.table.map (Slot.relink leg (s.strongestEcho leg)))

/-- The link of one slot's ingress record is evaluated, where it is CONFIRMED (R27, R28). -/
def State.evaluateLinkOf (n : SlotNo) (s : State) : State :=
  match s.record n with
  | none => s
  | some r =>
    match r.leg? with
    | none => s
    | some leg => s.setSlot n ((s.slot n).relink leg (s.strongestEcho leg))

/-! ### Allocation and eviction -/

/-- The lowest-numbered FREE slot (R8). -/
def State.lowestFree (s : State) : Option SlotNo := allSlots.find? fun n => (s.record n).isNone

/-- The order of eviction class 1: least retention, an absent one counting as 255 (R10). -/
def evictsClearedFirst (a b : SlotNo × Record) : Bool := a.2.retention.getD 255 < b.2.retention.getD 255

/-- The order of eviction class 2: lowest score, then earliest first seen, as plain numbers (R10). -/
def evictsSuspectFirst (a b : SlotNo × Record) : Bool :=
  a.2.score < b.2.score || (a.2.score == b.2.score && a.2.firstSeen.toNat < b.2.firstSeen.toNat)

/-- Whether a record is a candidate of eviction in a state: neither pinned nor frozen (R10). -/
def Record.evictableIn (st : RecordState) (r : Record) : Bool := r.state == st && !r.pinned && !r.frozen

/-- The record to evict: from class 1, else from class 2 (R10). -/
def State.evictionChoice (s : State) : Option SlotNo :=
  match least evictsClearedFirst (s.records.filter fun p => p.2.evictableIn .cleared) with
  | some p => some p.1
  | none => (least evictsSuspectFirst (s.records.filter fun p => p.2.evictableIn .suspect)).map Prod.fst

/-- The slot that an allocation takes: the lowest FREE one, else the one eviction frees (R8). -/
def State.allocationSlot (s : State) : Option SlotNo :=
  match s.lowestFree with
  | some n => some n
  | none => s.evictionChoice

/-- A new record in a slot: the generation is incremented, the fields written, the changed flag set (R8). An evicted
record is gone: it was CLEARED or SUSPECT, so its retirement has no effect on its neighbours (R20). -/
def State.allocateAt (n : SlotNo) (r : Record) (s : State) : State :=
  s.setSlot n { gen := (s.slot n).gen + 1, changed := true, record := some r }

/-- A new echo record (R9). -/
def newEcho (c : Settings) (leg : Leg) (position level handle : Nat) (second : Word32) : Record :=
  { state := .suspect, severity := level, observations := 1, score := c.scoreAdd, recurrences := 0, retention := none
    firstSeen := second, lastEvidence := second, acknowledged := false, pinned := false, frozen := false, ticket := none
    body := .echo
      { leg := leg, position := position, spreadMin := position, spreadMax := position, tap := none
        stations := [handle], staleScale := false } }

/-- A new ingress record (R9, R110). -/
def newIngress (c : Settings) (band : Band) (excess : Nat) (second : Word32) : Record :=
  { state := .probeWait, severity := min excess 255, observations := 1, score := c.scoreAdd, recurrences := 0
    retention := none, firstSeen := second, lastEvidence := second, acknowledged := false, pinned := false
    frozen := false, ticket := none
    body := .ingress { leg := none, band := band, attempts := 0, voidStreak := 0, lastRound := none, link := none } }

/-! ### Aging -/

/-- The seconds that an AGING_INTERVAL code stands for (R13). -/
def agingInterval (code : Nat) : Nat :=
  match code with
  | 0 => 1
  | 1 => 10
  | 2 => 60
  | _ => 300

/-- A cleared record: R5 and R6, score 0, and the RETENTION in force unless that is 0 (R16). -/
def Record.clear (retention : Nat) (r : Record) : Record :=
  { r.enter .cleared with score := 0, retention := if retention = 0 then none else some retention }

/-- A record after one aging tick, or none where the tick retires it (R14, R15, R17). -/
def Record.age (c : Settings) (r : Record) : Option Record :=
  if r.frozen then some r
  else
    match r.state with
    | .probeWait | .probing => some r
    | .suspect =>
      let score := r.score - c.agingStep
      if score = 0 ∧ r.pinned = false then none else some { r with score := score }
    | .confirmed | .dormant | .unresolved =>
      let score := r.score - c.agingStep
      if score = 0 then some (r.clear c.retention) else some { r with score := score }
    | .cleared =>
      match r.retention with
      | none => some r
      | some k => if k - 1 = 0 ∧ r.pinned = false then none else some { r with retention := some (k - 1) }

/-- A slot after one aging tick: a retirement or a change of state sets the changed flag (R14, R19, R22). -/
def Slot.age (c : Settings) (x : Slot) : Slot :=
  match x.record with
  | none => x
  | some r =>
    match r.age c with
    | none => { x with changed := true, record := none }
    | some r' => { x with changed := x.changed || r'.state != r.state, record := some r' }

/-- Whether a slot's record has entered CLEARED between two moments. -/
def enteredCleared (before after : Slot) : Bool :=
  match before.record, after.record with
  | some r, some r' => r'.state == .cleared && r.state != .cleared
  | _, _ => false

/-- Whether a slot's record has left CONFIRMED, as an echo record on a leg, between two moments. -/
def leftConfirmedOn (leg : Leg) (before after : Slot) : Bool :=
  match before.record with
  | none => false
  | some r =>
    r.confirmedEchoOn leg &&
      match after.record with
      | none => true
      | some r' => !r'.confirmedEchoOn leg

/-- The links of a leg are evaluated if a CONFIRMED echo record on it was cleared or retired since `before` (R18). -/
def State.relinkIfLeft (before : State) (leg : Leg) (s : State) : State :=
  if allSlots.any fun n => leftConfirmedOn leg (before.slot n) (s.slot n) then s.evaluateLinks leg else s

/-- One aging tick at the table: every slot takes its own step, RECORD_CLEARED is set if a record was cleared, and then
the links of the legs concerned are evaluated (R14 to R18). -/
def State.ageTable (s : State) : State :=
  let stepped := s.withTable (s.table.map (Slot.age s.settings))
  let flagged :=
    if allSlots.any fun n => enteredCleared (s.slot n) (stepped.slot n) then stepped.raise flagCleared else stepped
  allLegs.foldl (fun t leg => State.relinkIfLeft s leg t) flagged

end Sys2Proof.Machine
end

