-- ==== Sys2Proof/Machine/Switches.lean ====
section
/-! DEFINITION. Switches.lean: the Leg Switch Controller's positions, lines, commands, settles and charges (chapter 8). -/

namespace Sys2Proof.Machine

/-- The encoding of a commanded state on the drive pair (R147). -/
def SwitchState.drivePair (p : SwitchState) : LinePair :=
  match p with
  | .through => ⟨false, false⟩
  | .atten => ⟨false, true⟩
  | .isolate => ⟨true, false⟩

/-- The position that a sense pair reports (R147). -/
def sensedOf (lines : LinePair) : Sensed :=
  match lines.first, lines.second with
  | false, false => .through
  | false, true => .atten
  | true, false => .isolate
  | true, true => .invalid

/-- Whether a sensed state agrees with a commanded state; INVALID agrees with none (R147). -/
def Sensed.agrees (x : Sensed) (p : SwitchState) : Bool :=
  match x, p with
  | .through, .through => true
  | .atten, .atten => true
  | .isolate, .isolate => true
  | _, _ => false

/-- The switch position of a depth. -/
def Depth.position (d : Depth) : SwitchState :=
  match d with
  | .atten => .atten
  | .isolate => .isolate

/-- The code of a commanded state (R196). -/
def switchCode (p : SwitchState) : Nat :=
  match p with
  | .through => 0
  | .atten => 1
  | .isolate => 2

/-- The code of a sensed state (R196). -/
def sensedCode (x : Sensed) : Nat :=
  match x with
  | .through => 0
  | .atten => 1
  | .isolate => 2
  | .invalid => 3

/-- What the controller holds for one leg. -/
def State.switch (s : State) (l : Leg) : LegSwitch := s.switches.get l

/-- Another content for one leg of the controller. -/
def State.setSwitch (l : Leg) (x : LegSwitch) (s : State) : State := s.withSwitches (s.switches.set l x)

/-- Whether a leg is commanded out of THROUGH. -/
def State.isOut (s : State) (l : Leg) : Bool := (s.switch l).commanded != .through

/-- Whether another leg than this one is commanded out of THROUGH (R149). -/
def State.otherOut (s : State) (l : Leg) : Bool := allLegs.any fun k => k != l && s.isOut k

/-- Whether a settle interval is pending on any leg (R60, R126). -/
def State.anySettle (s : State) : Bool := allLegs.any fun l => (s.switch l).settle.isSome

/-- A command: refused out of THROUGH while the lockout is set or another leg is out; a command that changes the state
starts a settle interval of that length, discarding one still pending; any other changes nothing (R149, R150). -/
def State.command (l : Leg) (p : SwitchState) (settle : Nat) (s : State) : State :=
  if p ≠ .through ∧ (s.lockout = true ∨ s.otherOut l = true) then s
  else if (s.switch l).commanded = p then s
  else s.setSwitch l { s.switch l with commanded := p, settle := some settle }

/-- Every leg is commanded THROUGH (R154). -/
def State.allThrough (settle : Nat) (s : State) : State :=
  allLegs.foldl (fun t l => State.command l .through settle t) s

/-- A leg's charge is increased (R158, R159). -/
def State.charge (l : Leg) (cost : Nat) (s : State) : State :=
  s.setSwitch l { s.switch l with charge := (s.switch l).charge + cost }

/-- Whether SECOND_TICK is due: the millisecond count has reached 1000 (R29). -/
def State.secondDue (s : State) : Bool := 1000 ≤ s.clock.ms

/-- Whether WINDOW_START is due: the budget-window count has reached BUDGET_WINDOW (R32). -/
def State.windowDue (s : State) : Bool := s.safety.budgetWindow ≤ s.clock.windowCount

/-- Whether a window start comes at the present millisecond tick: the count has reached BUDGET_WINDOW, or the second tick that
is due brings it there (R29, R32). A count of 0 is that of a window just started. -/
def State.windowComes (s : State) : Bool :=
  (s.windowDue && s.clock.windowCount != 0) || (s.secondDue && s.safety.budgetWindow ≤ s.clock.windowCount + 1)

/-- Every leg's charge is zeroed (R157). -/
def State.zeroCharges (s : State) : State :=
  s.withSwitches (PerLeg.ofFn fun l => { s.switch l with charge := 0 })

/-- A leg's allowance (R160). -/
def State.allowance (s : State) (l : Leg) : Nat := s.safety.allowance.get l

/-- A leg's fault latch is set (R154). -/
def State.latchFault (l : Leg) (s : State) : State := s.setSwitch l { s.switch l with faultLatch := true }

/-- The guard of a command made outside a round: GUARD + 1 ms, with the GUARD in force (R129, R150). -/
def State.guardNow (s : State) : Nat := s.settings.guard + 1

end Sys2Proof.Machine
end

