-- ==== Sys2Proof/Machine/Probing.lean ====
section
/-! DEFINITION. Probing.lean: the Probe Sequencer: the wait queue, the start test, rounds and their steps, evaluation,
aborts, manual holds and the lockout (chapters 7 and 8). -/

namespace Sys2Proof.Machine

/-! ### The wait queue -/

/-- Whether one entry of the wait queue stands before another (R123). -/
def WaitEntry.before (a b : WaitEntry) : Bool :=
  b.excess < a.excess ||
    (a.excess == b.excess &&
      (a.second.toNat < b.second.toNat || (a.second == b.second && a.name.num < b.name.num)))

/-- An entry inserted at the place that R123 gives it; the others keep their order (R124). -/
def insertEntry (x : WaitEntry) : List WaitEntry → List WaitEntry
  | [] => [x]
  | y :: ys => if x.before y then x :: y :: ys else y :: insertEntry x ys

/-! ### Lengths -/

/-- The length of a dwell: DWELL + 1 ms, in an ISOLATE round at most MAX_ISOLATE_DWELL (R129). -/
def Snapshot.dwellLength (c : Snapshot) : Nat :=
  match c.maxIsolateDwell with
  | none => c.dwell + 1
  | some most => min (c.dwell + 1) most

/-- The length of a guard: GUARD + 1 ms (R129). -/
def Snapshot.guardLength (c : Snapshot) : Nat := c.guard + 1

/-- The cost of a visit (R125, R129). -/
def Snapshot.visitCost (c : Snapshot) : Nat := c.guardLength + c.dwellLength

/-- What a round started now would latch (R128). -/
def State.snapshotNow (s : State) : Snapshot :=
  let isolate := s.settings.probeDepth = .isolate ∧ s.safety.isolatePermitted = true
  { dwell := s.settings.dwell, guard := s.settings.guard, dropHigh := s.settings.dropHigh
    dropLow := s.settings.dropLow, minSamples := s.settings.minSamples
    depth := if isolate then .isolate else .atten
    maxIsolateDwell := if isolate then some s.safety.maxIsolateDwell else none }

/-! ### The start test -/

/-- Whether a leg is eligible for a round: no work zone, and an allowance of at least one visit cost (R125). -/
def State.eligible (s : State) (l : Leg) : Bool :=
  (s.plant.get l).zone.isNone && s.snapshotNow.visitCost ≤ s.allowance l

/-- Whether an eligible leg lacks the allowance for a visit (R126). -/
def State.shortOfAllowance (s : State) (l : Leg) : Bool :=
  s.eligible l && s.allowance l < (s.switch l).charge + s.snapshotNow.visitCost

/-- The outcomes of the start test (R126). -/
inductive StartOutcome where
  | emptyQueue | settlePending | noLeg | short | pass
  deriving DecidableEq, Repr

/-- The first row of R126 that holds. -/
def State.startOutcome (s : State) : StartOutcome :=
  if s.waitQueue = [] then .emptyQueue
  else if s.anySettle then .settlePending
  else if allLegs.all fun l => !s.eligible l then .noLeg
  else if allLegs.any fun l => s.shortOfAllowance l then .short
  else .pass

/-- The start test, made while the sequencer is IDLE or WAIT_BUDGET (R126, R127). A test that passes leaves IDLE with
ROUND_START due (log entry 2). -/
def State.startTest (s : State) : State :=
  match s.mode with
  | .idle | .waitBudget =>
    match s.startOutcome with
    | .emptyQueue | .noLeg | .pass => s.withMode .idle
    | .settlePending => s
    | .short => s.withMode .waitBudget
  | .active _ _ _ | .closing _ | .paused | .manual _ _ _ | .locked => s

/-- The start test where the rules make it in IDLE alone (R127). -/
def State.startTestIfIdle (s : State) : State :=
  match s.mode with
  | .idle => s.startTest
  | .waitBudget | .active _ _ _ | .closing _ | .paused | .manual _ _ _ | .locked => s

/-- Whether ROUND_START is due: the sequencer is IDLE and the start test passes (R126, R128). -/
def State.roundStartDue (s : State) : Bool :=
  match s.mode with
  | .idle => s.startOutcome = .pass
  | .waitBudget | .active _ _ _ | .closing _ | .paused | .manual _ _ _ | .locked => false

/-- The sequencer enters a state; entry into IDLE makes the start test (R127). -/
def State.enterMode (m : Mode) (s : State) : State := (s.withMode m).startTestIfIdle

/-! ### Joining and leaving the wait queue -/

/-- The PROBE_WAIT record of a slot joins the wait queue with its severity and a second; in IDLE the start test follows
(R113, R124). -/
def State.joinQueue (n : SlotNo) (second : Word32) (s : State) : State :=
  match s.record n with
  | none => s
  | some r =>
    (s.withWaitQueue (insertEntry { name := s.nameOf n, excess := r.severity, second := second }
      s.waitQueue)).startTestIfIdle

/-- A record's entry leaves the wait queue; in WAIT_BUDGET, a queue so emptied prompts the start test (R20, R127). -/
def State.leaveQueue (name : RecordName) (s : State) : State :=
  let rest := s.waitQueue.filter fun e => e.name != name
  let left := s.withWaitQueue rest
  if rest = [] then
    match s.mode with
    | .waitBudget => left.startTest
    | .idle | .active _ _ _ | .closing _ | .paused | .manual _ _ _ | .locked => left
  else left

/-! ### Starting a round -/

/-- A dwell sum with no report. -/
def DwellSum.zero : DwellSum := { count := 0, total := 0 }

/-- The round that a start latches for a record (R128). -/
def State.newRound (name : RecordName) (s : State) : Round :=
  { record := name, snap := s.snapshotNow
    marks := PerLeg.ofFn fun l => if s.eligible l then .notYetVisited else .notInSnapshot
    dropAbsent := PerLeg.ofFn fun _ => false
    refSum := DwellSum.zero, legSums := PerLeg.ofFn fun _ => DwellSum.zero }

/-- A round starts for the head of the wait queue (R128). -/
def State.startRound (s : State) : State :=
  match s.waitQueue with
  | [] => s
  | head :: rest =>
    let latched := s.newRound head.name
    let counted := (s.withRoundNumber (s.roundNumber + 1)).withWaitQueue rest
    let entered := if (counted.named head.name).isSome then counted.enterState head.name.num .probing else counted
    entered.withMode (.active latched .ref 0)

/-! ### Steps of a round -/

/-- The round in progress, in ACTIVE and CLOSING (R121). -/
def State.round (s : State) : Option Round :=
  match s.mode with
  | .active r _ _ => some r
  | .closing r => some r
  | .idle | .waitBudget | .paused | .manual _ _ _ | .locked => none

/-- Whether a step tag names a dwell of a round (R68). -/
def StepTag.belongsTo (r : Byte) (t : StepTag) : Bool :=
  match t with
  | .quiet | .settle => false
  | .refDwell k => k == r
  | .legDwell _ k _ => k == r

/-- Whether a report of a round is queued or pending at the port (R68). -/
def State.holdsReportOf (r : Byte) (s : State) : Bool :=
  (s.queue.any fun e => e.stamps.tag.belongsTo r) ||
    match s.port.pending with
    | none => false
    | some stamps => stamps.tag.belongsTo r

/-- Whether ROUND_EVALUATION is due: the sequencer is CLOSING and no report of the round is queued or pending (R134). -/
def State.evaluationDue (s : State) : Bool :=
  match s.mode with
  | .closing _ => !s.holdsReportOf s.roundNumber
  | .idle | .waitBudget | .active _ _ _ | .paused | .manual _ _ _ | .locked => false

/-- Whether a visit of a leg at a cost is refused: lockout, another leg out, or allowance (R131, R158). -/
def State.visitRefused (l : Leg) (cost : Nat) (s : State) : Bool :=
  s.lockout || s.otherOut l || decide (s.allowance l < (s.switch l).charge + cost)

/-- A leg's visit mark. -/
def Round.mark (l : Leg) (m : VisitMark) (r : Round) : Round := { r with marks := r.marks.set l m }

/-- The round goes on to the next of these legs that is to be visited, or to CLOSING when none remains. A leg not in the
snapshot or already skipped has no steps; a visit that is refused marks the leg skipped; a visit that is taken charges
and commands the leg and begins its SETTLE_IN (R130, R131, R132, R158). -/
def State.nextVisit (r : Round) : List Leg → State → State
  | [], s => s.withMode (.closing r)
  | l :: rest, s =>
    match r.marks.get l with
    | .notYetVisited =>
      if s.visitRefused l r.snap.visitCost then s.nextVisit (r.mark l .skipped) rest
      else
        ((s.charge l r.snap.visitCost).command l r.snap.depth.position r.snap.guardLength).withMode
          (.active (r.mark l .visited) (.settleIn l) 0)
    | .notInSnapshot | .visited | .skipped => s.nextVisit r rest

/-- Whether DWELL_EXPIRY is due: the REF or PROBE_L dwell has run its length (R129, R130). -/
def State.dwellDue (s : State) : Bool :=
  match s.mode with
  | .active r .ref elapsed => r.snap.dwellLength ≤ elapsed
  | .active r (.probe _) elapsed => r.snap.dwellLength ≤ elapsed
  | .active _ (.settleIn _) _ | .active _ (.settleOut _) _ => false
  | .idle | .waitBudget | .closing _ | .paused | .manual _ _ _ | .locked => false

/-- The end of a dwell: after REF the first visit begins; after PROBE_L the leg is commanded THROUGH and its SETTLE_OUT
begins (R130). -/
def State.endDwell (s : State) : State :=
  match s.mode with
  | .active r .ref _ => s.nextVisit r allLegs
  | .active r (.probe l) _ =>
    (s.command l .through r.snap.guardLength).withMode (.active r (.settleOut l) 0)
  | .active _ (.settleIn _) _ | .active _ (.settleOut _) _ => s
  | .idle | .waitBudget | .closing _ | .paused | .manual _ _ _ | .locked => s

/-- A settle check that passed is told to the sequencer: it ends the SETTLE step that waited for it, or makes the start
test in IDLE (R127, R130, R152). -/
def State.settlePassed (l : Leg) (s : State) : State :=
  match s.mode with
  | .active r (.settleIn k) _ => if k = l then s.withMode (.active r (.probe l) 0) else s
  | .active r (.settleOut k) _ => if k = l then s.nextVisit r (legsAfter l) else s
  | .active _ .ref _ | .active _ (.probe _) _ => s
  | .idle => s.startTest
  | .waitBudget | .closing _ | .paused | .manual _ _ _ | .locked => s

/-! ### Aborts, holds and the lockout -/

/-- The probing record of a round that ends without evaluation, if it still exists, returns to PROBE_WAIT and joins the
wait queue; its attempts, void streak, last outcome and last drops stay (R34, R140). -/
def State.requeue (name : RecordName) (s : State) : State :=
  match s.named name with
  | none => s
  | some r =>
    match r.state with
    | .probing => (s.enterState name.num .probeWait).joinQueue name.num s.clock.seconds
    | .suspect | .probeWait | .confirmed | .dormant | .unresolved | .cleared => s

/-- The leg that the round's step holds out of THROUGH is commanded THROUGH, with the round's guard; a leg in SETTLE_OUT
already is (R140). -/
def State.abortCommand (s : State) : State :=
  match s.mode with
  | .active r (.settleIn l) _ => s.command l .through r.snap.guardLength
  | .active r (.probe l) _ => s.command l .through r.snap.guardLength
  | .active _ .ref _ | .active _ (.settleOut _) _ => s
  | .idle | .waitBudget | .closing _ | .paused | .manual _ _ _ | .locked => s

/-- The round in progress, if any, is aborted, and the sequencer enters the state that the cause gives (R140, R141). -/
def State.abortRound (after : Mode) (s : State) : State :=
  match s.round with
  | none => s
  | some r => ((s.abortCommand).requeue r.record).enterMode after

/-- The state that a hold's origin names. -/
def Origin.mode (o : Origin) : Mode :=
  match o with
  | .idle => .idle
  | .paused => .paused

/-- A manual hold, if any, ends: the leg is commanded THROUGH with a settle of GUARD + 1 ms, and the sequencer returns
to the origin state (R144, R159). -/
def State.endHold (s : State) : State :=
  match s.mode with
  | .manual l _ origin => (s.command l .through s.guardNow).enterMode origin.mode
  | .idle | .waitBudget | .active _ _ _ | .closing _ | .paused | .locked => s

/-- Whether HOLD_EXHAUSTED is due: the held leg's charge has reached its allowance (R159), and no window start comes at
the same tick, which the model then takes before the charge (R157, DESIGN CHOICE, log entry 19). -/
def State.holdExhausted (s : State) : Bool :=
  match s.mode with
  | .manual l _ _ => s.allowance l ≤ (s.switch l).charge && !s.windowComes
  | .idle | .waitBudget | .active _ _ _ | .closing _ | .paused | .locked => false

/-- The settle of the commands that a lockout makes: the round's guard while a round is in progress, otherwise GUARD + 1
(R150). -/
def State.lockoutGuard (s : State) : Nat :=
  match s.round with
  | some r => r.snap.guardLength
  | none => s.guardNow

/-- The sequencer is told of the lockout: a round in progress is aborted and its record re-queued, a hold ends and its
origin is forgotten, and LOCKED is entered from any state (R141, R154). -/
def State.enterLocked (s : State) : State :=
  match s.round with
  | some r => ((s.abortCommand).requeue r.record).withMode .locked
  | none => s.withMode .locked

/-- A mismatch on a leg (R154, and R155 while the lockout is set). -/
def State.mismatch (l : Leg) (s : State) : State :=
  let latched := s.latchFault l
  if s.lockout then latched.raise flagSwitchFault
  else (((latched.withLockout true).allThrough s.lockoutGuard).enterLocked).raise flagSwitchFault

/-- Whether a leg's settle interval has expired and its check is due (R152). -/
def State.settleDue (l : Leg) (s : State) : Bool := (s.switch l).settle == some 0

/-- The settle check: the settle is no longer pending; an agreeing sensed state passes the check, any other is a mismatch
(R152). -/
def State.checkSettle (l : Leg) (s : State) : State :=
  let done := s.setSwitch l { s.switch l with settle := none }
  if (s.switch l).sensed.agrees (s.switch l).commanded then done.settlePassed l else done.mismatch l

/-! ### Retirement -/

/-- The effects on the neighbours of a record that has just been retired, but for the links of its leg: the round of a
PROBING record is aborted, the entry of a PROBE_WAIT record leaves the wait queue (R20). -/
def State.afterRetirement (name : RecordName) (held : RecordState) (s : State) : State :=
  match held with
  | .probing =>
    match s.round with
    | none => s
    | some r => if r.record = name then s.abortRound .idle else s
  | .probeWait => s.leaveQueue name
  | .suspect | .confirmed | .dormant | .unresolved | .cleared => s

/-- A record is retired, but for the link evaluation that R20 places after all the retirements on its leg (R19, R20). -/
def State.retireQuietly (n : SlotNo) (s : State) : State :=
  match s.record n with
  | none => s
  | some r => (s.freeSlot n).afterRetirement (s.nameOf n) r.state

/-- The leg whose links a retirement evaluates, if any. An echo record CONFIRMED names its leg (R20, R28, R175). Of an ingress
record R20's table says "none" and R139 that one is called for where the evaluation that has just confirmed the record and its
RETIRE come together: the model names its leg in that case alone, until the next millisecond tick (DESIGN CHOICE, unsafe, log
entry 21). -/
def State.relinkLeg (n : SlotNo) (r : Record) (s : State) : Option Leg :=
  match r.body with
  | .echo e => if r.state = .confirmed then some e.leg else none
  | .ingress g => if r.state = .confirmed ∧ s.confirmedNow = some (s.nameOf n) then g.leg else none

/-- A record is retired with all the effects of section 1.7, the link evaluation after the slot is FREE (R19, R20, R139). -/
def State.retire (n : SlotNo) (s : State) : State :=
  match s.record n with
  | none => s
  | some r =>
    match s.relinkLeg n r with
    | none => s.retireQuietly n
    | some leg => (s.retireQuietly n).evaluateLinks leg

/-! ### Evaluation -/

/-- The mean of a sum, rounded toward minus infinity; none at count 0 (R133). -/
def DwellSum.mean (x : DwellSum) : Option Int := if x.count = 0 then none else some (x.total.fdiv x.count)

/-- A report's power added to a sum, unless the count has reached 65535 (R114, R133). -/
def DwellSum.add (power : Int) (x : DwellSum) : DwellSum :=
  if x.count < 65535 then { count := x.count + 1, total := x.total + power } else x

/-- Whether a leg is a probed leg: visited, and its drop not set absent (R132). -/
def Round.probed (r : Round) (l : Leg) : Bool := r.marks.get l == .visited && !r.dropAbsent.get l

/-- The drop of a leg (R135). -/
def Round.drop (r : Round) (l : Leg) : Option Int :=
  if r.probed l then
    match r.refSum.mean, (r.legSums.get l).mean with
    | some ref, some leg => some (max (-128) (min (ref - leg) 127))
    | _, _ => none
  else none

/-- Whether a probed leg's drop is DROP_HIGH or more (R136). -/
def Round.highDrop (r : Round) (l : Leg) : Bool :=
  match r.drop l with
  | some d => (r.snap.dropHigh : Int) ≤ d
  | none => false

/-- Whether a probed leg's drop is DROP_LOW or less (R136). -/
def Round.lowDrop (r : Round) (l : Leg) : Bool :=
  match r.drop l with
  | some d => d ≤ (r.snap.dropLow : Int)
  | none => false

/-- The probed legs with a drop of DROP_HIGH or more. -/
def Round.highLegs (r : Round) : List Leg := allLegs.filter fun l => r.probed l && r.highDrop l

/-- The threshold of the VOID test (R135). -/
def voidThreshold (baseline : Int) (excess : Nat) : Int := baseline + ((excess / 2 : Nat) : Int)

/-- The outcome of a round, with the leg that LOCATED names (R136). -/
def Round.judge (threshold : Int) (r : Round) : RoundOutcome × Option Leg :=
  let tooFew : Bool := r.refSum.count < r.snap.minSamples ||
    allLegs.any fun l => r.probed l && (r.legSums.get l).count < r.snap.minSamples
  let void : Bool := match r.refSum.mean with
    | some ref => decide (ref < threshold)
    | none => false
  if void then (.void, none)
  else if tooFew then (.thin, none)
  else
    match r.highLegs with
    | [l] => if allLegs.all fun k => k == l || !r.probed k || r.lowDrop k then (.located, some l) else (.weak, none)
    | [] => (.weak, none)
    | _ :: _ :: _ => (.multi, none)

/-- The state, attempts and void streak after an outcome (R137). -/
def outcomeEffect (maxAttempts : Nat) (o : RoundOutcome) (g : IngressPart) : RecordState × Nat × Nat :=
  match o with
  | .void => (if 4 ≤ g.voidStreak + 1 then .dormant else .probeWait, g.attempts, g.voidStreak + 1)
  | .thin | .multi | .weak =>
    let attempts := min (g.attempts + 1) 32
    (if maxAttempts ≤ attempts then .unresolved else .probeWait, attempts, 0)
  | .located => (.confirmed, g.attempts, 0)

/-- The baseline that the Band Monitor answers for a band (R116). A band without one is beyond every run: the value is
free (log entry 9). -/
def State.baselineOf (b : Band) (s : State) : Int :=
  match (s.bands[b]).baseline with
  | some x => x
  | none => Config.openBaseline b

/-- The PROBING record of a slot is updated by the evaluation of its round (R137): last outcome and drops are written,
the state changes with the effects of R5 to R7, a record CONFIRMED takes its leg, its frozen flag and its link and is noted as
just confirmed (R139), a record back in PROBE_WAIT joins the wait queue. -/
def State.applyEvaluation (n : SlotNo) (r : Record) (g : IngressPart) (round : Round) (s : State) : State :=
  let judged := round.judge (voidThreshold (s.baselineOf g.band) s.settings.ingressExcess)
  let effect := outcomeEffect s.settings.maxAttempts judged.1 g
  let result : RoundResult := { outcome := judged.1, drops := PerLeg.ofFn round.drop }
  let written := { r with
    body := .ingress { g with lastRound := some result, attempts := effect.2.1, voidStreak := effect.2.2 } }
  let entered := (s.putRecord n written false).enterState n effect.1
  match effect.1 with
  | .confirmed =>
    match entered.record n with
    | none => entered
    | some c =>
      match c.body with
      | .echo _ => entered
      | .ingress h =>
        let placed : Record := { c with body := .ingress { h with leg := judged.2 } }
        ((entered.putRecord n (placed.refreeze s.plant) true).evaluateLinkOf n).withConfirmedNow (some (s.nameOf n))
  | .probeWait => entered.joinQueue n s.clock.seconds
  | .suspect | .probing | .dormant | .unresolved | .cleared => entered

/-- The drained round is evaluated, and the sequencer enters IDLE (R134 to R137). -/
def State.evaluateRound (s : State) : State :=
  match s.mode with
  | .closing round =>
    let updated :=
      match s.named round.record with
      | none => s
      | some r =>
        match r.body with
        | .echo _ => s
        | .ingress g =>
          if r.state = RecordState.probing then s.applyEvaluation round.record.num r g round else s
    updated.enterMode .idle
  | .idle | .waitBudget | .active _ _ _ | .paused | .manual _ _ _ | .locked => s

/-! ### Work zones and the round -/

/-- What a SET_ZONE of a leg does to the round: a leg not yet visited is skipped, a leg visited loses its drop (R132). -/
def Round.zoned (l : Leg) (r : Round) : Round :=
  match r.marks.get l with
  | .notYetVisited => r.mark l .skipped
  | .visited => { r with dropAbsent := r.dropAbsent.set l true }
  | .notInSnapshot | .skipped => r

/-- A SET_ZONE acts on the round in progress (R132). -/
def State.zoneRound (l : Leg) (s : State) : State :=
  match s.mode with
  | .active r step elapsed => s.withMode (.active (r.zoned l) step elapsed)
  | .closing r => s.withMode (.closing (r.zoned l))
  | .idle | .waitBudget | .paused | .manual _ _ _ | .locked => s

end Sys2Proof.Machine
end

