-- ==== Sys2Proof/Machine/Echo.lean ====
section
/-! DEFINITION. Echo.lean: the Echo Locator: the station lookup, the checks, the position arithmetic, matching, and what
an observation does to an echo record (chapters 4 and 5). -/

namespace Sys2Proof.Machine

/-! ### The station lookup and the station marks -/

/-- What the map answers for a handle: the leg, its velocity factor and the station's entry (R38). -/
structure Located where
  leg : Leg
  vf : Nat
  station : Station
  deriving DecidableEq, Repr

/-- A handle's entry on one leg, where the leg is ACTIVE and holds it (R38). -/
def stationOn (plant : PerLeg LegMap) (handle : Nat) (l : Leg) : Option Located :=
  match (plant.get l).vf with
  | none => none
  | some vf => ((plant.get l).stations.find? fun x => x.handle == handle).map fun x =>
      { leg := l, vf := vf, station := x }

/-- The map's answer for a handle; handle 0 is always unmapped (R38). -/
def State.locate (handle : Nat) (s : State) : Option Located :=
  if handle = 0 then none else allLegs.findSome? (stationOn s.plant handle)

/-- The station entry of a handle on a leg is changed. -/
def State.updateStation (l : Leg) (handle : Nat) (f : Station → Station) (s : State) : State :=
  let leg := s.plant.get l
  s.withPlant (s.plant.set l
    { leg with stations := leg.stations.map fun x => if x.handle = handle then f x else x })

/-- The drop-echo mark is set to the report's arrival second (R39). -/
def State.markDropEcho (x : Located) (second : Word32) (s : State) : State :=
  s.updateStation x.leg x.station.handle fun y => { y with dropEcho := some second }

/-- The misplaced mark is set, with MAP_MISMATCH, where it is absent; a mark already present stays (R40). -/
def State.markMisplaced (x : Located) (second : Word32) (s : State) : State :=
  match x.station.misplaced with
  | some _ => s
  | none => (s.updateStation x.leg x.station.handle fun y => { y with misplaced := some second }).raise flagMapMismatch

/-! ### From delay to position -/

/-- The constant of a symbol-rate code (R73). -/
def rateConstant (rate : Nat) : Nat :=
  match rate with
  | 0 => 153494
  | 1 => 76747
  | 2 => 38373
  | _ => 19187

/-- Stage 1: the one-way distance in dm, rounded half up (R73). -/
def echoDistance (delay vf rate : Nat) : Nat := (delay * vf * rateConstant rate + 524288) / 1048576

/-- Stage 3: the signed position on the leg (R75). -/
def echoPosition (tapAt drop distance : Nat) : Int := (tapAt : Int) + drop - distance

/-- Stage 3: a position below -W is out of plant, one from -W to -1 is taken as 0 (R76). -/
def plantPosition (window : Nat) (p : Int) : Option Nat := if p < -(window : Int) then none else some p.toNat

/-- An observation: an echo at a position on a leg (R79). -/
structure Observation where
  leg : Leg
  position : Nat
  level : Nat
  handle : Nat
  second : Word32
  deriving DecidableEq, Repr

/-! ### Matching -/

/-- The distance of a record from an observation, where the record is a candidate for it (R78). -/
def Record.candidateDistance (window : Nat) (o : Observation) (r : Record) : Option Nat :=
  match r.body with
  | .ingress _ => none
  | .echo e =>
    if e.leg = o.leg ∧ (r.state = .suspect ∨ r.state = .confirmed ∨ r.state = .cleared) ∧ r.frozen = false ∧
        apart o.position e.position ≤ window then
      some (apart o.position e.position)
    else none

/-- The record that an observation matches: the nearest candidate, the lower number at equal distance (R79). -/
def State.matchEcho (o : Observation) (s : State) : Option SlotNo :=
  (least (fun a b => decide (a.2 < b.2))
    (s.records.filterMap fun p => (p.2.candidateDistance s.settings.matchWindow o).map fun d => (p.1, d))).map Prod.fst

/-! ### The record update -/

/-- Stage 6: the running position (R83). -/
def runningPosition (position observations p : Nat) : Nat :=
  let w := min observations 15
  (position * w + p + (w + 1) / 2) / (w + 1)

/-- Stage 6: position and spread (R83, R84). -/
def EchoPart.observe (observations : Nat) (o : Observation) (e : EchoPart) : EchoPart :=
  { e with
    position := runningPosition e.position observations o.position
    spreadMin := min e.spreadMin o.position
    spreadMax := max e.spreadMax o.position }

/-- A handle appended to a station list, unless it is listed already or the list holds 8 (R97). -/
def appendHandle (handle : Nat) (list : List Nat) : List Nat :=
  if list.contains handle || Config.stationListLimit ≤ list.length then list else list ++ [handle]

/-- The state in which an observation leaves an echo record (R99, R101, R102). -/
def echoStateAfter (confirmStations : Nat) (st : RecordState) (listLength : Nat) : RecordState :=
  match st with
  | .suspect | .cleared => if confirmStations ≤ listLength then .confirmed else .suspect
  | .confirmed | .probeWait | .probing | .dormant | .unresolved => st

/-- Steps 4 to 7 of R95, for a matched record and for a new one (R96): state, tap, frozen flag, then flags and links.
`touched` says whether steps 1 to 3 moved the position or lengthened the list. -/
def State.concludeObservation (n : SlotNo) (touched : Bool) (s : State) : State :=
  match s.record n with
  | none => s
  | some r =>
    match r.body with
    | .ingress _ => s
    | .echo e =>
      let new := echoStateAfter s.settings.confirmStations r.state e.stations.length
      let recurred := if r.state = .cleared then { r with recurrences := min 255 (r.recurrences + 1) } else r
      let tapped := e.retap s.plant new
      let final := ({ recurred.enter new with body := .echo tapped }).refreeze s.plant
      let put := s.putRecord n final (touched || new != r.state || tapped.tap != e.tap)
      if new = .confirmed ∧ r.state ≠ .confirmed then (put.raise flagConfirmed).evaluateLinks e.leg else put

/-- An observation matched to a record: steps 1 to 7 of R95. -/
def State.feedEcho (n : SlotNo) (o : Observation) (s : State) : State :=
  match s.record n with
  | none => s
  | some r =>
    match r.body with
    | .ingress _ => s
    | .echo e =>
      let moved := e.observe r.observations o
      let listed := appendHandle o.handle e.stations
      let fed := { (r.addEvidence s.settings.scoreAdd o.level o.second) with
        body := .echo { moved with stations := listed } }
      (s.putRecord n fed false).concludeObservation n
        (moved.position != e.position || listed.length != e.stations.length)

/-- An observation that matches no record asks for an allocation (R80, R96, R11). -/
def State.openEcho (o : Observation) (s : State) : State :=
  match s.allocationSlot with
  | none => s.raise flagTableFull
  | some n =>
    (s.allocateAt n (newEcho s.settings o.leg o.position o.level o.handle o.second)).concludeObservation n false

/-- Stages 5 and 6 for an observation (R79, R80). -/
def State.observe (o : Observation) (s : State) : State :=
  match s.matchEcho o with
  | some n => s.feedEcho n o
  | none => s.openEcho o

/-! ### The checks -/

/-- Whether a report was stamped in an ISOLATE dwell of the station's own leg, in the round in progress (R90). -/
def State.contradictsMap (leg : Leg) (tag : StepTag) (s : State) : Bool :=
  match tag with
  | .legDwell l r .isolate => l == leg && s.round.isSome && r == s.roundNumber
  | .legDwell _ _ .atten => false
  | .quiet | .settle | .refDwell _ => false

/-- Stages 1 to 4, and the observation they pass on (R73 to R77). -/
def State.placeEcho (x : Located) (rate delay level : Nat) (second : Word32) (s : State) : State :=
  let distance := echoDistance delay x.vf rate
  if distance ≤ x.station.drop then s.markDropEcho x second
  else
    match plantPosition s.settings.matchWindow
        (echoPosition (tapDistance s.plant x.leg x.station.tap) x.station.drop distance) with
    | none => s
    | some p =>
      let inZone := match (s.plant.get x.leg).zone with
        | some z => z.holds p
        | none => false
      if inZone then s
      else s.observe { leg := x.leg, position := p, level := level, handle := x.station.handle, second := second }

/-- The handling of a burst report that dispatch hands over: the checks of R88 in their order. -/
def State.handleBurst (rate handle delay level : Nat) (isEcho : Bool) (stamps : Stamps) (s : State) : State :=
  match s.locate handle with
  | none => s
  | some x =>
    if s.contradictsMap x.leg stamps.tag then s.markMisplaced x stamps.second
    else if isEcho then s.placeEcho x rate delay level stamps.second
    else s

end Sys2Proof.Machine
end

