-- ==== Sys2Proof/Machine/Bands.lean ====
section
/-! DEFINITION. Bands.lean: the Band Monitor: baselines, detection, ingress records, and the routing of band reports
(chapter 6). -/

namespace Sys2Proof.Machine

/-- One band's entry. -/
def State.band (s : State) (b : Band) : BandEntry := s.bands[b]

/-- Another entry for one band. -/
def State.setBand (b : Band) (x : BandEntry) (s : State) : State := s.withBands (s.bands.set b.val x)

/-- Whether a record is an ingress record of a band. -/
def Record.ingressOf (b : Band) (r : Record) : Bool :=
  match r.body with
  | .echo _ => false
  | .ingress g => g.band == b

/-- The slot of a band's ingress record (R108). -/
def State.ingressSlot (b : Band) (s : State) : Option SlotNo :=
  (s.records.find? fun p => p.2.ingressOf b).map Prod.fst

/-- The record of a slot is reopened into PROBE_WAIT, and joins the wait queue with the report's arrival second (R112,
R113). -/
def State.reopen (n : SlotNo) (second : Word32) (s : State) : State :=
  match s.record n with
  | none => s
  | some r =>
    match r.body with
    | .echo _ => s
    | .ingress g =>
      let reset := { r with
        recurrences := min 255 (r.recurrences + 1)
        body := .ingress { g with attempts := 0, voidStreak := 0 } }
      ((s.putRecord n reset false).enterState n .probeWait).joinQueue n second

/-- A detecting report's evidence for the band's ingress record, and its reopening where the streak stands (R109). -/
def State.feedIngress (n : SlotNo) (excess streak : Nat) (second : Word32) (s : State) : State :=
  match s.record n with
  | none => s
  | some r =>
    let fed := s.putRecord n (r.addEvidence s.settings.scoreAdd excess second) false
    match r.state with
    | .dormant | .cleared => if s.settings.ingressStreak ≤ streak then fed.reopen n second else fed
    | .suspect | .probeWait | .probing | .confirmed | .unresolved => fed

/-- A detecting report of a band without an ingress record asks for one where the streak stands (R110, R111). -/
def State.openIngress (b : Band) (excess streak : Nat) (second : Word32) (s : State) : State :=
  if s.settings.ingressStreak ≤ streak then
    match s.allocationSlot with
    | none => s.raise flagTableFull
    | some n => (s.allocateAt n (newIngress s.settings b excess second)).joinQueue n second
  else s

/-- A quiet report at or above INGRESS_EXCESS (R108). -/
def State.detect (b : Band) (excess : Nat) (second : Word32) (s : State) : State :=
  let streak := min 8 ((s.band b).streak + 1)
  let counted := s.setBand b { baseline := (s.band b).baseline, streak := streak }
  match s.ingressSlot b with
  | some n => counted.feedIngress n excess streak second
  | none => counted.openIngress b excess streak second

/-- A quiet-tagged report of a band: it sets the baseline, or moves it, or detects (R106 to R108). -/
def State.quietBand (b : Band) (power : Int) (second : Word32) (s : State) : State :=
  match (s.band b).baseline with
  | none => s.setBand b { baseline := some power, streak := 0 }
  | some base =>
    let excess := power - base
    if excess < s.settings.ingressExcess then s.setBand b { baseline := some (base + excess.tdiv 16), streak := 0 }
    else s.detect b excess.toNat second

/-- The band of the PROBING record of a round (R105). -/
def State.probedBand (r : Round) (s : State) : Option Band :=
  match s.named r.record with
  | none => none
  | some x => x.ingress?.map fun g => g.band

/-- A report's power added to the sum of the dwell that its tag names (R114). A leg outside the snapshot has no sum. -/
def Round.addSum (tag : StepTag) (power : Int) (r : Round) : Round :=
  match tag with
  | .quiet | .settle => r
  | .refDwell _ => { r with refSum := r.refSum.add power }
  | .legDwell l _ _ =>
    match r.marks.get l with
    | .notInSnapshot => r
    | .notYetVisited | .visited | .skipped => { r with legSums := r.legSums.set l ((r.legSums.get l).add power) }

/-- A dwell-tagged report: added to its dwell's sum when it is of the round in progress and of the probed band, ignored
otherwise (R105, R114, R115). -/
def State.dwellBand (b : Band) (power : Int) (tag : StepTag) (s : State) : State :=
  match s.round with
  | none => s
  | some r =>
    if tag.belongsTo s.roundNumber = true ∧ s.probedBand r = some b then
      match s.mode with
      | .active r step elapsed => s.withMode (.active (r.addSum tag power) step elapsed)
      | .closing r => s.withMode (.closing (r.addSum tag power))
      | .idle | .waitBudget | .paused | .manual _ _ _ | .locked => s
    else s

/-- The handling of a band report that dispatch hands over (R105). -/
def State.handleBand (b : Band) (power : Int) (stamps : Stamps) (s : State) : State :=
  match stamps.tag with
  | .quiet => s.quietBand b power stamps.second
  | .settle => s
  | .refDwell _ | .legDwell _ _ _ => s.dwellBand b power stamps.tag

end Sys2Proof.Machine
end

