-- ==== Sys2Proof/Machine/Reports.lean ====
section
/-! DEFINITION. Reports.lean: the report port, the report queue, HOLD, and dispatch (chapter 3). -/

namespace Sys2Proof.Machine

/-! ### Reading a report -/

/-- A field of a report's 64 bits, bit 63 received first: `width` bits whose lowest is bit `low`. -/
def reportField (bits : BitVec 64) (low width : Nat) : Nat := (bits.extractLsb' low width).toNat

/-- The eight bytes of a report read into fields, with no check of their values (R58, R195). -/
def readReport (bits : BitVec 64) : Report :=
  let kind := reportField bits 60 4
  match kind with
  | 1 =>
    .burst (rate := reportField bits 56 4) (handle := reportField bits 40 16) (delay := reportField bits 24 16)
      (level := reportField bits 16 8)
  | 2 => .band (band := reportField bits 48 8) (power := (bits.extractLsb' 32 16).toInt)
  | _ => .other kind

/-! ### The port -/

/-- The step tag of the step in effect (R60). -/
def State.stepTag (s : State) : StepTag :=
  match s.mode with
  | .active _ .ref _ => .refDwell s.roundNumber
  | .active r (.probe l) _ => .legDwell l s.roundNumber r.snap.depth
  | .active _ (.settleIn _) _ | .active _ (.settleOut _) _ => .settle
  | .closing _ | .manual _ _ _ => .settle
  | .idle | .waitBudget | .paused | .locked => if s.anySettle then .settle else .quiet

/-- Select is asserted: the count begins afresh at 0; a select still under way is discarded (R57). -/
def State.assertSelect (s : State) : State :=
  s.withPort { counting := true, count := 0, bits := 0, pending := none }

/-- A bit is received: ignored while no counted select is under way; the 64th takes the stamps and makes the report
pending. A further bit spoils the count, and the report stays pending until the release of select, where R57 discards the
select and the pending report with it (R57, R59). -/
def State.receiveBit (bit : Bool) (s : State) : State :=
  if s.port.counting then
    let count := s.port.count + 1
    if count ≤ 64 then
      s.withPort
        { counting := true, count := count
          bits := (s.port.bits <<< 1) ||| (if bit then 1#64 else 0#64)
          pending := if count = 64 then some { second := s.clock.seconds, tag := s.stepTag } else none }
    else s.withPort { counting := true, count := count, bits := s.port.bits, pending := s.port.pending }
  else s

/-! ### The queue and HOLD -/

/-- HOLD after an arrival has brought the queue to a count (R63). -/
def holdAfterArrival (hold : Bool) (count : Nat) : Bool := hold || Config.holdDriveAt ≤ count

/-- HOLD after a dispatch has brought the queue to a count (R63). -/
def holdAfterDispatch (hold : Bool) (count : Nat) : Bool := hold && !(decide (count ≤ Config.holdReleaseAt))

/-- A report is offered to the queue: appended while the queue holds fewer than 64 entries, otherwise discarded with
REPORT_OVERRUN (R61 to R63). -/
def State.offerReport (x : QueuedReport) (s : State) : State :=
  if s.queue.length < Config.queueCapacity then
    (s.withQueue (s.queue ++ [x])).withHold (holdAfterArrival s.hold (s.queue.length + 1))
  else s.raise flagOverrun

/-- Select is released: a select of exactly 64 counted bits is a report that arrives, any other is discarded (R57,
R59). -/
def State.releaseSelect (s : State) : State :=
  let idle := s.withPort Port.initial
  match s.port.counting, s.port.pending with
  | true, some stamps =>
    if s.port.count = 64 then idle.offerReport { report := readReport s.port.bits, stamps := stamps } else idle
  | true, none => idle
  | false, _ => idle

/-! ### Dispatch -/

/-- The level code of a burst report after the clamp (R66). -/
def clampLevel (level : Nat) : Nat := max 20 level

/-- Whether a prepared burst report is classed echo (R66). -/
def classedEcho (echoFloor delay level : Nat) : Bool := 16 ≤ delay && level ≤ echoFloor

/-- The power of a band report after the clamp (R67). -/
def clampPower (power : Int) : Int := max (-240) (min power 240)

/-- The content of a dispatched report is judged and handed to its block: a malformed one is discarded, a burst whose
delay is above 383 as well (R65 to R67). -/
def State.handleReport (x : QueuedReport) (s : State) : State :=
  match x.report with
  | .other _ => s
  | .burst rate handle delay level =>
    if rate ≤ 3 ∧ delay ≤ 383 then
      let code := clampLevel level
      s.handleBurst rate handle delay code (classedEcho s.settings.echoFloor delay code) x.stamps
    else s
  | .band band power => if h : band < 16 then s.handleBand ⟨band, h⟩ (clampPower power) x.stamps else s

/-- A dispatch of the head entry: it leaves the queue, and its report is handled completely (R63, R64). -/
def State.dispatchHead (s : State) : State :=
  match s.queue with
  | [] => s
  | x :: rest => ((s.withQueue rest).withHold (holdAfterDispatch s.hold rest.length)).handleReport x

end Sys2Proof.Machine
end

