-- ==== Sys2Proof/Machine/Plant.lean ====
section
/-! DEFINITION. Plant.lean: the Plant Map's requests: staging, activation, reading, work zones (chapter 2). Each `serve`
definition is the owner's answer to one request, by R186 step 2 (the argument length) and step 3. -/

namespace Sys2Proof.Machine

/-! ### Staging -/

/-- MAP_OPEN (R42). -/
def serveMapOpen (args : List Byte) (s : State) : Answer :=
  match args with
  | [leg, v1, v0] =>
    match legOf leg with
    | none => refuse .badArgument s
    | some l =>
      match s.staging with
      | some _ => refuse .wrongState s
      | none =>
        let vf := clamp 600 990 (nat2 v1 v0)
        answerOk (bytes2 vf) (s.withStaging (some { leg := l, vf := vf, taps := [], stations := [] }))
  | _ => refuse .badArgument s

/-- Whether distances follow in strictly rising order, each at most 20000, after a last one already staged (R43). -/
def tapsFollow : Option Nat → List Nat → Bool
  | _, [] => true
  | last, d :: ds =>
    d ≤ Config.maxDistance &&
      (match last with
        | none => true
        | some p => p < d) &&
      tapsFollow (some d) ds

/-- MAP_TAPS (R43, R190). -/
def serveMapTaps (args : List Byte) (s : State) : Answer :=
  match readWords args with
  | none => refuse .badArgument s
  | some distances =>
    if 64 < distances.length then refuse .badArgument s
    else
      match s.staging with
      | none => refuse .wrongState s
      | some g =>
        if tapsFollow g.taps.getLast? distances = false then refuse .badArgument s
        else if Config.tapsPerLeg < g.taps.length + distances.length then refuse .full s
        else
          let taps := g.taps ++ distances
          answerOk [byteOf taps.length] (s.withStaging (some { g with taps := taps }))

/-- Whether each entry of a MAP_STATIONS is acceptable: handle not 0, not staged, not repeated; tap index below the
staged tap count; drop acceptable (R44). -/
def stationsFit (tapCount : Nat) : List Nat → List (Station × Bool) → Bool
  | _, [] => true
  | held, (x, dropFits) :: rest =>
    x.handle != 0 && !held.contains x.handle && decide (x.tap < tapCount) && dropFits &&
      stationsFit tapCount (x.handle :: held) rest

/-- MAP_STATIONS (R44, R190). -/
def serveMapStations (args : List Byte) (s : State) : Answer :=
  match readStations args with
  | none => refuse .badArgument s
  | some entries =>
    if 49 < entries.length then refuse .badArgument s
    else
      match s.staging with
      | none => refuse .wrongState s
      | some g =>
        if stationsFit g.taps.length (g.stations.map fun x => x.handle) entries = false then refuse .badArgument s
        else if Config.stationsPerLeg < g.stations.length + entries.length then refuse .full s
        else
          let stations := g.stations ++ entries.map Prod.fst
          answerOk (bytes2 stations.length) (s.withStaging (some { g with stations := stations }))

/-- MAP_DISCARD (R45). -/
def serveMapDiscard (args : List Byte) (s : State) : Answer :=
  match args with
  | [] => answerOk [] (s.withStaging none)
  | _ :: _ => refuse .badArgument s

/-! ### Activation -/

/-- The leg other than the staged one whose active station set holds a handle (R46). -/
def State.conflictLeg (staged : Leg) (handle : Nat) (s : State) : Option Leg :=
  allLegs.find? fun l => l != staged && (s.plant.get l).stations.any fun x => x.handle == handle

/-- The first staged handle that is active on another leg, and that leg (R46). -/
def State.conflict (g : Staging) (s : State) : Option (Nat × Leg) :=
  g.stations.findSome? fun x => (s.conflictLeg g.leg x.handle).map fun l => (x.handle, l)

/-- The active stations of all legs but one. -/
def State.stationsElsewhere (leg : Leg) (s : State) : Nat :=
  ((allLegs.filter fun l => l != leg).map fun l => (s.plant.get l).stations.length).sum

/-- The active stations of the whole map (R50). -/
def State.stationsInAll (s : State) : Nat := (allLegs.map fun l => (s.plant.get l).stations.length).sum

/-- The numbers of the echo records on a leg that are pinned, or that are not, in ascending order. -/
def State.echoesOn (leg : Leg) (pinned : Bool) (s : State) : List SlotNo :=
  (s.records.filter fun p =>
    match p.2.echo? with
    | none => false
    | some e => e.leg == leg && p.2.pinned == pinned).map Prod.fst

/-- A pinned echo record is kept with its stale-scale flag set (R48). -/
def Slot.markStale (x : Slot) : Slot :=
  match x.record with
  | none => x
  | some r =>
    match r.body with
    | .ingress _ => x
    | .echo e => { x with record := some { r with body := .echo { e with staleScale := true } } }

/-- The leg is rescaled: unpinned echo records on it are retired, in ascending number, the pinned ones are marked
stale-scale (R48). -/
def State.rescale (leg : Leg) (s : State) : State :=
  let kept := (s.echoesOn leg true).foldl (fun t n => t.setSlot n (t.slot n).markStale) s
  (s.echoesOn leg false).foldl (fun t n => State.retireQuietly n t) kept

/-- A slot with its echo record re-attributed, where the record is CONFIRMED or CLEARED on the leg (R49). -/
def Slot.reattribute (plant : PerLeg LegMap) (leg : Leg) (x : Slot) : Slot :=
  match x.record with
  | none => x
  | some r =>
    match r.body with
    | .ingress _ => x
    | .echo e =>
      if e.leg = leg ∧ (r.state = .confirmed ∨ r.state = .cleared) then
        let e' := e.retap plant r.state
        { x with changed := x.changed || e'.tap != e.tap, record := some { r with body := .echo e' } }
      else x

/-- The activation of a staging that passes R46: the map first, then the records, then the links (R47 to R49). -/
def State.activate (g : Staging) (s : State) : State :=
  let old := s.plant.get g.leg
  let mapped := (s.withPlant (s.plant.set g.leg
    { vf := some g.vf, taps := g.taps, stations := g.stations, zone := old.zone })).withStaging none
  let rescaled := match old.vf with
    | none => mapped
    | some vf => if vf = g.vf then mapped else mapped.rescale g.leg
  (rescaled.withTable (rescaled.table.map (Slot.reattribute rescaled.plant g.leg))).evaluateLinks g.leg

/-- Whether an activation changes the velocity factor of an ACTIVE leg (R48). -/
def State.rescales (g : Staging) (s : State) : Bool :=
  match (s.plant.get g.leg).vf with
  | none => false
  | some vf => vf != g.vf

/-- MAP_ACTIVATE (R46, R47, R196). -/
def serveMapActivate (args : List Byte) (s : State) : Answer :=
  match args with
  | _ :: _ => refuse .badArgument s
  | [] =>
    match s.staging with
    | none => refuse .wrongState s
    | some g =>
      match s.conflict g with
      | some (handle, l) => refuseWith .conflict (bytes2 handle ++ [byteOf l.val]) s
      | none =>
        let total := g.stations.length + s.stationsElsewhere g.leg
        if Config.stationsInAll < total then refuseWith .full (bytes2 total) s
        else
          let retired := if s.rescales g then (s.echoesOn g.leg false).length else 0
          let kept := if s.rescales g then (s.echoesOn g.leg true).length else 0
          answerOk (bytes2 g.stations.length ++ [byteOf retired, byteOf kept]) (s.activate g)

/-! ### Reading the map -/

/-- READ_LEG (R50, R196). -/
def serveReadLeg (args : List Byte) (s : State) : Answer :=
  match args with
  | [leg] =>
    match legOf leg with
    | none => refuse .badArgument s
    | some l =>
      let m := s.plant.get l
      let staged := match s.staging with
        | none => [0, 0, 0, 0, 0, 0]
        | some g => [byteOf g.leg.val] ++ bytes2 g.vf ++ [byteOf g.taps.length] ++ bytes2 g.stations.length
      let zone := match m.zone with
        | none => [0, 0, 0, 0]
        | some z => bytes2 z.first ++ bytes2 z.last
      answerOk
        ([flagBit m.vf.isSome 0, flagBit m.vf.isSome 0 ||| flagBit m.zone.isSome 1 ||| flagBit s.staging.isSome 2] ++
          bytes2 (m.vf.getD 0) ++ [byteOf m.taps.length] ++ bytes2 m.stations.length ++
          bytes2 (m.stations.countP fun x => x.misplaced.isSome) ++
          bytes2 (m.stations.countP fun x => x.dropEcho.isSome) ++ zone ++ bytes2 s.stationsInAll ++ staged ++
          m.taps.flatMap bytes2) s
  | _ => refuse .badArgument s

/-- An entry of READ_STATIONS (R51, R190). -/
def stationBytes (x : Station) : List Byte :=
  bytes2 x.handle ++ [byteOf x.tap] ++ bytes2 x.drop ++ [flagBit x.misplaced.isSome 0 ||| flagBit x.dropEcho.isSome 1]

/-- READ_STATIONS (R51, R190). -/
def serveReadStations (args : List Byte) (s : State) : Answer :=
  match args with
  | [leg, page] =>
    match legOf leg with
    | none => refuse .badArgument s
    | some l =>
      let stations := (s.plant.get l).stations
      let entries := (stations.drop (40 * page.toNat)).take 40
      answerOk (bytes2 stations.length ++ [byteOf entries.length] ++ entries.flatMap stationBytes) s
  | _ => refuse .badArgument s

/-! ### Work zones -/

/-- A slot with its record's frozen flag recomputed, where the record is on a leg (R24, R53). -/
def Slot.refreezeOn (plant : PerLeg LegMap) (leg : Leg) (x : Slot) : Slot :=
  match x.record with
  | none => x
  | some r => if r.leg? = some leg then { x with record := some (r.refreeze plant) } else x

/-- The frozen records on a leg (R53). -/
def State.frozenOn (leg : Leg) (s : State) : Nat :=
  s.records.countP fun p => p.2.leg? == some leg && p.2.frozen

/-- A leg's work zone is replaced or removed, and the frozen flags of the records on the leg are recomputed (R53). -/
def State.putZone (leg : Leg) (zone : Option Zone) (s : State) : State :=
  let plant := s.plant.set leg { s.plant.get leg with zone := zone }
  (s.withPlant plant).withTable (s.table.map (Slot.refreezeOn plant leg))

/-- SET_ZONE (R53, R127, R132). -/
def serveSetZone (args : List Byte) (s : State) : Answer :=
  match args with
  | [leg, f1, f0, e1, e0] =>
    let first := nat2 f1 f0
    let last := nat2 e1 e0
    match legOf leg with
    | none => refuse .badArgument s
    | some l =>
      if last < first ∨ Config.maxDistance < last then refuse .badArgument s
      else
        let zoned := s.putZone l (some { first := first, last := last })
        answerOk (bytes2 first ++ bytes2 last ++ [byteOf (zoned.frozenOn l)]) ((zoned.zoneRound l).startTestIfIdle)
  | _ => refuse .badArgument s

/-- CLEAR_ZONE (R53, R127, R132). -/
def serveClearZone (args : List Byte) (s : State) : Answer :=
  match args with
  | [leg] =>
    match legOf leg with
    | none => refuse .badArgument s
    | some l =>
      let cleared := s.putZone l none
      answerOk [byteOf (cleared.frozenOn l)] cleared.startTestIfIdle
  | _ => refuse .badArgument s

/-- One leg's entry of READ_ZONES (R54, R190). The start and the end of an absent zone are sent as 0: the spec does not
say what they hold (DESIGN CHOICE, log entry 20). -/
def zoneBytes (m : LegMap) : List Byte :=
  match m.zone with
  | none => [0, 0, 0, 0, 0]
  | some z => [1] ++ bytes2 z.first ++ bytes2 z.last

/-- READ_ZONES (R54, R190). -/
def serveReadZones (args : List Byte) (s : State) : Answer :=
  match args with
  | [] => answerOk (s.plant.toList.flatMap zoneBytes) s
  | _ :: _ => refuse .badArgument s

end Sys2Proof.Machine
end

