-- ==== Sys2Proof/Machine/Records.lean ====
section
/-! DEFINITION. Records.lean: the operator's requests on records (chapter 9), each the owner's answer by R186 steps 2
and 3. -/

namespace Sys2Proof.Machine

/-- A record that a request names, checked by R3: a number of 96 or higher is BAD_ARGUMENT, a FREE slot or another
generation NO_RECORD. -/
def State.checkName (num gen : Byte) (s : State) : Except Status (SlotNo × Record) :=
  if h : num.toNat < 96 then
    match s.record ⟨num.toNat, h⟩ with
    | none => .error .noRecord
    | some r => if (s.slot ⟨num.toNat, h⟩).gen = gen then .ok (⟨num.toNat, h⟩, r) else .error .noRecord
  else .error .badArgument

/-! ### LOOKUP -/

/-- An optional second or ticket as four bytes, 0 when absent (R195). -/
def optionalWord (x : Option Word32) : List Byte := bytes4 (x.getD 0).toNat

/-- A position with the bytes of a tap and its distance, as R167 reads them from a record's neighbours. -/
structure Probable where
  position : Nat
  tap : Option Nat
  distance : Nat
  deriving DecidableEq, Repr

/-- The probable position and tap of an ingress record: those of the linked echo record (R167). -/
def State.probable (g : IngressPart) (s : State) : Option Probable :=
  match g.link with
  | none => none
  | some name =>
    match (s.named name).bind Record.echo? with
    | none => none
    | some e => some
        { position := e.position, tap := e.tap
          distance := match e.tap with
            | none => 0
            | some t => tapDistance s.plant e.leg t }

/-- The presence byte of a record body (R195). -/
def presenceByte (leg tap last link retention ticket position probableTap : Bool) : Byte :=
  flagBit leg 0 ||| flagBit tap 1 ||| flagBit last 2 ||| flagBit link 3 ||| flagBit retention 4 ||| flagBit ticket 5 |||
    flagBit position 6 ||| flagBit probableTap 7

/-- The common part of a record body (R195). -/
def commonBytes (n : SlotNo) (x : Slot) (r : Record) (kind : Nat) (stale : Bool) (presence : Byte) : List Byte :=
  [byteOf n.val, x.gen, byteOf (recordStateCode r.state), byteOf kind,
    flagBit r.acknowledged 0 ||| flagBit r.pinned 1 ||| flagBit r.frozen 2 ||| flagBit stale 3 ||| flagBit x.changed 4,
    presence, byteOf ((r.leg?.map Fin.val).getD 0), byteOf r.severity] ++ bytes2 r.observations ++
    [byteOf r.score, byteOf r.recurrences, byteOf (r.retention.getD 0)] ++ bytes4 r.firstSeen.toNat ++
    bytes4 r.lastEvidence.toNat ++ optionalWord r.ticket

/-- The echo part of a record body (R195). -/
def echoBytes (plant : PerLeg LegMap) (e : EchoPart) : List Byte :=
  let distance := match e.tap with
    | none => 0
    | some t => tapDistance plant e.leg t
  bytes2 e.position ++ bytes2 e.spreadMin ++ bytes2 e.spreadMax ++ [byteOf (e.tap.getD 0)] ++ bytes2 distance ++
    [byteOf e.stations.length] ++ e.stations.flatMap bytes2

/-- One last drop, 0 when absent (R195). -/
def dropByte (d : Option Int) : Byte := signedByte (d.getD 0)

/-- The last outcome, last drops and their presence bits (R195). -/
def roundBytes (x : Option RoundResult) : List Byte :=
  match x with
  | none => [0, 0, 0, 0, 0, 0]
  | some y =>
    [byteOf (outcomeCode y.outcome)] ++ y.drops.toList.map dropByte ++
      [flagBit (y.drops.get 0).isSome 0 ||| flagBit (y.drops.get 1).isSome 1 ||| flagBit (y.drops.get 2).isSome 2 |||
        flagBit (y.drops.get 3).isSome 3]

/-- The ingress part of a record body (R118, R167, R195). -/
def ingressBytes (g : IngressPart) (s : State) : List Byte :=
  let link := match g.link with
    | none => [0, 0]
    | some name => nameBytes name
  let probable := match s.probable g with
    | none => [0, 0, 0, 0, 0]
    | some p => bytes2 p.position ++ [byteOf (p.tap.getD 0)] ++ bytes2 p.distance
  [byteOf g.band.val, byteOf g.attempts, byteOf g.voidStreak] ++ roundBytes g.lastRound ++ link ++ probable ++
    signedBytes2 (s.baselineOf g.band) ++ [byteOf (s.band g.band).streak]

/-- The record body that LOOKUP gives (R166, R167, R195). -/
def State.recordBody (n : SlotNo) (r : Record) (s : State) : List Byte :=
  match r.body with
  | .echo e =>
    commonBytes n (s.slot n) r 0 e.staleScale
      (presenceByte true e.tap.isSome false false r.retention.isSome r.ticket.isSome false false) ++ echoBytes s.plant e
  | .ingress g =>
    let p := s.probable g
    commonBytes n (s.slot n) r 1 false
      (presenceByte g.leg.isSome false g.lastRound.isSome g.link.isSome r.retention.isSome r.ticket.isSome p.isSome
        (p.bind Probable.tap).isSome) ++ ingressBytes g s

/-- LOOKUP (R166, R167). -/
def serveLookup (args : List Byte) (s : State) : Answer :=
  match args with
  | [num, gen] =>
    match s.checkName num gen with
    | .error e => refuse e s
    | .ok (n, r) => answerOk (s.recordBody n r) s
  | _ => refuse .badArgument s

/-! ### FIND, FIND_STATION and LIST_CHANGED -/

/-- A filter of FIND: each term present or absent (R168). -/
structure Filter where
  kind : Option Bool
  states : Option Byte
  leg : Option Leg
  span : Option (Nat × Nat)
  band : Option Band
  acknowledged : Option Bool
  deriving DecidableEq, Repr

/-- The value of a term that takes 0 or 1 (R190). -/
def readFlag (b : Byte) : Option Bool :=
  match b.toNat with
  | 0 => some false
  | 1 => some true
  | _ => none

/-- A band that a byte names. -/
def bandOf (b : Byte) : Option Band := if h : b.toNat < 16 then some ⟨b.toNat, h⟩ else none

/-- A term of the filter: absent where its presence bit is clear, refused where the value sent is none of its values. -/
def readTerm {α : Type} (isPresent : Bool) (value : Option α) : Option (Option α) :=
  if isPresent then value.map some else some none

/-- The filter of ten bytes (R190); none where R168 or R190 refuses it. -/
def readFilter (p kind states leg l1 l0 h1 h0 band ack : Byte) : Option Filter := do
  let kindTerm ← readTerm (p.getLsbD 0) (readFlag kind)
  let statesTerm ← readTerm (p.getLsbD 1) (if states.toNat / 2 = 0 then none else some states)
  let legTerm ← readTerm (p.getLsbD 2) (legOf leg)
  let spanTerm ← readTerm (p.getLsbD 3)
    (if nat2 l1 l0 ≤ nat2 h1 h0 ∧ nat2 h1 h0 ≤ Config.maxDistance then some (nat2 l1 l0, nat2 h1 h0) else none)
  let bandTerm ← readTerm (p.getLsbD 4) (bandOf band)
  let ackTerm ← readTerm (p.getLsbD 5) (readFlag ack)
  some { kind := kindTerm, states := statesTerm, leg := legTerm, span := spanTerm, band := bandTerm,
         acknowledged := ackTerm }

/-- A term is met when it is absent, or when its test holds of its value. -/
def termMet {α : Type} (term : Option α) (test : α → Bool) : Bool :=
  match term with
  | none => true
  | some x => test x

/-- Whether a record meets a filter (R168). -/
def Filter.meets (f : Filter) (r : Record) : Bool :=
  termMet f.kind (fun k => k == r.ingress?.isSome) &&
    termMet f.states (fun b => b.getLsbD (recordStateCode r.state)) &&
    termMet f.leg (fun l => r.leg? == some l) &&
    termMet f.span (fun b =>
      match r.echo? with
      | none => false
      | some e => b.1 ≤ e.position && e.position ≤ b.2) &&
    termMet f.band (fun b => r.ingressOf b) &&
    termMet f.acknowledged (fun a => a == r.acknowledged)

/-- A list of names in reply data: the count, then the names (R190). -/
def nameList (names : List RecordName) : List Byte := [byteOf names.length] ++ names.flatMap nameBytes

/-- The names of the records that pass a test, in ascending number. -/
def State.namesOf (test : Record → Bool) (s : State) : List RecordName :=
  (s.records.filter fun p => test p.2).map fun p => s.nameOf p.1

/-- FIND (R168, R169). -/
def serveFind (args : List Byte) (s : State) : Answer :=
  match args with
  | [p, kind, states, leg, l1, l0, h1, h0, band, ack] =>
    match readFilter p kind states leg l1 l0 h1 h0 band ack with
    | none => refuse .badArgument s
    | some f => answerOk (nameList (s.namesOf f.meets)) s
  | _ => refuse .badArgument s

/-- Whether an echo record's station list holds a handle (R170). -/
def Record.lists (handle : Nat) (r : Record) : Bool :=
  match r.body with
  | .echo e => e.stations.contains handle
  | .ingress _ => false

/-- The map answer of FIND_STATION (R52, R196). -/
def mapAnswer (x : Option Located) : List Byte :=
  match x with
  | none => List.replicate 14 0
  | some y =>
    [1, flagBit y.station.misplaced.isSome 0 ||| flagBit y.station.dropEcho.isSome 1, byteOf y.leg.val,
      byteOf y.station.tap] ++ bytes2 y.station.drop ++ optionalWord y.station.misplaced ++
      optionalWord y.station.dropEcho

/-- FIND_STATION (R52, R170). -/
def serveFindStation (args : List Byte) (s : State) : Answer :=
  match args with
  | [h1, h0] =>
    let handle := nat2 h1 h0
    answerOk (mapAnswer (s.locate handle) ++ nameList (s.namesOf (Record.lists handle))) s
  | _ => refuse .badArgument s

/-- The slots whose changed flags are set, in ascending number (R171). -/
def State.changedSlots (s : State) : List SlotNo := allSlots.filter fun n => (s.slot n).changed

/-- LIST_CHANGED (R171). -/
def serveListChanged (args : List Byte) (s : State) : Answer :=
  match args with
  | [] =>
    answerOk (nameList (s.changedSlots.map s.nameOf)) (s.withTable (s.table.map fun x => { x with changed := false }))
  | _ :: _ => refuse .badArgument s

/-! ### Flags and annotations -/

/-- ACKNOWLEDGE (R172). -/
def serveAcknowledge (args : List Byte) (s : State) : Answer :=
  match args with
  | [num, gen] =>
    match s.checkName num gen with
    | .error e => refuse e s
    | .ok (n, r) => answerOk [] (s.putRecord n { r with acknowledged := true } false)
  | _ => refuse .badArgument s

/-- ANNOTATE (R173). -/
def serveAnnotate (args : List Byte) (s : State) : Answer :=
  match args with
  | [num, gen, t3, t2, t1, t0] =>
    match s.checkName num gen with
    | .error e => refuse e s
    | .ok (n, r) =>
      let ticket := nat4 t3 t2 t1 t0
      answerOk [] (s.putRecord n { r with ticket := if ticket = 0 then none else some (BitVec.ofNat 32 ticket) } false)
  | _ => refuse .badArgument s

/-- PIN (R174). -/
def servePin (args : List Byte) (s : State) : Answer :=
  match args with
  | [num, gen] =>
    match s.checkName num gen with
    | .error e => refuse e s
    | .ok (n, r) => answerOk [] (s.putRecord n { r with pinned := true } false)
  | _ => refuse .badArgument s

/-- UNPIN (R174). -/
def serveUnpin (args : List Byte) (s : State) : Answer :=
  match args with
  | [num, gen] =>
    match s.checkName num gen with
    | .error e => refuse e s
    | .ok (n, r) => answerOk [] (s.putRecord n { r with pinned := false } false)
  | _ => refuse .badArgument s

/-- RETIRE (R175). -/
def serveRetire (args : List Byte) (s : State) : Answer :=
  match args with
  | [num, gen] =>
    match s.checkName num gen with
    | .error e => refuse e s
    | .ok (n, _) => answerOk [] (s.retire n)
  | _ => refuse .badArgument s

/-! ### MERGE -/

/-- The merged position (R177). -/
def mergedPosition (a b : EchoPart) (na nb : Nat) : Nat :=
  let wa := min na 15
  let wb := min nb 15
  (a.position * wa + b.position * wb + (wa + wb) / 2) / (wa + wb)

/-- The merged station list: a's handles, then b's new ones, up to 8 (R177). -/
def mergedStations (a b : List Nat) : List Nat := b.foldl (fun l h => appendHandle h l) a

/-- The merged state (R178). -/
def mergedState (confirmStations listLength : Nat) (a b : RecordState) : RecordState :=
  if a = .confirmed ∨ b = .confirmed ∨ confirmStations ≤ listLength then .confirmed
  else if a = .suspect ∨ b = .suspect then .suspect
  else .cleared

/-- The retention of a merge of two CLEARED records (R178). -/
def mergedRetention (a b : Option Nat) : Option Nat :=
  match a, b with
  | some x, some y => some (max x y)
  | _, _ => none

/-- The earlier of two seconds, as plain 32-bit numbers (R177). -/
def earlier (a b : Word32) : Word32 := if a.toNat ≤ b.toNat then a else b

/-- The later of two seconds, as plain 32-bit numbers (R177). -/
def later (a b : Word32) : Word32 := if a.toNat ≤ b.toNat then b else a

/-- The echo part that a merge writes into a, but for the tap (R177). -/
def mergedEcho (a b : EchoPart) (na nb : Nat) : EchoPart :=
  { a with
    position := mergedPosition a b na nb
    spreadMin := min a.spreadMin b.spreadMin
    spreadMax := max a.spreadMax b.spreadMax
    stations := mergedStations a.stations b.stations
    staleScale := a.staleScale || b.staleScale }

/-- The fields that a merge writes into a, with a's own state, flags and tap still standing (R177). -/
def mergedRecord (a b : Record) (ea eb : EchoPart) : Record :=
  { a with
    severity := min a.severity b.severity
    observations := min 65535 (a.observations + b.observations)
    score := max a.score b.score
    recurrences := max a.recurrences b.recurrences
    firstSeen := earlier a.firstSeen b.firstSeen
    lastEvidence := later a.lastEvidence b.lastEvidence
    pinned := a.pinned || b.pinned
    ticket := if a.ticket.isSome then a.ticket else b.ticket
    body := .echo (mergedEcho ea eb a.observations b.observations) }

/-- The surviving record after steps 1, 3 and 4 of R178: fields, state with R5 and R6, retention, tap, frozen flag. -/
def mergeResult (plant : PerLeg LegMap) (confirmStations : Nat) (a b : Record) (ea eb : EchoPart) : Record :=
  let merged := mergedRecord a b ea eb
  let echo := mergedEcho ea eb a.observations b.observations
  let new := mergedState confirmStations echo.stations.length a.state b.state
  let entered := merged.enter new
  let kept := if new = .cleared then { entered with retention := mergedRetention a.retention b.retention } else entered
  ({ kept with body := .echo (echo.retap plant new) }).refreeze plant

/-- Whether a merge sets a's changed flag: a change of state, position, station list or tap (R178). -/
def mergeChanges (a result : Record) : Bool :=
  result.state != a.state ||
    match a.echo?, result.echo? with
    | some x, some y => y.position != x.position || y.stations != x.stations || y.tap != x.tap
    | _, _ => false

/-- The merge of b into a (R177, R178). -/
def State.merge (na nb : SlotNo) (a b : Record) (ea eb : EchoPart) (s : State) : State :=
  let result := mergeResult s.plant s.settings.confirmStations a b ea eb
  let written := s.putRecord na result (mergeChanges a result)
  let retired := written.retireQuietly nb
  let flagged :=
    if result.state = .confirmed ∧ a.state ≠ .confirmed then retired.raise flagConfirmed else retired
  flagged.evaluateLinks ea.leg

/-- The reply data of MERGE: a's name, state and position after the merge (R178, R190). -/
def State.mergeReply (n : SlotNo) (s : State) : List Byte :=
  nameBytes (s.nameOf n) ++
    match s.record n with
    | none => [0, 0, 0]
    | some r => [byteOf (recordStateCode r.state)] ++ bytes2 ((r.echo?.map EchoPart.position).getD 0)

/-- MERGE (R176 to R178). -/
def serveMerge (args : List Byte) (s : State) : Answer :=
  match args with
  | [numA, genA, numB, genB] =>
    match s.checkName numA genA with
    | .error e => refuse e s
    | .ok (na, a) =>
      match s.checkName numB genB with
      | .error e => refuse e s
      | .ok (nb, b) =>
        if na = nb then refuse .badArgument s
        else
          match a.body, b.body with
          | .echo ea, .echo eb =>
            if ea.leg = eb.leg then
              let merged := s.merge na nb a b ea eb
              answerOk (merged.mergeReply na) merged
            else refuse .wrongState s
          | .ingress _, _ => refuse .wrongState s
          | .echo _, .ingress _ => refuse .wrongState s
  | _ => refuse .badArgument s

/-! ### REPROBE -/

/-- An ingress record returns to PROBE_WAIT, its attempts and void streak 0, and joins the wait queue with the present
second (R179). -/
def State.reprobe (n : SlotNo) (r : Record) (g : IngressPart) (s : State) : State :=
  let reset := { r with body := .ingress { g with attempts := 0, voidStreak := 0 } }
  ((s.putRecord n reset false).enterState n .probeWait).joinQueue n s.clock.seconds

/-- REPROBE (R179). -/
def serveReprobe (args : List Byte) (s : State) : Answer :=
  match args with
  | [num, gen] =>
    match s.checkName num gen with
    | .error e => refuse e s
    | .ok (n, r) =>
      match r.body with
      | .echo _ => refuse .wrongState s
      | .ingress g =>
        match r.state with
        | .probeWait | .probing | .suspect => refuse .wrongState s
        | .confirmed | .unresolved | .dormant | .cleared => answerOk [] (s.reprobe n r g)
  | _ => refuse .badArgument s

end Sys2Proof.Machine
end

