-- ==== Sys2Proof/Machine/Control.lean ====
section
/-! DEFINITION. Control.lean: the requests for the part itself, the clock, the settings, the safety settings, probing,
the switches and the events (chapters 1, 7, 8 and 10), each the owner's answer by R186 steps 2 and 3. -/

namespace Sys2Proof.Machine

/-! ### The part and the clock -/

/-- IDENT (R188). -/
def serveIdent (args : List Byte) (s : State) : Answer :=
  match args with
  | [] =>
    answerOk (bytes2 0x4A46 ++ [24, 3, 96, 4, 64] ++ bytes2 Config.stationsPerLeg ++ bytes2 Config.stationsInAll ++
      [16, byteOf Config.queueCapacity]) s
  | _ :: _ => refuse .badArgument s

/-- RESTART (R188). The line reset at the end of its reply is arranged by the reply itself. -/
def serveRestart (args : List Byte) (s : State) : Answer :=
  match args with
  | [] => answerOk [] s
  | _ :: _ => refuse .badArgument s

/-- READ_CLOCK (R30, R189). -/
def serveReadClock (args : List Byte) (s : State) : Answer :=
  match args with
  | [] => answerOk (bytes4 s.clock.seconds.toNat ++ bytes2 s.clock.ms) s
  | _ :: _ => refuse .badArgument s

/-- SET_CLOCK (R30, R189). -/
def serveSetClock (args : List Byte) (s : State) : Answer :=
  match args with
  | [b3, b2, b1, b0] => answerOk [] (s.withClock { s.clock with seconds := BitVec.ofNat 32 (nat4 b3 b2 b1 b0) })
  | _ => refuse .badArgument s

/-! ### Settings -/

/-- READ_SETTINGS (R189). -/
def serveReadSettings (args : List Byte) (s : State) : Answer :=
  match args with
  | [] => answerOk (settingsBlock s.settings) s
  | _ :: _ => refuse .badArgument s

/-- New settings are stored: a change of AGING_INTERVAL restarts the aging count, and the start test is made in IDLE
(R31, R127, R189). -/
def State.configure (c : Settings) (s : State) : State :=
  let stored := s.withSettings c
  let counted :=
    if c.agingCode = s.settings.agingCode then stored else stored.withClock { s.clock with agingCount := 0 }
  counted.startTestIfIdle

/-- CONFIGURE (R189). -/
def serveConfigure (args : List Byte) (s : State) : Answer :=
  match readSettings args with
  | none => refuse .badArgument s
  | some c => answerOk (settingsBlock c) (s.configure c)

/-- READ_SAFETY (R162, R189). -/
def serveReadSafety (args : List Byte) (s : State) : Answer :=
  match args with
  | [] => answerOk (safetyBlock s.safety ++ [flagBit s.safetyLock 0] ++ bytes2 s.clock.windowCount) s
  | _ :: _ => refuse .badArgument s

/-- Whether the round in progress was latched at ISOLATE (R161). -/
def State.isolateRound (s : State) : Bool :=
  match s.round with
  | some r => r.snap.depth == .isolate
  | none => false

/-- Whether a manual hold is at ISOLATE (R161). -/
def State.isolateHold (s : State) : Bool :=
  match s.mode with
  | .manual _ depth _ => depth == .isolate
  | .idle | .waitBudget | .active _ _ _ | .closing _ | .paused | .locked => false

/-- Whether a held leg has no allowance (R161). -/
def State.heldWithoutAllowance (s : State) : Bool :=
  match s.mode with
  | .manual l _ _ => s.allowance l == 0
  | .idle | .waitBudget | .active _ _ _ | .closing _ | .paused | .locked => false

/-- A clearing of ISOLATE_PERMITTED ends an ISOLATE round or hold (R161 step 4). -/
def State.endIsolate (s : State) : State :=
  if s.safety.isolatePermitted then s
  else if s.isolateRound then s.abortRound .idle
  else if s.isolateHold then s.endHold
  else s

/-- New safety settings are taken: steps 1 to 6 of R161. -/
def State.setSafety (c : Safety) (s : State) : State :=
  let stored := ((s.withSafety c).withClock { s.clock with windowCount := 0 }).zeroCharges
  let ended := stored.endIsolate
  let released := if ended.heldWithoutAllowance then ended.endHold else ended
  released.startTest

/-- SET_SAFETY (R161, R189). -/
def serveSetSafety (args : List Byte) (s : State) : Answer :=
  match readSafety args with
  | none => refuse .badArgument s
  | some c => if s.safetyLock then refuse .locked s else answerOk (safetyBlock c) (s.setSafety c)

/-- LOCK_SAFETY (R162). -/
def serveLockSafety (args : List Byte) (s : State) : Answer :=
  match args with
  | [] => answerOk [] (s.withSafetyLock true)
  | _ :: _ => refuse .badArgument s

/-! ### Probing -/

/-- The code of the sequencer's state (R196). -/
def modeCode (m : Mode) : Nat :=
  match m with
  | .idle => 0
  | .waitBudget => 1
  | .active _ _ _ => 2
  | .closing _ => 3
  | .paused => 4
  | .manual _ _ _ => 5
  | .locked => 6

/-- The manual items of READ_PROBE: leg, depth, origin (R196). -/
def manualBytes (m : Mode) : List Byte :=
  match m with
  | .manual l depth origin =>
    [byteOf l.val, byteOf (depthCode depth), match origin with
      | .idle => 0
      | .paused => 1]
  | .idle | .waitBudget | .active _ _ _ | .closing _ | .paused | .locked => [0, 0, 0]

/-- A leg's visit byte (R196). Bit 2 stands for a drop that a work zone has set absent (log entry 13). -/
def visitByte (r : Round) (l : Leg) : Byte :=
  (match r.marks.get l with
    | .notInSnapshot => 0
    | .notYetVisited => 1
    | .visited => 2
    | .skipped => 3) ||| flagBit (r.dropAbsent.get l) 2

/-- The current step: its code, its leg, the milliseconds elapsed (R196). -/
def stepBytes (m : Mode) : List Byte :=
  match m with
  | .active _ step elapsed =>
    (match step with
      | .ref => [0, 0]
      | .settleIn l => [1, byteOf l.val]
      | .probe l => [2, byteOf l.val]
      | .settleOut l => [3, byteOf l.val]) ++ bytes2 elapsed
  | .idle | .waitBudget | .closing _ | .paused | .manual _ _ _ | .locked => [0, 0, 0, 0]

/-- The round items of READ_PROBE before the current step (R196). -/
def roundHead (x : Option Round) : List Byte :=
  match x with
  | none => [0, 0, 0, 0, 0, 0, 0, 0, 0, 0]
  | some r =>
    nameBytes r.record ++ [byteOf (depthCode r.snap.depth)] ++ bytes2 r.snap.dwellLength ++
      [byteOf r.snap.guardLength] ++ allLegs.map (visitByte r)

/-- The counts of the dwell sums (R196). -/
def roundCounts (x : Option Round) : List Byte :=
  match x with
  | none => List.replicate 10 0
  | some r => bytes2 r.refSum.count ++ r.legSums.toList.flatMap fun y => bytes2 y.count

/-- The controller's items of one leg (R163, R196). -/
def State.switchBytes (s : State) (l : Leg) : List Byte :=
  let x := s.switch l
  [byteOf (switchCode x.commanded), byteOf (sensedCode x.sensed), byteOf (x.settle.getD 0), flagBit x.faultLatch 0] ++
    bytes4 x.charge ++ bytes4 (s.allowance l)

/-- An entry of the wait queue in the probe reply (R196). -/
def waitBytes (e : WaitEntry) : List Byte := nameBytes e.name ++ [byteOf e.excess] ++ bytes4 e.second.toNat

/-- The probe reply (R145, R163, R196). -/
def State.probeReply (s : State) : List Byte :=
  [byteOf (modeCode s.mode),
    flagBit (modeCode s.mode == 5) 0 ||| flagBit s.round.isSome 1 ||| flagBit (modeCode s.mode == 2) 2] ++
    manualBytes s.mode ++ [s.roundNumber] ++ roundHead s.round ++ stepBytes s.mode ++ roundCounts s.round ++
    [flagBit s.lockout 0] ++ allLegs.flatMap s.switchBytes ++ [byteOf s.waitQueue.length] ++
    s.waitQueue.flatMap waitBytes

/-- READ_PROBE (R145, R163). -/
def serveReadProbe (args : List Byte) (s : State) : Answer :=
  match args with
  | [] => answerOk s.probeReply s
  | _ :: _ => refuse .badArgument s

/-- PAUSE_PROBING (R142). -/
def servePauseProbing (args : List Byte) (s : State) : Answer :=
  match args with
  | _ :: _ => refuse .badArgument s
  | [] =>
    match s.mode with
    | .idle | .waitBudget => answerOk [] (s.withMode .paused)
    | .active _ _ _ | .closing _ => answerOk [] (s.abortRound .paused)
    | .paused => answerOk [] s
    | .manual _ _ _ | .locked => refuse .wrongState s

/-- RESUME_PROBING (R142). -/
def serveResumeProbing (args : List Byte) (s : State) : Answer :=
  match args with
  | _ :: _ => refuse .badArgument s
  | [] =>
    match s.mode with
    | .paused => answerOk [] (s.enterMode .idle)
    | .idle | .waitBudget | .active _ _ _ | .closing _ | .manual _ _ _ | .locked => refuse .wrongState s

/-- A manual hold begins, or its depth changes: the leg is commanded and the sequencer is MANUAL (R143). -/
def State.beginHold (l : Leg) (depth : Depth) (origin : Origin) (s : State) : State :=
  (s.command l depth.position s.guardNow).withMode (.manual l depth origin)

/-- The last rows of R143, once the sequencer may hold the leg. -/
def State.grantHold (l : Leg) (depth : Depth) (origin : Origin) (s : State) : Answer :=
  if depth = .isolate ∧ s.safety.isolatePermitted = false then refuse .locked s
  else if s.allowance l ≤ (s.switch l).charge then refuse .full s
  else answerOk [] (s.beginHold l depth origin)

/-- LEG_MANUAL (R143). -/
def serveLegManual (args : List Byte) (s : State) : Answer :=
  match args with
  | [leg, depth] =>
    match legOf leg, depthOf depth with
    | some l, some d =>
      match s.mode with
      | .locked => refuse .wrongState s
      | .active _ _ _ | .closing _ | .waitBudget => refuse .busy s
      | .idle => s.grantHold l d .idle
      | .paused => s.grantHold l d .paused
      | .manual k _ origin => if k = l then s.grantHold l d origin else refuse .busy s
    | none, _ => refuse .badArgument s
    | some _, none => refuse .badArgument s
  | _ => refuse .badArgument s

/-- LEG_RELEASE (R144). -/
def serveLegRelease (args : List Byte) (s : State) : Answer :=
  match args with
  | _ :: _ => refuse .badArgument s
  | [] =>
    match s.mode with
    | .manual _ _ _ => answerOk [] s.endHold
    | .idle | .waitBudget | .active _ _ _ | .closing _ | .paused | .locked => refuse .wrongState s

/-- Every fault latch is cleared (R156). -/
def State.clearLatches (s : State) : State :=
  s.withSwitches (PerLeg.ofFn fun l => { s.switch l with faultLatch := false })

/-- The legs not sensed THROUGH, bit L for leg L (R156, R196). -/
def State.notThrough (s : State) : Byte :=
  flagBit ((s.switch 0).sensed != .through) 0 ||| flagBit ((s.switch 1).sensed != .through) 1 |||
    flagBit ((s.switch 2).sensed != .through) 2 ||| flagBit ((s.switch 3).sensed != .through) 3

/-- RELEASE_LOCKOUT (R156). -/
def serveReleaseLockout (args : List Byte) (s : State) : Answer :=
  match args with
  | _ :: _ => refuse .badArgument s
  | [] =>
    if s.lockout = false then refuse .wrongState s
    else if allLegs.any fun l => (s.switch l).sensed != .through then refuseWith .wrongState [s.notThrough] s
    else answerOk [] (((s.clearLatches).withLockout false).enterMode .idle)

/-! ### Events -/

/-- READ_EVENTS (R192). -/
def serveReadEvents (args : List Byte) (s : State) : Answer :=
  match args with
  | [] => answerOk [eventByte s.flags, eventByte s.mask] s
  | _ :: _ => refuse .badArgument s

/-- CLEAR_EVENTS (R192). -/
def serveClearEvents (args : List Byte) (s : State) : Answer :=
  match args with
  | [b] =>
    let flags := s.flags &&& ~~~ eventBits b
    answerOk [eventByte flags] (s.withFlags flags)
  | _ => refuse .badArgument s

/-- SET_EVENT_MASK (R192). -/
def serveSetEventMask (args : List Byte) (s : State) : Answer :=
  match args with
  | [b] => answerOk [eventByte (eventBits b)] (s.withMask (eventBits b))
  | _ => refuse .badArgument s

end Sys2Proof.Machine
end

