-- ==== Sys2Proof/Machine/Link.lean ====
section
/-! DEFINITION. Link.lean: the Service Link: alignment, reception, frames, replies, and the line reset (chapter 10). -/

namespace Sys2Proof.Machine

/-! ### Rates and alignment -/

/-- The bits per second of a rate (R181). -/
def Rate.bitsPerSecond (r : Rate) : Nat :=
  match r with
  | .r19200 => 19200
  | .r38400 => 38400
  | .r57600 => 57600
  | .r115200 => 115200
  | .r230400 => 230400
  | .r460800 => 460800

/-- The six rates. -/
def allRates : List Rate := [.r19200, .r38400, .r57600, .r115200, .r230400, .r460800]

/-- The rate that a low run of so many REFCLK periods measures, the remainder discarded (R182; 00_scope.md section 4.4,
log entry 15). -/
def measuredRate (periods : Nat) : Nat := 61440000 / periods

/-- Whether a measured rate lies within 4 % of a rate (R182). -/
def withinFourPercent (measured : Nat) (r : Rate) : Bool :=
  apart measured r.bitsPerSecond * 100 ≤ 4 * r.bitsPerSecond

/-- The rate that a low run gives, if any (R182). -/
def rateOfRun (periods : Nat) : Option Rate := allRates.find? (withinFourPercent (measuredRate periods))

/-- Five character times in milliseconds, rounded up (R185). -/
def Rate.gapLimit (r : Rate) : Nat :=
  match r with
  | .r19200 => 3
  | .r38400 => 2
  | .r57600 | .r115200 | .r230400 | .r460800 => 1

/-! ### The transmit line -/

/-- The character that the link sends at alignment (R182). -/
def alignCharacter : Byte := 0x3C

/-- The ten bits of a character on the line: one start bit, low; eight data bits, least significant first; one stop bit,
high (R181). -/
def characterBits (b : Byte) : List Bool := false :: ((List.range 8).map fun n => b.getLsbD n) ++ [true]

/-- The characters that the link is sending: 0x3C at the end of ALIGN (R182), the frame of the reply in progress in READY
(R187), and otherwise none. -/
def State.sending (s : State) : List Byte :=
  match s.link.phase, s.link.reply with
  | .sendingAlign _, _ => [alignCharacter]
  | .ready _, some reply => reply.frame
  | .ready _, none => []
  | .measuring, _ | .rateTaken _, _ => []

/-- The level of the transmit line `k` bit times into what is being sent, true for high: the characters' bits back to back,
and high after them and while nothing is sent (R181, R187). How far a transmission has come is not counted (log entry 11). -/
def State.transmitLine (k : Nat) (s : State) : Bool := ((s.sending.flatMap characterBits)[k]?).getD true

/-! ### The link's parts -/

/-- The link with no frame in reception. -/
def State.dropFrame (s : State) : State := s.withLink { s.link with frame := none }

/-- The link in another phase of alignment. -/
def State.withPhase (p : LinkPhase) (s : State) : State := s.withLink { s.link with phase := p }

/-- Whether the link is READY with no reply in progress, so that received bytes are taken (R184, R187). -/
def State.receives (s : State) : Bool :=
  match s.link.phase, s.link.reply with
  | .ready _, none => true
  | .ready _, some _ => false
  | .measuring, _ | .rateTaken _, _ | .sendingAlign _, _ => false

/-! ### Requests and replies -/

/-- The body of a reply: the code with its most significant bit set, the tag, the status, the data (R187). -/
def replyBody (code tag : Byte) (a : Answer) : List Byte := [code ||| 0x80#8, tag, statusByte a.status] ++ a.data

/-- The reply of an answer is in progress; the request's frame is no longer in reception (R186, R187). -/
def Answer.begin (code tag : Byte) (restart : Bool) (a : Answer) : State :=
  a.state.withLink
    { a.state.link with
      frame := none
      reply := some { frame := replySync :: framed (replyBody code tag a), restart := restart && a.status == .ok } }

/-- A good frame is taken as a request (R186). Outside READY, and while a reply is in progress, no frame is received
(R182, R187). -/
def State.takeRequest (code tag : Byte) (restart : Bool) (serve : State → Answer) (s : State) : State :=
  if s.receives then (serve s).begin code tag restart else s

/-- The answer to a code that names no request (R186). -/
def serveUnknown (s : State) : Answer := refuse .unknownRequest s

/-- The request that a good frame carries is taken by its owner; the commands that are no frames do nothing here
(R186, R188 to R190, R192). -/
def State.serve (i : Instr) (s : State) : State :=
  match i with
  | .powerOnReset => s
  | .lineReset => s
  | .resetRelease => s
  | .millisecondTick _ => s
  | .secondTick => s
  | .agingTick => s
  | .windowStart => s
  | .settleExpiry _ => s
  | .dwellExpiry => s
  | .holdExhausted => s
  | .reportArrival => s
  | .dispatch => s
  | .roundStart => s
  | .roundEvaluation => s
  | .alignRun _ => s
  | .alignIdleElapsed => s
  | .alignComplete => s
  | .lineBreak => s
  | .framingError => s
  | .frameTimeout => s
  | .frameDiscard => s
  | .unknownRequest code tag _ => if namesRequest code then s else s.takeRequest code tag false serveUnknown
  | .replySent => s
  | .ident tag args => s.takeRequest 0x01#8 tag false (serveIdent args)
  | .restart tag args => s.takeRequest 0x02#8 tag true (serveRestart args)
  | .readClock tag args => s.takeRequest 0x08#8 tag false (serveReadClock args)
  | .setClock tag args => s.takeRequest 0x09#8 tag false (serveSetClock args)
  | .readSettings tag args => s.takeRequest 0x10#8 tag false (serveReadSettings args)
  | .configure tag args => s.takeRequest 0x11#8 tag false (serveConfigure args)
  | .readSafety tag args => s.takeRequest 0x12#8 tag false (serveReadSafety args)
  | .setSafety tag args => s.takeRequest 0x13#8 tag false (serveSetSafety args)
  | .lockSafety tag args => s.takeRequest 0x14#8 tag false (serveLockSafety args)
  | .mapOpen tag args => s.takeRequest 0x20#8 tag false (serveMapOpen args)
  | .mapTaps tag args => s.takeRequest 0x21#8 tag false (serveMapTaps args)
  | .mapStations tag args => s.takeRequest 0x22#8 tag false (serveMapStations args)
  | .mapActivate tag args => s.takeRequest 0x23#8 tag false (serveMapActivate args)
  | .mapDiscard tag args => s.takeRequest 0x24#8 tag false (serveMapDiscard args)
  | .readLeg tag args => s.takeRequest 0x25#8 tag false (serveReadLeg args)
  | .readStations tag args => s.takeRequest 0x26#8 tag false (serveReadStations args)
  | .setZone tag args => s.takeRequest 0x28#8 tag false (serveSetZone args)
  | .clearZone tag args => s.takeRequest 0x29#8 tag false (serveClearZone args)
  | .readZones tag args => s.takeRequest 0x2A#8 tag false (serveReadZones args)
  | .lookup tag args => s.takeRequest 0x30#8 tag false (serveLookup args)
  | .find tag args => s.takeRequest 0x31#8 tag false (serveFind args)
  | .findStation tag args => s.takeRequest 0x32#8 tag false (serveFindStation args)
  | .listChanged tag args => s.takeRequest 0x33#8 tag false (serveListChanged args)
  | .acknowledge tag args => s.takeRequest 0x34#8 tag false (serveAcknowledge args)
  | .annotate tag args => s.takeRequest 0x35#8 tag false (serveAnnotate args)
  | .pin tag args => s.takeRequest 0x36#8 tag false (servePin args)
  | .unpin tag args => s.takeRequest 0x37#8 tag false (serveUnpin args)
  | .retire tag args => s.takeRequest 0x38#8 tag false (serveRetire args)
  | .merge tag args => s.takeRequest 0x39#8 tag false (serveMerge args)
  | .reprobe tag args => s.takeRequest 0x3A#8 tag false (serveReprobe args)
  | .readProbe tag args => s.takeRequest 0x40#8 tag false (serveReadProbe args)
  | .pauseProbing tag args => s.takeRequest 0x41#8 tag false (servePauseProbing args)
  | .resumeProbing tag args => s.takeRequest 0x42#8 tag false (serveResumeProbing args)
  | .legManual tag args => s.takeRequest 0x43#8 tag false (serveLegManual args)
  | .legRelease tag args => s.takeRequest 0x44#8 tag false (serveLegRelease args)
  | .releaseLockout tag args => s.takeRequest 0x45#8 tag false (serveReleaseLockout args)
  | .readEvents tag args => s.takeRequest 0x48#8 tag false (serveReadEvents args)
  | .clearEvents tag args => s.takeRequest 0x49#8 tag false (serveClearEvents args)
  | .setEventMask tag args => s.takeRequest 0x4A#8 tag false (serveSetEventMask args)
  | .receivedByte _ => s
  | .selectAssertion => s
  | .reportBitReceived _ => s

/-- A frame whose last byte has arrived: good, it is taken; bad, it is discarded and the hunt resumes (R184). -/
def State.judgeFrame (bytes : List Byte) (s : State) : State :=
  if crcMatches bytes then
    match decodeFrameBody bytes with
    | some i => s.serve i
    | none => s.dropFrame
  else s.dropFrame

/-- A byte taken in reception: while hunting, the sync begins a frame and any other byte is ignored; a LEN that is not
accepted discards the frame; the last byte completes it (R184). -/
def State.takeByte (b : Byte) (s : State) : State :=
  match s.link.frame with
  | none => if b = requestSync then s.withLink { s.link with frame := some { bytes := [], gap := 0 } } else s
  | some f =>
    let bytes := f.bytes ++ [b]
    let len := bytes.headD 0
    if lenAccepted len = false then s.dropFrame
    else if bytes.length = frameLength len then s.judgeFrame bytes
    else s.withLink { s.link with frame := some { bytes := bytes, gap := 0 } }

/-! ### Resets -/

/-- What a line reset does to the Probe Sequencer by its state (R146): a round is aborted, a hold ends whatever its
origin, WAIT_BUDGET becomes IDLE, and entry into IDLE makes the start test (R127, log entry 16). -/
def State.resetSequencer (s : State) : State :=
  match s.mode with
  | .active _ _ _ | .closing _ => s.abortRound .idle
  | .waitBudget => s.enterMode .idle
  | .manual l _ _ => (s.command l .through s.guardNow).enterMode .idle
  | .idle | .paused | .locked => s

/-- A line reset: the port, the queue and HOLD (R69, R70), the sequencer and the legs (R146, R165), the staging area
(R56), the link (R194). All else is kept. -/
def State.lineReset (s : State) : State :=
  ((((((s.withPort Port.initial).withQueue []).withHold false).withStaging none).withLink Link.initial).resetSequencer)

/-- The transmission of the reply in progress has ended, by its last bit or by its abandonment at a break: a RESTART
that was taken then takes its line reset (R187, R188). -/
def State.endReply (reply : Reply) (s : State) : State := if reply.restart then s.lineReset else s

end Sys2Proof.Machine
end

