-- ==== Sys2Proof/Machine/Clock.lean ====
section
/-! DEFINITION. Clock.lean: the Plant Clock's ticks, the steps that fall due, and their completion before the next
command (R29 to R32, R151; log entry 2). -/

namespace Sys2Proof.Machine

/-! ### The millisecond tick -/

/-- A leg's settle interval is counted down by one millisecond (R150). -/
def LegSwitch.countSettle (x : LegSwitch) : LegSwitch := { x with settle := x.settle.map fun k => k - 1 }

/-- The sampled sense pair is recorded (R151 step 1). -/
def LegSwitch.sample (lines : LinePair) (x : LegSwitch) : LegSwitch := { x with sensed := sensedOf lines }

/-- A sense change on a leg with no settle pending is judged: where the new sensed state disagrees with the command, it
is a mismatch (R151 step 2, R153). `before` is the state before the sample. -/
def State.judgeSense (before : State) (l : Leg) (s : State) : State :=
  if (s.switch l).sensed ≠ (before.switch l).sensed ∧ (s.switch l).settle = none ∧
      (s.switch l).sensed.agrees (s.switch l).commanded = false then s.mismatch l
  else s

/-- Whether every leg whose settle expires at this tick agrees with its command, so that its check passes (R151 step 3,
R152). -/
def State.checksPass (s : State) : Bool :=
  allLegs.all fun l => !s.settleDue l || (s.switch l).sensed.agrees (s.switch l).commanded

/-- The charge of a held leg is advanced by one (R151 step 4, R159), where the hold outlives the settle checks of this
tick: those stand before it in R151, and one that fails ends the hold (log entry 8). -/
def State.chargeHold (s : State) : State :=
  match s.mode with
  | .manual l _ _ => if s.checksPass then s.charge l 1 else s
  | .idle | .waitBudget | .active _ _ _ | .closing _ | .paused | .locked => s

/-- The current step has lasted one millisecond more (R121, R129). -/
def State.countStep (s : State) : State :=
  match s.mode with
  | .active r step elapsed => s.withMode (.active r step (elapsed + 1))
  | .idle | .waitBudget | .closing _ | .paused | .manual _ _ _ | .locked => s

/-- The inter-byte count of a frame in reception is advanced (R185). -/
def State.countGap (s : State) : State :=
  match s.link.frame with
  | none => s
  | some f => s.withLink { s.link with frame := some { f with gap := f.gap + 1 } }

/-- The sense pairs are sampled and the settles counted down, on every leg at once (R151). -/
def State.sampleLegs (sense : PerLeg LinePair) (s : State) : State :=
  s.withSwitches (PerLeg.ofFn fun l => ((s.switch l).sample (sense.get l)).countSettle)

/-- A millisecond tick: the count (R29), the current step, the inter-byte count, then R151 at the Leg Switch Controller,
but for the settle checks, which fall due. No record is just confirmed any more (log entry 21). -/
def State.millisecond (sense : PerLeg LinePair) (s : State) : State :=
  let counted := (((s.withClock { s.clock with ms := s.clock.ms + 1 }).withConfirmedNow none).countStep).countGap
  let sampled := counted.sampleLegs sense
  (allLegs.foldl (fun t l => State.judgeSense counted l t) sampled).chargeHold

/-! ### The steps that fall due -/

/-- A second tick (R29). -/
def State.second (s : State) : State :=
  s.withClock
    { ms := 0, seconds := s.clock.seconds + 1, agingCount := s.clock.agingCount + 1
      windowCount := s.clock.windowCount + 1 }

/-- Whether AGING_TICK is due: the aging count has reached the interval (R31). -/
def State.agingDue (s : State) : Bool := agingInterval s.settings.agingCode ≤ s.clock.agingCount

/-- An aging tick: the count returns to 0 and the table is aged (R14, R31). -/
def State.aging (s : State) : State := (s.withClock { s.clock with agingCount := 0 }).ageTable

/-- What a window start leaves of a leg's charge: none; but where the held leg's charge has reached its allowance at the
very tick of the window start, the window start is taken before that tick's charge, which counts 1 in the new window and
the hold goes on (R157, R160). R157 lets either be taken first; where the charge does not exhaust the hold the model takes
the charge first (DESIGN CHOICE, log entry 19). -/
def State.chargeAfterWindow (s : State) (l : Leg) : Nat :=
  match s.mode with
  | .manual k _ _ => if k = l ∧ s.allowance l ≤ (s.switch l).charge then min 1 (s.switch l).charge else 0
  | .idle | .waitBudget | .active _ _ _ | .closing _ | .paused | .locked => 0

/-- A window start: the count returns to 0, the charges are zeroed, and the start test is made in IDLE and WAIT_BUDGET
(R32, R127, R157). -/
def State.window (s : State) : State :=
  ((s.withClock { s.clock with windowCount := 0 }).withSwitches
    (PerLeg.ofFn fun l => { s.switch l with charge := s.chargeAfterWindow l })).startTest

/-- Whether FRAME_TIMEOUT is due: the inter-byte count has reached k + 1 (R185). -/
def State.timeoutDue (s : State) : Bool :=
  match s.link.phase, s.link.frame with
  | .ready rate, some f => rate.gapLimit + 1 ≤ f.gap
  | .ready _, none => false
  | .measuring, _ | .rateTaken _, _ | .sendingAlign _, _ => false

/-! ### Each due step, taken if it is due -/

/-- FRAME_TIMEOUT, if due (R185). -/
def State.takeTimeout (s : State) : State := if s.timeoutDue then s.dropFrame else s
/-- SETTLE_EXPIRY of a leg, if due (R152). -/
def State.takeSettle (l : Leg) (s : State) : State := if s.settleDue l then s.checkSettle l else s
/-- HOLD_EXHAUSTED, if due (R159). -/
def State.takeHold (s : State) : State := if s.holdExhausted then s.endHold else s
/-- DWELL_EXPIRY, if due (R130). -/
def State.takeDwell (s : State) : State := if s.dwellDue then s.endDwell else s
/-- ROUND_EVALUATION, if due (R134 to R137). -/
def State.takeEvaluation (s : State) : State := if s.evaluationDue then s.evaluateRound else s
/-- ROUND_START, if due (R126, R128). -/
def State.takeStart (s : State) : State := if s.roundStartDue then s.startRound else s
/-- SECOND_TICK, if due (R29). The end of a hold that the tick's charge has exhausted belongs to the event of that charge
and comes before it (R159). -/
def State.takeSecond (s : State) : State := if s.secondDue then s.takeHold.second else s
/-- AGING_TICK, if due (R14, R31). -/
def State.takeAging (s : State) : State := if s.agingDue then s.aging else s
/-- WINDOW_START, if due (R32, R157). -/
def State.takeWindow (s : State) : State := if s.windowDue then s.window else s

/-- The state with every due step taken, in the model's order: what a command that is no due step of its own finds
(DESIGN CHOICE where the sender has not ordered the steps itself, log entries 2 and 8). -/
def State.caughtUp (s : State) : State :=
  ((s.takeTimeout).takeSettle 0 |>.takeSettle 1 |>.takeSettle 2 |>.takeSettle 3
    |>.takeHold |>.takeDwell |>.takeEvaluation |>.takeStart
    |>.takeSecond |>.takeAging |>.takeWindow |>.takeHold |>.takeStart)

/-- Whether no step is due. -/
def State.nothingDue (s : State) : Bool :=
  !s.timeoutDue && (allLegs.all fun l => !s.settleDue l) && !s.holdExhausted && !s.dwellDue && !s.evaluationDue &&
    !s.roundStartDue && !s.secondDue && !s.agingDue && !s.windowDue

end Sys2Proof.Machine
end

