-- ==== Sys2Proof/Machine/Events.lean ====
section
/-! DEFINITION. Events.lean: the meanings of the commands for the resets, the clock, the steps that fall due, the report port and the link's events. -/

namespace Sys2Proof.Machine

/-- POWER_ON_RESET (R33, R55, R69, R120, R146, R164, R191, R194): every block takes its power-on values. The queue of waiting
commands and the level of the RESET line, an input, are not the part's to reset (log entry 6). -/
def execPowerOnReset (s : State) : Host.Outcome State Fault Refusal :=
  .next (((State.reset).withResetLine s.resetLine).withPending s.pending)

/-- LINE_RESET (R194): the line reset is taken once, at the moment the line becomes asserted. -/
def execLineReset (s : State) : Host.Outcome State Fault Refusal :=
  if s.resetLine then .next s.caughtUp else .next ((s.caughtUp.withResetLine true).lineReset)

/-- RESET_RELEASE (R194): low runs are measured again from the next falling edge. -/
def execResetRelease (s : State) : Host.Outcome State Fault Refusal :=
  .next (s.caughtUp.withResetLine false)

/-- MILLISECOND_TICK (R29, R151). -/
def execMillisecondTick (sense : PerLeg LinePair) (s : State) : Host.Outcome State Fault Refusal :=
  .next (s.caughtUp.millisecond sense)

/-- SECOND_TICK (R29): taken where it is due. -/
def execSecondTick (s : State) : Host.Outcome State Fault Refusal :=
  .next s.takeSecond

/-- AGING_TICK (R14 to R18, R31): taken where it is due. -/
def execAgingTick (s : State) : Host.Outcome State Fault Refusal :=
  .next s.takeAging

/-- WINDOW_START (R32, R157): taken where it is due. -/
def execWindowStart (s : State) : Host.Outcome State Fault Refusal :=
  .next s.takeWindow

/-- SETTLE_EXPIRY (R152): taken where the leg's interval has expired. -/
def execSettleExpiry (leg : Leg) (s : State) : Host.Outcome State Fault Refusal :=
  .next (s.takeSettle leg)

/-- DWELL_EXPIRY (R130): taken where the dwell has run its length. -/
def execDwellExpiry (s : State) : Host.Outcome State Fault Refusal :=
  .next s.takeDwell

/-- HOLD_EXHAUSTED (R159): taken where the held leg's charge has reached its allowance. -/
def execHoldExhausted (s : State) : Host.Outcome State Fault Refusal :=
  .next s.takeHold

/-- REPORT_ARRIVAL (R57, R59, R61 to R63): select is released. -/
def execReportArrival (s : State) : Host.Outcome State Fault Refusal :=
  .next s.caughtUp.releaseSelect

/-- DISPATCH (R64 to R68): the head entry, if there is one. R64 begins a dispatch whenever the queue is not empty and none is in
progress, and gives it no duration: the command is the moment at which one is taken, and no dispatch is ever due of itself
(DESIGN CHOICE, safe, log entry 22). -/
def execDispatch (s : State) : Host.Outcome State Fault Refusal :=
  .next s.caughtUp.dispatchHead

/-- ROUND_START (R128): taken where the start test has passed. -/
def execRoundStart (s : State) : Host.Outcome State Fault Refusal :=
  .next s.takeStart

/-- ROUND_EVALUATION (R134 to R137): taken where the round is CLOSING and drained. -/
def execRoundEvaluation (s : State) : Host.Outcome State Fault Refusal :=
  .next s.takeEvaluation

/-- ALIGN_RUN (R182, R194): a rate is taken when the run fits one; while RESET stays asserted no run is measured. -/
def execAlignRun (periods : Nat) (s : State) : Host.Outcome State Fault Refusal :=
  let t := s.caughtUp
  match t.link.phase, t.resetLine, rateOfRun periods with
  | .measuring, false, some rate => .next (t.withPhase (.rateTaken rate))
  | _, _, _ => .next t

/-- ALIGN_IDLE_ELAPSED (R182): the link sends 0x3C. -/
def execAlignIdleElapsed (s : State) : Host.Outcome State Fault Refusal :=
  let t := s.caughtUp
  match t.link.phase with
  | .rateTaken rate => .next (t.withPhase (.sendingAlign rate))
  | .measuring | .sendingAlign _ | .ready _ => .next t

/-- ALIGN_COMPLETE (R182): the link enters READY. -/
def execAlignComplete (s : State) : Host.Outcome State Fault Refusal :=
  let t := s.caughtUp
  match t.link.phase with
  | .sendingAlign rate => .next (t.withPhase (.ready rate))
  | .measuring | .rateTaken _ | .ready _ => .next t

/-- BREAK (R183, R188): in READY the frame and the reply go, the rate is forgotten and ALIGN is entered; in ALIGN it is a run
that fits no rate. -/
def execLineBreak (s : State) : Host.Outcome State Fault Refusal :=
  let t := s.caughtUp
  match t.link.phase with
  | .ready _ =>
    match t.link.reply with
    | none => .next (t.withLink Link.initial)
    | some reply => .next ((t.withLink Link.initial).endReply reply)
  | .measuring | .rateTaken _ | .sendingAlign _ => .next t

/-- FRAMING_ERROR (R181, R185): the character is no byte and discards a frame in reception. -/
def execFramingError (s : State) : Host.Outcome State Fault Refusal :=
  .next s.caughtUp.dropFrame

/-- FRAME_TIMEOUT (R185): taken where the inter-byte count has run out. -/
def execFrameTimeout (s : State) : Host.Outcome State Fault Refusal :=
  .next s.takeTimeout

/-- FRAME_DISCARD (R184): the frame in reception proves bad and is discarded without reply (log entry 4). -/
def execFrameDiscard (s : State) : Host.Outcome State Fault Refusal :=
  .next (s.caughtUp.dropFrame)

/-- REPLY_SENT (R187, R188): the reply in progress ends and the hunt begins; after RESTART a line reset is taken. -/
def execReplySent (s : State) : Host.Outcome State Fault Refusal :=
  let t := s.caughtUp
  match t.link.reply with
  | none => .next t
  | some reply => .next ((t.withLink { t.link with reply := none }).endReply reply)

/-- RECEIVED_BYTE (R184, R187): taken in READY while no reply is in progress, dropped otherwise. -/
def execReceivedByte (byte : Byte) (s : State) : Host.Outcome State Fault Refusal :=
  let t := s.caughtUp
  if t.receives then .next (t.takeByte byte) else .next t

/-- SELECT_ASSERTION (R57). -/
def execSelectAssertion (s : State) : Host.Outcome State Fault Refusal :=
  .next s.caughtUp.assertSelect

/-- REPORT_BIT_RECEIVED (R57, R59, R60). -/
def execReportBitReceived (bit : Bool) (s : State) : Host.Outcome State Fault Refusal :=
  .next (s.caughtUp.receiveBit bit)

end Sys2Proof.Machine
end

