-- ==== Sys2Proof/Machine/MapRequests.lean ====
section
/-! DEFINITION. MapRequests.lean: the meanings of the commands for the Plant Map. -/

namespace Sys2Proof.Machine

/-- MAP_OPEN (R42): the request taken from its frame, with every due step taken before it. -/
def execMapOpen (tag : Byte) (args : List Byte) (s : State) : Host.Outcome State Fault Refusal :=
  .next (s.caughtUp.serve (.mapOpen tag args))

/-- MAP_TAPS (R43): the request taken from its frame, with every due step taken before it. -/
def execMapTaps (tag : Byte) (args : List Byte) (s : State) : Host.Outcome State Fault Refusal :=
  .next (s.caughtUp.serve (.mapTaps tag args))

/-- MAP_STATIONS (R44): the request taken from its frame, with every due step taken before it. -/
def execMapStations (tag : Byte) (args : List Byte) (s : State) : Host.Outcome State Fault Refusal :=
  .next (s.caughtUp.serve (.mapStations tag args))

/-- MAP_ACTIVATE (R47): the request taken from its frame, with every due step taken before it. -/
def execMapActivate (tag : Byte) (args : List Byte) (s : State) : Host.Outcome State Fault Refusal :=
  .next (s.caughtUp.serve (.mapActivate tag args))

/-- MAP_DISCARD (R45): the request taken from its frame, with every due step taken before it. -/
def execMapDiscard (tag : Byte) (args : List Byte) (s : State) : Host.Outcome State Fault Refusal :=
  .next (s.caughtUp.serve (.mapDiscard tag args))

/-- READ_LEG (R50): the request taken from its frame, with every due step taken before it. -/
def execReadLeg (tag : Byte) (args : List Byte) (s : State) : Host.Outcome State Fault Refusal :=
  .next (s.caughtUp.serve (.readLeg tag args))

/-- READ_STATIONS (R51): the request taken from its frame, with every due step taken before it. -/
def execReadStations (tag : Byte) (args : List Byte) (s : State) : Host.Outcome State Fault Refusal :=
  .next (s.caughtUp.serve (.readStations tag args))

/-- SET_ZONE (R53): the request taken from its frame, with every due step taken before it. -/
def execSetZone (tag : Byte) (args : List Byte) (s : State) : Host.Outcome State Fault Refusal :=
  .next (s.caughtUp.serve (.setZone tag args))

/-- CLEAR_ZONE (R53): the request taken from its frame, with every due step taken before it. -/
def execClearZone (tag : Byte) (args : List Byte) (s : State) : Host.Outcome State Fault Refusal :=
  .next (s.caughtUp.serve (.clearZone tag args))

/-- READ_ZONES (R54): the request taken from its frame, with every due step taken before it. -/
def execReadZones (tag : Byte) (args : List Byte) (s : State) : Host.Outcome State Fault Refusal :=
  .next (s.caughtUp.serve (.readZones tag args))

end Sys2Proof.Machine
end

