-- ==== Sys2Proof/Machine/PartRequests.lean ====
section
/-! DEFINITION. PartRequests.lean: the meanings of the commands for the part itself, the clock, the settings, the safety settings and the events. -/

namespace Sys2Proof.Machine

/-- UNKNOWN_REQUEST (R186): the request taken from its frame, with every due step taken before it. -/
def execUnknownRequest (code : Byte) (tag : Byte) (args : List Byte) (s : State) : Host.Outcome State Fault Refusal :=
  .next (s.caughtUp.serve (.unknownRequest code tag args))

/-- IDENT (R188): the request taken from its frame, with every due step taken before it. -/
def execIdent (tag : Byte) (args : List Byte) (s : State) : Host.Outcome State Fault Refusal :=
  .next (s.caughtUp.serve (.ident tag args))

/-- RESTART (R188): the request taken from its frame, with every due step taken before it. -/
def execRestart (tag : Byte) (args : List Byte) (s : State) : Host.Outcome State Fault Refusal :=
  .next (s.caughtUp.serve (.restart tag args))

/-- READ_CLOCK (R30): the request taken from its frame, with every due step taken before it. -/
def execReadClock (tag : Byte) (args : List Byte) (s : State) : Host.Outcome State Fault Refusal :=
  .next (s.caughtUp.serve (.readClock tag args))

/-- SET_CLOCK (R30): the request taken from its frame, with every due step taken before it. -/
def execSetClock (tag : Byte) (args : List Byte) (s : State) : Host.Outcome State Fault Refusal :=
  .next (s.caughtUp.serve (.setClock tag args))

/-- READ_SETTINGS (R189): the request taken from its frame, with every due step taken before it. -/
def execReadSettings (tag : Byte) (args : List Byte) (s : State) : Host.Outcome State Fault Refusal :=
  .next (s.caughtUp.serve (.readSettings tag args))

/-- CONFIGURE (R189): the request taken from its frame, with every due step taken before it. -/
def execConfigure (tag : Byte) (args : List Byte) (s : State) : Host.Outcome State Fault Refusal :=
  .next (s.caughtUp.serve (.configure tag args))

/-- READ_SAFETY (R162): the request taken from its frame, with every due step taken before it. -/
def execReadSafety (tag : Byte) (args : List Byte) (s : State) : Host.Outcome State Fault Refusal :=
  .next (s.caughtUp.serve (.readSafety tag args))

/-- SET_SAFETY (R161): the request taken from its frame, with every due step taken before it. -/
def execSetSafety (tag : Byte) (args : List Byte) (s : State) : Host.Outcome State Fault Refusal :=
  .next (s.caughtUp.serve (.setSafety tag args))

/-- LOCK_SAFETY (R162): the request taken from its frame, with every due step taken before it. -/
def execLockSafety (tag : Byte) (args : List Byte) (s : State) : Host.Outcome State Fault Refusal :=
  .next (s.caughtUp.serve (.lockSafety tag args))

/-- READ_EVENTS (R192): the request taken from its frame, with every due step taken before it. -/
def execReadEvents (tag : Byte) (args : List Byte) (s : State) : Host.Outcome State Fault Refusal :=
  .next (s.caughtUp.serve (.readEvents tag args))

/-- CLEAR_EVENTS (R192): the request taken from its frame, with every due step taken before it. -/
def execClearEvents (tag : Byte) (args : List Byte) (s : State) : Host.Outcome State Fault Refusal :=
  .next (s.caughtUp.serve (.clearEvents tag args))

/-- SET_EVENT_MASK (R192): the request taken from its frame, with every due step taken before it. -/
def execSetEventMask (tag : Byte) (args : List Byte) (s : State) : Host.Outcome State Fault Refusal :=
  .next (s.caughtUp.serve (.setEventMask tag args))

end Sys2Proof.Machine
end

