-- ==== Sys2Proof/Machine/ProbeRequests.lean ====
section
/-! DEFINITION. ProbeRequests.lean: the meanings of the commands for probing and the leg switches. -/

namespace Sys2Proof.Machine

/-- READ_PROBE (R145): the request taken from its frame, with every due step taken before it. -/
def execReadProbe (tag : Byte) (args : List Byte) (s : State) : Host.Outcome State Fault Refusal :=
  .next (s.caughtUp.serve (.readProbe tag args))

/-- PAUSE_PROBING (R142): the request taken from its frame, with every due step taken before it. -/
def execPauseProbing (tag : Byte) (args : List Byte) (s : State) : Host.Outcome State Fault Refusal :=
  .next (s.caughtUp.serve (.pauseProbing tag args))

/-- RESUME_PROBING (R142): the request taken from its frame, with every due step taken before it. -/
def execResumeProbing (tag : Byte) (args : List Byte) (s : State) : Host.Outcome State Fault Refusal :=
  .next (s.caughtUp.serve (.resumeProbing tag args))

/-- LEG_MANUAL (R143): the request taken from its frame, with every due step taken before it. -/
def execLegManual (tag : Byte) (args : List Byte) (s : State) : Host.Outcome State Fault Refusal :=
  .next (s.caughtUp.serve (.legManual tag args))

/-- LEG_RELEASE (R144): the request taken from its frame, with every due step taken before it. -/
def execLegRelease (tag : Byte) (args : List Byte) (s : State) : Host.Outcome State Fault Refusal :=
  .next (s.caughtUp.serve (.legRelease tag args))

/-- RELEASE_LOCKOUT (R156): the request taken from its frame, with every due step taken before it. -/
def execReleaseLockout (tag : Byte) (args : List Byte) (s : State) : Host.Outcome State Fault Refusal :=
  .next (s.caughtUp.serve (.releaseLockout tag args))

end Sys2Proof.Machine
end

