-- ==== Sys2Proof/Machine/RecordRequests.lean ====
section
/-! DEFINITION. RecordRequests.lean: the meanings of the commands for records. -/

namespace Sys2Proof.Machine

/-- LOOKUP (R166): the request taken from its frame, with every due step taken before it. -/
def execLookup (tag : Byte) (args : List Byte) (s : State) : Host.Outcome State Fault Refusal :=
  .next (s.caughtUp.serve (.lookup tag args))

/-- FIND (R169): the request taken from its frame, with every due step taken before it. -/
def execFind (tag : Byte) (args : List Byte) (s : State) : Host.Outcome State Fault Refusal :=
  .next (s.caughtUp.serve (.find tag args))

/-- FIND_STATION (R170): the request taken from its frame, with every due step taken before it. -/
def execFindStation (tag : Byte) (args : List Byte) (s : State) : Host.Outcome State Fault Refusal :=
  .next (s.caughtUp.serve (.findStation tag args))

/-- LIST_CHANGED (R171): the request taken from its frame, with every due step taken before it. -/
def execListChanged (tag : Byte) (args : List Byte) (s : State) : Host.Outcome State Fault Refusal :=
  .next (s.caughtUp.serve (.listChanged tag args))

/-- ACKNOWLEDGE (R172): the request taken from its frame, with every due step taken before it. -/
def execAcknowledge (tag : Byte) (args : List Byte) (s : State) : Host.Outcome State Fault Refusal :=
  .next (s.caughtUp.serve (.acknowledge tag args))

/-- ANNOTATE (R173): the request taken from its frame, with every due step taken before it. -/
def execAnnotate (tag : Byte) (args : List Byte) (s : State) : Host.Outcome State Fault Refusal :=
  .next (s.caughtUp.serve (.annotate tag args))

/-- PIN (R174): the request taken from its frame, with every due step taken before it. -/
def execPin (tag : Byte) (args : List Byte) (s : State) : Host.Outcome State Fault Refusal :=
  .next (s.caughtUp.serve (.pin tag args))

/-- UNPIN (R174): the request taken from its frame, with every due step taken before it. -/
def execUnpin (tag : Byte) (args : List Byte) (s : State) : Host.Outcome State Fault Refusal :=
  .next (s.caughtUp.serve (.unpin tag args))

/-- RETIRE (R175): the request taken from its frame, with every due step taken before it. -/
def execRetire (tag : Byte) (args : List Byte) (s : State) : Host.Outcome State Fault Refusal :=
  .next (s.caughtUp.serve (.retire tag args))

/-- MERGE (R177): the request taken from its frame, with every due step taken before it. -/
def execMerge (tag : Byte) (args : List Byte) (s : State) : Host.Outcome State Fault Refusal :=
  .next (s.caughtUp.serve (.merge tag args))

/-- REPROBE (R179): the request taken from its frame, with every due step taken before it. -/
def execReprobe (tag : Byte) (args : List Byte) (s : State) : Host.Outcome State Fault Refusal :=
  .next (s.caughtUp.serve (.reprobe tag args))

end Sys2Proof.Machine
end

