-- ==== Sys2Proof/Machine/Dispatch.lean ====
section
/-! DEFINITION. Dispatch.lean: the meaning of each command. -/

namespace Sys2Proof.Machine

def exec (i : Instr) (s : State) : Host.Outcome State Fault Refusal :=
  match i with
  | .powerOnReset => Sys2Proof.Machine.execPowerOnReset s
  | .lineReset => Sys2Proof.Machine.execLineReset s
  | .resetRelease => Sys2Proof.Machine.execResetRelease s
  | .millisecondTick sense => Sys2Proof.Machine.execMillisecondTick sense s
  | .secondTick => Sys2Proof.Machine.execSecondTick s
  | .agingTick => Sys2Proof.Machine.execAgingTick s
  | .windowStart => Sys2Proof.Machine.execWindowStart s
  | .settleExpiry leg => Sys2Proof.Machine.execSettleExpiry leg s
  | .dwellExpiry => Sys2Proof.Machine.execDwellExpiry s
  | .holdExhausted => Sys2Proof.Machine.execHoldExhausted s
  | .reportArrival => Sys2Proof.Machine.execReportArrival s
  | .dispatch => Sys2Proof.Machine.execDispatch s
  | .roundStart => Sys2Proof.Machine.execRoundStart s
  | .roundEvaluation => Sys2Proof.Machine.execRoundEvaluation s
  | .alignRun periods => Sys2Proof.Machine.execAlignRun periods s
  | .alignIdleElapsed => Sys2Proof.Machine.execAlignIdleElapsed s
  | .alignComplete => Sys2Proof.Machine.execAlignComplete s
  | .lineBreak => Sys2Proof.Machine.execLineBreak s
  | .framingError => Sys2Proof.Machine.execFramingError s
  | .frameTimeout => Sys2Proof.Machine.execFrameTimeout s
  | .frameDiscard => Sys2Proof.Machine.execFrameDiscard s
  | .unknownRequest code tag args => Sys2Proof.Machine.execUnknownRequest code tag args s
  | .replySent => Sys2Proof.Machine.execReplySent s
  | .ident tag args => Sys2Proof.Machine.execIdent tag args s
  | .restart tag args => Sys2Proof.Machine.execRestart tag args s
  | .readClock tag args => Sys2Proof.Machine.execReadClock tag args s
  | .setClock tag args => Sys2Proof.Machine.execSetClock tag args s
  | .readSettings tag args => Sys2Proof.Machine.execReadSettings tag args s
  | .configure tag args => Sys2Proof.Machine.execConfigure tag args s
  | .readSafety tag args => Sys2Proof.Machine.execReadSafety tag args s
  | .setSafety tag args => Sys2Proof.Machine.execSetSafety tag args s
  | .lockSafety tag args => Sys2Proof.Machine.execLockSafety tag args s
  | .mapOpen tag args => Sys2Proof.Machine.execMapOpen tag args s
  | .mapTaps tag args => Sys2Proof.Machine.execMapTaps tag args s
  | .mapStations tag args => Sys2Proof.Machine.execMapStations tag args s
  | .mapActivate tag args => Sys2Proof.Machine.execMapActivate tag args s
  | .mapDiscard tag args => Sys2Proof.Machine.execMapDiscard tag args s
  | .readLeg tag args => Sys2Proof.Machine.execReadLeg tag args s
  | .readStations tag args => Sys2Proof.Machine.execReadStations tag args s
  | .setZone tag args => Sys2Proof.Machine.execSetZone tag args s
  | .clearZone tag args => Sys2Proof.Machine.execClearZone tag args s
  | .readZones tag args => Sys2Proof.Machine.execReadZones tag args s
  | .lookup tag args => Sys2Proof.Machine.execLookup tag args s
  | .find tag args => Sys2Proof.Machine.execFind tag args s
  | .findStation tag args => Sys2Proof.Machine.execFindStation tag args s
  | .listChanged tag args => Sys2Proof.Machine.execListChanged tag args s
  | .acknowledge tag args => Sys2Proof.Machine.execAcknowledge tag args s
  | .annotate tag args => Sys2Proof.Machine.execAnnotate tag args s
  | .pin tag args => Sys2Proof.Machine.execPin tag args s
  | .unpin tag args => Sys2Proof.Machine.execUnpin tag args s
  | .retire tag args => Sys2Proof.Machine.execRetire tag args s
  | .merge tag args => Sys2Proof.Machine.execMerge tag args s
  | .reprobe tag args => Sys2Proof.Machine.execReprobe tag args s
  | .readProbe tag args => Sys2Proof.Machine.execReadProbe tag args s
  | .pauseProbing tag args => Sys2Proof.Machine.execPauseProbing tag args s
  | .resumeProbing tag args => Sys2Proof.Machine.execResumeProbing tag args s
  | .legManual tag args => Sys2Proof.Machine.execLegManual tag args s
  | .legRelease tag args => Sys2Proof.Machine.execLegRelease tag args s
  | .releaseLockout tag args => Sys2Proof.Machine.execReleaseLockout tag args s
  | .readEvents tag args => Sys2Proof.Machine.execReadEvents tag args s
  | .clearEvents tag args => Sys2Proof.Machine.execClearEvents tag args s
  | .setEventMask tag args => Sys2Proof.Machine.execSetEventMask tag args s
  | .receivedByte byte => Sys2Proof.Machine.execReceivedByte byte s
  | .selectAssertion => Sys2Proof.Machine.execSelectAssertion s
  | .reportBitReceived bit => Sys2Proof.Machine.execReportBitReceived bit s

end Sys2Proof.Machine
end

