-- ==== Sys2Proof/WellFormed.lean ====
section
/-! DEFINITION. WellFormed.lean: which commands the outside can send. -/

namespace Sys2Proof

/-- A request frame's LEN is at most 250, so it carries at most 248 argument bytes (R184). -/
def argumentsFit (args : List Byte) : Bool := args.length ≤ 248

/-- The argument bytes of a command that is a request frame, and none of the others. -/
def Instr.arguments (i : Instr) : List Byte := ((requestBody i).getD []).drop 2

/-- A command the outside can send: its arguments fit a frame; an UNKNOWN_REQUEST names no request (R186); a low run
lasts at least one REFCLK period (R182). -/
def Instr.wellFormed (i : Instr) : Bool :=
  argumentsFit i.arguments &&
    match i with
    | .unknownRequest code _ _ => !namesRequest code
    | .alignRun periods => periods != 0
    | _ => true

end Sys2Proof
end

