-- ==== Sys2Proof/Safety.lean ====
section
/-! DEFINITION. Safety.lean: the words in which the statements speak: when the part is ready for a request, what a reply in
progress is, which record a name picks, and what a sound state is, block by block. Each part of soundness is a promise that a
rule makes of every state the part can be in. -/

namespace Sys2Proof.Machine

/-! ### Requests and replies -/

/-- The part is at rest and listens: no step of its own is due, the link is READY, and no reply is in progress (R184,
R187). -/
def State.hears (s : State) : Bool := s.nothingDue && s.receives

/-- The state in which a reply is in progress and nothing else has changed: the reply frame of R187 with this code, tag,
status and data, and no frame in reception. -/
def State.replied (code tag : Byte) (status : Status) (data : List Byte) (s : State) : State :=
  s.withLink
    { s.link with
      frame := none
      reply := some
        { frame := 0x5A#8 :: framed ([code ||| 0x80#8, tag, statusByte status] ++ data), restart := false } }

/-- The record that a name of two bytes picks by R3: slot `n` holds `r` under that generation. -/
def State.picks (num gen : Byte) (n : SlotNo) (r : Record) (s : State) : Prop :=
  num.toNat = n.val ∧ s.record n = some r ∧ (s.slot n).gen = gen

/-- The answer of R3 to a name that picks no record. -/
def State.namesNothing (num gen : Byte) (status : Status) (s : State) : Prop :=
  (96 ≤ num.toNat ∧ status = .badArgument) ∨
    ∃ n : SlotNo, num.toNat = n.val ∧ status = .noRecord ∧ (s.record n = none ∨ (s.slot n).gen ≠ gen)

/-- The request code and the tag of a command that is a request frame (R184). -/
def codeAndTag (i : Instr) : Option (Byte × Byte) :=
  match requestBody i with
  | some (code :: tag :: _) => some (code, tag)
  | _ => none

/-- Whether the number of argument bytes fits the code, as section 10.6 gives it. No number fits a code that names no
request. -/
def lengthFits (i : Instr) : Bool :=
  let n := i.arguments.length
  match (codeAndTag i).map fun p => p.1.toNat with
  | none => false
  | some code =>
    if [0x01, 0x02, 0x08, 0x10, 0x12, 0x14, 0x23, 0x24, 0x2A, 0x33, 0x40, 0x41, 0x42, 0x44, 0x45, 0x48].contains code then n == 0
    else if [0x25, 0x29, 0x49, 0x4A].contains code then n == 1
    else if [0x26, 0x30, 0x32, 0x34, 0x36, 0x37, 0x38, 0x3A, 0x43].contains code then n == 2
    else if code == 0x20 then n == 3
    else if [0x09, 0x39].contains code then n == 4
    else if code == 0x28 then n == 5
    else if code == 0x35 then n == 6
    else if code == 0x31 then n == 10
    else if code == 0x11 then n == 17
    else if code == 0x13 then n == 21
    else if code == 0x21 then n % 2 == 0 && n ≤ 128
    else if code == 0x22 then n % 5 == 0 && n ≤ 245
    else false

/-- The commands that are steps of the block's own, each taken where it is due (log entry 2). -/
def isOwnStep (i : Instr) : Bool :=
  (([.secondTick, .agingTick, .windowStart, .dwellExpiry, .holdExhausted, .roundStart, .roundEvaluation, .frameTimeout] : List Instr) ++
    allLegs.map Instr.settleExpiry).contains i

/-- The bits of a report, in the order in which the port receives them (R57: most significant bit first). -/
def reportBits (w : BitVec 64) : List Bool := (List.range 64).map fun k => w.getMsbD k

/-- Commands taken one after another. -/
def execAll (s : State) (cs : List Instr) : Host.Outcome State Fault Refusal :=
  match cs with
  | [] => .next s
  | c :: rest =>
    match exec c s with
    | .next t => execAll t rest
    | .fault f => .fault f
    | .refused r => .refused r

/-- The state once the head entry has left the queue, before its report is handled (R61, R63). -/
def State.popped (rest : List QueuedReport) (s : State) : State :=
  (s.withQueue rest).withHold (s.hold && decide (49 ≤ rest.length))

/-- A record without its link, which evaluations of other records' changes may move (R27). -/
def Record.unlinked (r : Record) : Record :=
  match r.body with
  | .echo _ => r
  | .ingress g => { r with body := .ingress { g with link := none } }

/-- Whether a slot is the lowest FREE one (R8). -/
def State.isLowestFree (n : SlotNo) (s : State) : Prop :=
  s.record n = none ∧ ∀ m : SlotNo, m < n → s.record m ≠ none

/-- Whether a sense change of a tick is one that R153 makes a mismatch: no settle pending, another value than before, and
not the one commanded. -/
def State.sensesMismatch (sense : PerLeg LinePair) (s : State) (l : Leg) : Prop :=
  (s.switch l).settle = none ∧ sensedOf (sense.get l) ≠ (s.switch l).sensed ∧
    (sensedOf (sense.get l)).agrees (s.switch l).commanded = false

/-! ### The end of a round without evaluation: R140 -/

/-- The leg that the round holds out of THROUGH, in SETTLE_IN or PROBE_L, has been commanded THROUGH in `t` with a settle of the
round's guard; every other leg stands (R140 step 1). -/
def State.legReturns (s : State) (x : Round) (t : State) : Prop :=
  ∀ l,
    ((∃ e, s.mode = .active x (.settleIn l) e ∨ s.mode = .active x (.probe l) e) → (s.switch l).commanded ≠ .through →
      t.switch l = { s.switch l with commanded := .through, settle := some (x.snap.guard + 1) }) ∧
    ((∀ e, s.mode ≠ .active x (.settleIn l) e ∧ s.mode ≠ .active x (.probe l) e) → t.switch l = s.switch l)

/-- The probing record, if it still exists, has returned to PROBE_WAIT in `t`, its other fields unchanged, and has joined the
wait queue with its severity and the seconds value; no other slot has changed (R34, R140 step 3). -/
def State.recordReturns (s : State) (x : Round) (t : State) : Prop :=
  (s.named x.record = none → t.table = s.table ∧ t.waitQueue = s.waitQueue) ∧
    ∀ r g, s.named x.record = some r → r.state = .probing → r.body = .ingress g → g.leg = none →
      t.table = (s.setSlot x.record.num
        { gen := x.record.gen, changed := true
          record := some { r with state := .probeWait, acknowledged := false, frozen := false } }).table ∧
      t.waitQueue = insertEntry { name := x.record, excess := r.severity, second := s.clock.seconds } s.waitQueue

/-! ### The switches: R149, R154, R121 -/

/-- The leg that the sequencer holds out of THROUGH in a state, if any (the last column of R121). -/
def Mode.heldLeg (m : Mode) : Option Leg :=
  match m with
  | .active _ (.settleIn l) _ => some l
  | .active _ (.probe l) _ => some l
  | .active _ .ref _ | .active _ (.settleOut _) _ => none
  | .manual l _ _ => some l
  | .idle | .waitBudget | .closing _ | .paused | .locked => none

/-- A leg is commanded out of THROUGH only while the sequencer holds it, so at most one leg is; and the lockout is set
exactly in LOCKED (R121, R149, R154). -/
def State.legsSound (s : State) : Bool :=
  (allLegs.all fun l => !s.isOut l || s.mode.heldLeg == some l) && (s.lockout == (s.mode == .locked))

/-- Every leg's charge is within its allowance (R157). -/
def State.chargesSound (s : State) : Bool := allLegs.all fun l => (s.switch l).charge ≤ s.allowance l

/-! ### The settings and the clock -/

/-- Every detection and probe setting lies in its range (R13, R72, R117, R122). -/
def Settings.inRange (c : Settings) : Bool :=
  20 ≤ c.echoFloor && c.echoFloor ≤ 120 && 10 ≤ c.matchWindow && c.matchWindow ≤ 200 &&
    1 ≤ c.confirmStations && c.confirmStations ≤ 8 && 1 ≤ c.scoreAdd && c.scoreAdd ≤ 50 &&
    1 ≤ c.agingStep && c.agingStep ≤ 10 && c.agingCode ≤ 3 && c.retention ≤ 255 &&
    16 ≤ c.ingressExcess && c.ingressExcess ≤ 120 && 1 ≤ c.ingressStreak && c.ingressStreak ≤ 8 &&
    4 ≤ c.dropHigh && c.dropHigh ≤ 80 && c.dropLow ≤ 40 && c.dropLow < c.dropHigh &&
    19 ≤ c.dwell && c.dwell ≤ 999 && 1 ≤ c.guard && c.guard ≤ 49 &&
    1 ≤ c.maxAttempts && c.maxAttempts ≤ 32 && 1 ≤ c.minSamples && c.minSamples ≤ 16

/-- Every safety setting lies in its range, each allowance within the window (R160). -/
def Safety.inRange (c : Safety) : Bool :=
  10 ≤ c.budgetWindow && c.budgetWindow ≤ 600 && (allLegs.all fun l => c.allowance.get l ≤ c.budgetWindow * 1000) &&
    20 ≤ c.maxIsolateDwell && c.maxIsolateDwell ≤ 1000

/-- What a round has latched lies in range, with MAX_ISOLATE_DWELL latched exactly at ISOLATE (R122, R128, R160). -/
def Snapshot.inRange (c : Snapshot) : Bool :=
  19 ≤ c.dwell && c.dwell ≤ 999 && 1 ≤ c.guard && c.guard ≤ 49 && 4 ≤ c.dropHigh && c.dropHigh ≤ 80 &&
    c.dropLow < c.dropHigh && 1 ≤ c.minSamples && c.minSamples ≤ 16 &&
    match c.depth, c.maxIsolateDwell with
    | .atten, none => true
    | .isolate, some most => 20 ≤ most && most ≤ 1000
    | .atten, some _ => false
    | .isolate, none => false

/-- The settings, the safety settings and the values latched by the round in progress all lie in range. -/
def State.settingsSound (s : State) : Bool :=
  s.settings.inRange && s.safety.inRange &&
    match s.round with
    | none => true
    | some r => r.snap.inRange

/-- No count of the Plant Clock passes its limit: 1000 milliseconds, the aging interval, the budget window, each reached
only while its tick is due (R29, R31, R32). -/
def State.clockSound (s : State) : Bool :=
  s.clock.ms ≤ 1000 && s.clock.agingCount ≤ agingInterval s.settings.agingCode &&
    s.clock.windowCount ≤ s.safety.budgetWindow &&
    (s.clock.ms == 0 ||
      (s.clock.agingCount < agingInterval s.settings.agingCode && s.clock.windowCount < s.safety.budgetWindow))

/-! ### The report queue and the bands -/

/-- The queue holds at most 64 reports, and HOLD agrees with its count: driven at 49 or more, released at 55 or fewer
(R61, R63). -/
def State.queueSound (s : State) : Bool :=
  s.queue.length ≤ 64 && (if s.hold then 49 ≤ s.queue.length else s.queue.length ≤ 55)

/-- Every baseline lies within -240 to 240 and every streak within 0 to 8 (R104). -/
def State.bandsSound (s : State) : Bool :=
  s.bands.toList.all fun b =>
    b.streak ≤ 8 && match b.baseline with
      | none => true
      | some x => -240 ≤ x && x ≤ 240

/-! ### The map -/

/-- Distances rise strictly and none exceeds 20000 (R36). -/
def tapsSound (taps : List Nat) : Bool := taps.length ≤ 64 && tapsFollow none taps

/-- A station entry that agrees with a tap list (R37). -/
def Station.sound (tapCount : Nat) (x : Station) : Bool :=
  1 ≤ x.handle && x.handle ≤ 65535 && x.tap < tapCount && x.drop ≤ 1000

/-- No two entries of a station list name one handle (R35). -/
def handlesDiffer (stations : List Station) : Bool :=
  stations.all fun x => stations.countP (fun y => y.handle == x.handle) == 1

/-- A leg of the map as R35 to R37 describe it. -/
def LegMap.sound (m : LegMap) : Bool :=
  tapsSound m.taps && m.stations.length ≤ 512 && m.stations.all (Station.sound m.taps.length) &&
    (match m.vf with
      | none => m.taps == [] && m.stations == []
      | some v => 600 ≤ v && v ≤ 990) &&
    match m.zone with
    | none => true
    | some z => z.first ≤ z.last && z.last ≤ 20000

/-- A staging area as R41 describes it. -/
def Staging.sound (g : Staging) : Bool :=
  tapsSound g.taps && g.stations.length ≤ 512 && g.stations.all (Station.sound g.taps.length) &&
    handlesDiffer g.stations && 600 ≤ g.vf && g.vf ≤ 990

/-- The map and the staging area: each leg and the staging area as described, each handle once in the whole map, and at most
1024 stations in all (R35, R41). -/
def State.plantSound (s : State) : Bool :=
  (allLegs.all fun l => (s.plant.get l).sound) &&
    handlesDiffer (allLegs.flatMap fun l => (s.plant.get l).stations) && s.stationsInAll ≤ 1024 &&
    match s.staging with
    | none => true
    | some g => g.sound

/-! ### The records -/

/-- The fields that both kinds have: their ranges, and the retention only in CLEARED (R4, R5). -/
def Record.rangesSound (r : Record) : Bool :=
  r.score ≤ 100 && 1 ≤ r.observations && r.observations ≤ 65535 && r.recurrences ≤ 255 &&
    (match r.retention with
      | none => true
      | some k => k ≤ 255 && r.state == .cleared) &&
    r.ticket != some 0

/-- An echo part: position within the spread, the spread within the leg (R85); 1 to 8 distinct handles (R97); severity 20 to
120 (R98); a tap in CONFIRMED and CLEARED alone, and within the leg's tap list (R4, R26). -/
def EchoPart.sound (plant : PerLeg LegMap) (st : RecordState) (severity : Nat) (e : EchoPart) : Bool :=
  e.spreadMin ≤ e.position && e.position ≤ e.spreadMax && e.spreadMax ≤ 20000 &&
    1 ≤ e.stations.length && e.stations.length ≤ 8 && e.stations.dedup.length == e.stations.length &&
    20 ≤ severity && severity ≤ 120 && (st == .suspect || st == .confirmed || st == .cleared) &&
    match e.tap with
    | none => true
    | some t => st != .suspect && decide (t < (plant.get e.leg).taps.length)

/-- An ingress part: its ranges, a void streak below 4 while it waits for a round or is in one (R137), its leg in CONFIRMED
and else in CLEARED alone, its link in CONFIRMED alone (R4, R5). -/
def IngressPart.sound (st : RecordState) (severity : Nat) (g : IngressPart) : Bool :=
  severity ≤ 255 && g.attempts ≤ 32 && g.voidStreak ≤ 4 && st != .suspect &&
    (g.voidStreak ≤ 3 || (st != .probeWait && st != .probing)) &&
    (match g.leg with
      | none => st != .confirmed
      | some _ => st == .confirmed || st == .cleared) &&
    (g.link == none || st == .confirmed)

/-- A record as R4 describes it, with its frozen flag as R24 gives it. -/
def Record.sound (plant : PerLeg LegMap) (r : Record) : Bool :=
  r.rangesSound && r.frozen == r.inZone plant &&
    match r.body with
    | .echo e => e.sound plant r.state r.severity
    | .ingress g => g.sound r.state r.severity

/-- Every record of the table is as R4 and R24 describe it. -/
def State.recordsSound (s : State) : Bool := s.records.all fun p => p.2.sound s.plant

/-- A link names an echo record CONFIRMED on the ingress record's leg (R28). -/
def State.linksSound (s : State) : Bool :=
  s.records.all fun p =>
    match p.2.body with
    | .echo _ => true
    | .ingress g =>
      match g.link, g.leg with
      | none, _ => true
      | some _, none => false
      | some name, some l =>
        match s.named name with
        | none => false
        | some r => r.confirmedEchoOn l

/-! ### The wait queue and the round -/

/-- Whether entries stand in the order of R123. -/
def inOrder (entries : List WaitEntry) : Bool :=
  match entries with
  | [] => true
  | x :: rest => (rest.all fun y => x.before y) && inOrder rest

/-- The wait queue holds each PROBE_WAIT record exactly once, nothing else, and in order (R123); a record is PROBING exactly
while a round is in progress on it (R121); each band has at most one ingress record, and a band that has one has a baseline
(R110, R116). -/
def State.probingSound (s : State) : Bool :=
  inOrder s.waitQueue &&
    (s.waitQueue.all fun e =>
      match s.named e.name with
      | none => false
      | some r => r.state == .probeWait && e.excess ≤ 255) &&
    (s.records.all fun p =>
      (p.2.state != .probeWait || s.waitQueue.countP (fun e => e.name == s.nameOf p.1) == 1) &&
        ((p.2.state == .probing) == ((s.round.map Round.record) == some (s.nameOf p.1))) &&
        match p.2.ingress? with
        | none => true
        | some g =>
          p.2.state != .suspect && (s.bands[g.band]).baseline.isSome &&
            s.records.countP (fun q => q.2.ingressOf g.band) == 1) &&
    match s.round with
    | none => true
    | some r => (s.named r.record).isSome

/-! ### The link -/

/-- No frame is in reception and no reply in progress outside READY, nor both at once; and while RESET is asserted the link
measures (R182, R187, R194). -/
def State.linkSound (s : State) : Bool :=
  (match s.link.phase with
    | .ready _ => true
    | .measuring | .rateTaken _ | .sendingAlign _ => s.link.frame == none && s.link.reply == none) &&
    (s.link.frame == none || s.link.reply == none) && (!s.resetLine || s.link.phase == .measuring)

/-- A sound state: every promise at once. -/
def State.sound (s : State) : Bool :=
  s.legsSound && s.chargesSound && s.settingsSound && s.clockSound && s.queueSound && s.bandsSound && s.plantSound &&
    s.recordsSound && s.linksSound && s.probingSound && s.linkSound

end Sys2Proof.Machine
end

