-- ==== Sys2Proof/Certificates/Slice0/Obligations.lean ====
section
/-! DEFINITION. Obligations.lean: the statements for the provers. Each docstring names the rules of spec/ that its statement
formalises, or the log entry of the choice it rests on. Where a statement assumes `nothingDue`, the state is one in which no
step of the block's own is due; O3 says what every command does in the other states. -/

open Sys2Proof Sys2Proof.Machine

/-! ### The queue of commands and the steps of the block's own -/

/-- A step takes the command at the front of the queue and runs it on the state with the queue's rest; on an empty queue the
block idles. The model's choice (log entry 1). -/
def Obligations.StepTakesTheFrontCommand : Prop :=
  ∀ s : State,
    (s.pending = [] → step s = .next s) ∧ ∀ c rest, s.pending = c :: rest → step s = exec c (s.withPending rest)

/-- Every command answers a next state, and none touches the queue of the commands that wait. The model's choice (log entry
1). -/
def Obligations.CommandsCompleteAndLeaveTheQueue : Prop :=
  ∀ (i : Instr) (s : State), ∃ t, exec i s = .next t ∧ t.pending = s.pending

/-- With the settings in range, every command but the nine steps of the block's own finds every due step taken, and then
none is left due; and a step of the block's own that is not due changes nothing. The model's choice (log entries 2 and 8):
the spec takes such a step at the moment it falls due. -/
def Obligations.CommandsFindEveryDueStepTaken : Prop :=
  (∀ s : State, s.settingsSound = true →
    s.caughtUp.nothingDue = true ∧ ∀ i, isOwnStep i = false → exec i s = exec i s.caughtUp) ∧
  ∀ s : State,
    (s.secondDue = false → exec .secondTick s = .next s) ∧
    (s.agingDue = false → exec .agingTick s = .next s) ∧
    (s.windowDue = false → exec .windowStart s = .next s) ∧
    (∀ l, s.settleDue l = false → exec (.settleExpiry l) s = .next s) ∧
    (s.dwellDue = false → exec .dwellExpiry s = .next s) ∧
    (s.holdExhausted = false → exec .holdExhausted s = .next s) ∧
    (s.roundStartDue = false → exec .roundStart s = .next s) ∧
    (s.evaluationDue = false → exec .roundEvaluation s = .next s) ∧
    (s.timeoutDue = false → exec .frameTimeout s = .next s)

/-! ### Resets -/

/-- R33 and R55, with the defaults of R13, R72, R117 and R122 and the power-on columns of R69, R104, R146, R148, R160 and
R191: what power-on leaves. -/
def Obligations.PowerOnLeaves : Prop :=
  let s := State.reset
  ((∀ n, s.slot n = { gen := 0, changed := false, record := none }) ∧
    s.allocationSlot = some 0 ∧ (∀ r, ((s.allocateAt 0 r).slot 0).gen = 1) ∧
    s.settings.confirmStations = 2 ∧ s.settings.scoreAdd = 20 ∧ s.settings.agingStep = 2 ∧ s.settings.agingCode = 2 ∧
    s.settings.retention = 60 ∧
    s.settings.echoFloor = 60 ∧ s.settings.matchWindow = 50 ∧
    s.settings.ingressExcess = 40 ∧ s.settings.ingressStreak = 3 ∧
    s.settings.probeDepth = .atten ∧ s.settings.dwell = 99 ∧ s.settings.guard = 9 ∧ s.settings.dropHigh = 12 ∧
    s.settings.dropLow = 4 ∧ s.settings.minSamples = 2 ∧ s.settings.maxAttempts = 8 ∧
    s.clock = { ms := 0, seconds := 0, agingCount := 0, windowCount := 0 } ∧ s.flags = 0) ∧
  ((∀ l, s.plant.get l = { vf := none, taps := [], stations := [], zone := none }) ∧ s.staging = none ∧
    (∀ handle, s.locate handle = none)) ∧
  (s.port.counting = false ∧ s.port.pending = none ∧ s.queue = [] ∧ s.hold = false) ∧
  (∀ b, s.band b = { baseline := none, streak := 0 }) ∧
  (s.mode = .idle ∧ s.waitQueue = [] ∧ s.roundNumber = 0) ∧
  ((∀ l, (s.switch l).commanded = .through ∧ (s.switch l).settle = none ∧ (s.switch l).faultLatch = false ∧
      (s.switch l).charge = 0) ∧ s.lockout = false) ∧
  (s.safety = { budgetWindow := 60, allowance := ⟨2000, 2000, 2000, 2000⟩, isolatePermitted := false,
                maxIsolateDwell := 200 } ∧ s.safetyLock = false) ∧
  (s.link = { phase := .measuring, frame := none, reply := none } ∧ s.mask = 0x7F ∧ s.alert = false)

/-- POWER_ON_RESET gives every block its power-on values, in every state; the level of the RESET line and the queue of
commands stand (the model's choice, log entry 6). -/
def Obligations.PowerOnResetStartsAfresh : Prop :=
  ∀ s : State, exec .powerOnReset s = .next ((State.reset.withResetLine s.resetLine).withPending s.pending)

/-- LINE_RESET (R34, R56, R69, R70, R146, R165, R194): what it drops and what it keeps, and what becomes of the sequencer by
its state. A round is aborted and a hold ends, the leg held out is commanded THROUGH with a settle of one guard, and the
PROBING record returns to PROBE_WAIT and joins the wait queue; the transmit line is high at once. RESET_RELEASE lets go of
the line. The model's choices: while the line is asserted already it does nothing (log entry 6); the bits of the port that
has no select are 0 (log entry 14); entering IDLE, the sequencer makes its start test (log entry 16). -/
def Obligations.LineResetDropsAndKeeps : Prop :=
  ∀ s : State, s.nothingDue = true →
    (s.resetLine = true → exec .lineReset s = .next s) ∧
    exec .resetRelease s = .next (s.withResetLine false) ∧
    (s.resetLine = false →
      let dropped :=
        (((((s.withResetLine true).withPort { counting := false, count := 0, bits := 0, pending := none }).withQueue []).withHold
          false).withStaging none).withLink { phase := .measuring, frame := none, reply := none }
      (∀ k, dropped.transmitLine k = true) ∧
      (s.mode = .idle ∨ s.mode = .paused ∨ s.mode = .locked → exec .lineReset s = .next dropped) ∧
      (s.mode = .waitBudget → exec .lineReset s = .next (dropped.withMode .idle).startTest) ∧
      (∀ l d o, s.mode = .manual l d o → (s.switch l).commanded ≠ .through →
        exec .lineReset s =
          .next ((dropped.setSwitch l
            { s.switch l with commanded := .through, settle := some (s.settings.guard + 1) }).withMode .idle).startTest) ∧
      ∀ x, s.round = some x →
        ∃ t, exec .lineReset s = .next t ∧ t = (t.withMode .idle).startTest ∧
          t = (((dropped.withTable t.table).withSwitches t.switches).withWaitQueue t.waitQueue).withMode t.mode ∧
          s.legReturns x t ∧ s.recordReturns x t ∧
          ∀ n, (∀ r, s.record n = some r → r.state ≠ .probing) → t.slot n = s.slot n)

/-! ### The Plant Clock -/

/-- R29 to R32 and R157: a second tick is due at a millisecond count of 1000; it returns the milliseconds to 0 and advances
the seconds (modulo 2^32), the aging count and the window count by one. A window start is due when the window count reaches
BUDGET_WINDOW; it returns the count to 0 and zeroes every charge; in IDLE and WAIT_BUDGET the start test follows (R127), so
that a sequencer in WAIT_BUDGET with a record waiting, no settle pending and an eligible leg then has a round to start,
which ROUND_START takes (the model's choice, log entry 2); in the other states the sequencer goes on. A hold that its charge
has exhausted ends before a second tick (R159), but where a window start comes at the same tick that is taken first: the
charge then counts 1 and the hold goes on (the model's choice of R157's two orders, log entry 19). -/
def Obligations.SecondTicksAndWindowStartsCount : Prop :=
  (∀ s : State,
    (s.secondDue = true ↔ 1000 ≤ s.clock.ms) ∧ (s.windowDue = true ↔ s.safety.budgetWindow ≤ s.clock.windowCount)) ∧
  (∀ s : State, 1000 ≤ s.clock.ms →
    let ticked := s.withClock
      { ms := 0, seconds := s.clock.seconds + 1, agingCount := s.clock.agingCount + 1
        windowCount := s.clock.windowCount + 1 }
    (s.holdExhausted = false → exec .secondTick s = .next ticked) ∧
    (∀ t, s.holdExhausted = true → exec .holdExhausted s = .next t → exec .secondTick s = exec .secondTick t) ∧
    (∀ l d o, s.mode = .manual l d o → s.safety.budgetWindow ≤ s.clock.windowCount + 1 →
      exec .holdExhausted s = .next s ∧ exec .secondTick s = .next ticked)) ∧
  ∀ s : State, s.windowDue = true → ∃ t, exec .windowStart s = .next t ∧
    t = ((s.withClock { s.clock with windowCount := 0 }).withSwitches t.switches).withMode t.mode ∧
    (∀ k, t.switch k = { s.switch k with charge := (t.switch k).charge } ∧ (t.switch k).charge ≤ 1) ∧
    ((∀ l d o, s.mode = .manual l d o → (s.switch l).charge < s.allowance l) → ∀ k, (t.switch k).charge = 0) ∧
    (∀ l d o, s.mode = .manual l d o →
      (∀ k, k ≠ l → (t.switch k).charge = 0) ∧
      (1 ≤ (s.switch l).charge → s.allowance l ≤ (s.switch l).charge → (t.switch l).charge = 1)) ∧
    (s.mode ≠ .idle → s.mode ≠ .waitBudget → t.mode = s.mode) ∧
    (s.mode = .idle ∨ s.mode = .waitBudget → t = (t.withMode s.mode).startTest) ∧
    (s.mode = .waitBudget → s.waitQueue ≠ [] → s.anySettle = false → (∃ l, s.eligible l = true) →
      t.mode = .idle ∧ t.roundStartDue = true)

/-- R147: the encoding of the drive and sense pairs, and which sensed state agrees with which commanded one; INVALID agrees
with none. R29, R121, R150, R151, R159, R185, a tick at which no switch surprises: the millisecond count, the step under
way, the inter-byte count and every pending settle go on by one millisecond, every sense pair is recorded, a held leg is
charged one millisecond, and nothing else changes. No record is just confirmed any more (log entry 21). -/
def Obligations.MillisecondTickCounts : Prop :=
  (sensedOf ⟨false, false⟩ = .through ∧ sensedOf ⟨false, true⟩ = .atten ∧ sensedOf ⟨true, false⟩ = .isolate ∧
    sensedOf ⟨true, true⟩ = .invalid) ∧
  (SwitchState.through.drivePair = ⟨false, false⟩ ∧ SwitchState.atten.drivePair = ⟨false, true⟩ ∧
    SwitchState.isolate.drivePair = ⟨true, false⟩) ∧
  (∀ (x : Sensed) (p : SwitchState), x.agrees p = true ↔
    (x = .through ∧ p = .through) ∨ (x = .atten ∧ p = .atten) ∨ (x = .isolate ∧ p = .isolate)) ∧
  ∀ (sense : PerLeg LinePair) (s : State), s.nothingDue = true → (∀ l, ¬ s.sensesMismatch sense l) →
    (∀ l, (s.switch l).settle = some 1 → (sensedOf (sense.get l)).agrees (s.switch l).commanded = true) →
    exec (.millisecondTick sense) s =
      .next (((((s.withClock { s.clock with ms := s.clock.ms + 1 }).withConfirmedNow none).withMode
        (match s.mode with
          | .active r step elapsed => .active r step (elapsed + 1)
          | m => m)).withLink
        { s.link with frame := s.link.frame.map fun f => { f with gap := f.gap + 1 } }).withSwitches
          (PerLeg.ofFn fun l =>
            { s.switch l with
              sensed := sensedOf (sense.get l)
              settle := (s.switch l).settle.map fun k => k - 1
              charge :=
                match s.mode with
                | .manual k _ _ => if k = l then (s.switch l).charge + 1 else (s.switch l).charge
                | _ => (s.switch l).charge }))

/-- R153, R154 and R155, a sense change outside a settle that disagrees with the command. With the lockout clear, the leg
(the lowest such leg of the tick, log entry 7) is latched, every leg is commanded THROUGH, the sequencer is LOCKED and
SWITCH_FAULT is set; no charge, map, band or setting changes. With it set, the leg is latched and SWITCH_FAULT set, and
nothing is commanded. A leg that was out settles for the round's guard, or for GUARD + 1 ms without a round (R150). The
PROBING record of a round returns to PROBE_WAIT and joins the wait queue (R140, R154). -/
def Obligations.SenseMismatchLocksOut : Prop :=
  ∀ (sense : PerLeg LinePair) (s : State) (l : Leg), s.nothingDue = true → s.sensesMismatch sense l →
    (s.lockout = false → (∀ k, k < l → ¬ s.sensesMismatch sense k) →
      ∃ t, exec (.millisecondTick sense) s = .next t ∧ t.lockout = true ∧ t.mode = .locked ∧
        (t.switch l).faultLatch = true ∧ t.flagSet flagSwitchFault = true ∧
        (∀ k, (t.switch k).commanded = .through ∧ (t.switch k).sensed = sensedOf (sense.get k) ∧
          (t.switch k).charge = (s.switch k).charge ∧
          ((s.switch k).commanded ≠ .through → (t.switch k).settle = some s.lockoutGuard)) ∧
        (∀ x, s.round = some x → s.lockoutGuard = x.snap.guard + 1 ∧ s.recordReturns x t) ∧
        (s.round = none → s.lockoutGuard = s.settings.guard + 1 ∧ t.table = s.table ∧ t.waitQueue = s.waitQueue) ∧
        t.clock = { s.clock with ms := s.clock.ms + 1 } ∧ t.plant = s.plant ∧ t.bands = s.bands ∧
        t.settings = s.settings ∧ t.safety = s.safety ∧ t.queue = s.queue ∧ t.roundNumber = s.roundNumber ∧
        (∀ n, (∀ r, s.record n = some r → r.state ≠ .probing) → t.slot n = s.slot n)) ∧
    (s.lockout = true → s.mode = .locked →
      ∃ t, exec (.millisecondTick sense) s = .next t ∧ t.lockout = true ∧ t.mode = .locked ∧
        (t.switch l).faultLatch = true ∧ t.flagSet flagSwitchFault = true ∧ t.table = s.table ∧
        (∀ k, (t.switch k).commanded = (s.switch k).commanded ∧ (t.switch k).charge = (s.switch k).charge))

/-- R31: an aging tick is due when the aging count reaches 1, 10, 60 or 300, by AGING_INTERVAL's code (R13). R14, R15, R16
and R17: what an aging tick does to each slot, by the state its record held when the tick began. The link of an ingress
record CONFIRMED may move besides (R18). -/
def Obligations.AgingTickStepsEverySlot : Prop :=
  (∀ s : State,
    (s.settings.agingCode = 0 → (s.agingDue = true ↔ 1 ≤ s.clock.agingCount)) ∧
    (s.settings.agingCode = 1 → (s.agingDue = true ↔ 10 ≤ s.clock.agingCount)) ∧
    (s.settings.agingCode = 2 → (s.agingDue = true ↔ 60 ≤ s.clock.agingCount)) ∧
    (s.settings.agingCode = 3 → (s.agingDue = true ↔ 300 ≤ s.clock.agingCount))) ∧
  ∀ s : State, s.agingDue = true → ∃ t, exec .agingTick s = .next t ∧
    t = ((s.withClock { s.clock with agingCount := 0 }).withTable t.table).withFlags t.flags ∧
    ∀ n,
      (t.slot n).gen = (s.slot n).gen ∧ (s.record n = none → t.slot n = s.slot n) ∧
      ∀ r, s.record n = some r →
        let score := r.score - s.settings.agingStep
        let decays := r.state = .confirmed ∨ r.state = .dormant ∨ r.state = .unresolved
        (r.frozen = true ∨ r.state = .probeWait ∨ r.state = .probing →
          ∃ r', t.record n = some r' ∧ r'.unlinked = r.unlinked) ∧
        (r.frozen = false → r.state = .suspect → score ≠ 0 ∨ r.pinned = true →
          t.slot n = { s.slot n with record := some { r with score := score } }) ∧
        (r.frozen = false → r.state = .suspect → score = 0 → r.pinned = false →
          t.slot n = { s.slot n with changed := true, record := none }) ∧
        (r.frozen = false → decays → score ≠ 0 →
          ∃ r', t.record n = some r' ∧ r'.unlinked = { r with score := score }.unlinked) ∧
        (r.frozen = false → decays → score = 0 →
          (t.slot n).changed = true ∧ t.flagSet flagCleared = true ∧
          ∃ r', t.record n = some r' ∧
            r'.unlinked =
              { r with
                state := .cleared, score := 0, acknowledged := false
                retention := if s.settings.retention = 0 then none else some s.settings.retention }.unlinked ∧
            (r.state = .confirmed → ∀ g, r'.body = .ingress g → g.link = none)) ∧
        (r.frozen = false → r.state = .cleared → r.retention = none → t.slot n = s.slot n) ∧
        (∀ k, r.frozen = false → r.state = .cleared → r.retention = some k → k - 1 ≠ 0 ∨ r.pinned = true →
          t.slot n = { s.slot n with record := some { r with retention := some (k - 1) } }) ∧
        (∀ k, r.frozen = false → r.state = .cleared → r.retention = some k → k - 1 = 0 → r.pinned = false →
          t.slot n = { s.slot n with changed := true, record := none })

/-! ### Settle checks, dwells and rounds -/

/-- R152, the settle check, due when no millisecond is left of the interval (R150). Where the leg agrees with its command
the settle is no longer pending; the SETTLE step that waited for it ends, or the start test is made in IDLE, or nothing else
changes. At the end of a SETTLE_OUT the next leg's visit begins: legs that the allowance refuses are skipped, the first that
it lets in is charged and commanded; where none is left the round is CLOSING (R130, R131). Where it disagrees, that is a
mismatch on the leg, with the effects of R154 while the lockout is clear, the PROBING record of a round returning to
PROBE_WAIT and the wait queue, and of R155 while it is set. -/
def Obligations.SettleChecksPassOrFail : Prop :=
  (∀ (l : Leg) (s : State), s.settleDue l = true ↔ (s.switch l).settle = some 0) ∧
  (∀ (l : Leg) (s : State), s.settleDue l = true → (s.switch l).sensed.agrees (s.switch l).commanded = true →
    let done := s.setSwitch l { s.switch l with settle := none }
    (∀ r e, s.mode = .active r (.settleIn l) e →
      exec (.settleExpiry l) s = .next (done.withMode (.active r (.probe l) 0))) ∧
    (∀ r e, s.mode = .active r (.settleOut l) e → (∀ k, l < k → r.marks.get k ≠ .notYetVisited) →
      exec (.settleExpiry l) s = .next (done.withMode (.closing r))) ∧
    (∀ r e, s.mode = .active r (.settleOut l) e → s.lockout = false → (∀ k, (s.switch k).commanded = .through) →
      let refused := fun (k : Leg) =>
        r.marks.get k = .notYetVisited ∧ s.allowance k < (s.switch k).charge + r.snap.visitCost
      let skipping := fun (k : Leg) =>
        if l < k ∧ r.marks.get k = .notYetVisited then VisitMark.skipped else r.marks.get k
      ((∀ k, l < k → r.marks.get k = .notYetVisited → refused k) →
        exec (.settleExpiry l) s = .next (done.withMode (.closing { r with marks := PerLeg.ofFn skipping }))) ∧
      ∀ k, l < k → r.marks.get k = .notYetVisited → ¬ refused k →
        (∀ j, l < j → j < k → r.marks.get j = .notYetVisited → refused j) →
        exec (.settleExpiry l) s =
          .next ((done.setSwitch k
            { s.switch k with
              commanded := r.snap.depth.position, settle := some (r.snap.guard + 1)
              charge := (s.switch k).charge + r.snap.visitCost }).withMode
                (.active
                  { r with marks := PerLeg.ofFn fun j =>
                      if j = k then .visited else if j < k then skipping j else r.marks.get j } (.settleIn k) 0))) ∧
    (s.mode = .idle → exec (.settleExpiry l) s = .next done.startTest) ∧
    (s.mode = .waitBudget ∨ s.mode = .paused ∨ s.mode = .locked ∨ (∃ r, s.mode = .closing r) ∨
        (∃ k d o, s.mode = .manual k d o) →
      exec (.settleExpiry l) s = .next done)) ∧
  ∀ (l : Leg) (s : State), s.settleDue l = true → (s.switch l).sensed.agrees (s.switch l).commanded = false →
    (s.lockout = true →
      exec (.settleExpiry l) s =
        .next ((s.setSwitch l { s.switch l with settle := none, faultLatch := true }).raise flagSwitchFault)) ∧
    (s.lockout = false →
      ∃ t, exec (.settleExpiry l) s = .next t ∧ t.lockout = true ∧ t.mode = .locked ∧
        (t.switch l).faultLatch = true ∧ t.flagSet flagSwitchFault = true ∧
        ((s.switch l).commanded = .through → (t.switch l).settle = none) ∧
        (∀ k, (t.switch k).commanded = .through ∧ (t.switch k).sensed = (s.switch k).sensed ∧
          (t.switch k).charge = (s.switch k).charge) ∧
        (∀ x, s.round = some x → s.recordReturns x t) ∧
        (s.round = none → t.table = s.table ∧ t.waitQueue = s.waitQueue) ∧
        t.clock = s.clock ∧ t.plant = s.plant ∧ t.bands = s.bands ∧ t.settings = s.settings ∧ t.safety = s.safety ∧
        t.queue = s.queue ∧ t.roundNumber = s.roundNumber ∧
        (∀ n, (∀ r, s.record n = some r → r.state ≠ .probing) → t.slot n = s.slot n))

/-- R129: a dwell lasts DWELL + 1 ms, in an ISOLATE round at most the MAX_ISOLATE_DWELL latched; a visit costs it and one
guard, GUARD + 1 ms. R130, R131 and R158, the end of a dwell. After PROBE_L the leg is commanded THROUGH and its SETTLE_OUT
begins. After REF the first leg that is to be visited and whose visit is not refused (the legs refused before it are
skipped) is charged one visit cost, commanded to the depth and marked visited, and its SETTLE_IN begins; where no leg is to
be visited the round is CLOSING. -/
def Obligations.DwellExpiryMovesTheRoundOn : Prop :=
  (∀ c : Snapshot,
    (c.maxIsolateDwell = none → c.dwellLength = c.dwell + 1) ∧
    (∀ most, c.maxIsolateDwell = some most → c.dwellLength = min (c.dwell + 1) most) ∧
    c.visitCost = c.guard + 1 + c.dwellLength) ∧
  (∀ s : State, s.dwellDue = true ↔
    ∃ r e, (s.mode = .active r .ref e ∨ ∃ l, s.mode = .active r (.probe l) e) ∧ r.snap.dwellLength ≤ e) ∧
  ∀ (s : State) (r : Round) (e : Nat), s.dwellDue = true →
    (∀ l, s.mode = .active r (.probe l) e → (s.switch l).commanded ≠ .through →
      exec .dwellExpiry s =
        .next ((s.setSwitch l
          { s.switch l with commanded := .through, settle := some (r.snap.guard + 1) }).withMode
            (.active r (.settleOut l) 0))) ∧
    (∀ l, s.mode = .active r .ref e → (∀ k, k < l → r.marks.get k ≠ .notYetVisited) →
      r.marks.get l = .notYetVisited → s.lockout = false → (∀ k, (s.switch k).commanded = .through) →
      (s.switch l).charge + r.snap.visitCost ≤ s.allowance l →
      exec .dwellExpiry s =
        .next ((s.setSwitch l
          { s.switch l with
            commanded := r.snap.depth.position, settle := some (r.snap.guard + 1)
            charge := (s.switch l).charge + r.snap.visitCost }).withMode
              (.active { r with marks := r.marks.set l .visited } (.settleIn l) 0))) ∧
    (∀ l, s.mode = .active r .ref e →
      (∀ k, k < l → r.marks.get k = .notYetVisited → s.allowance k < (s.switch k).charge + r.snap.visitCost) →
      r.marks.get l = .notYetVisited → s.lockout = false → (∀ k, (s.switch k).commanded = .through) →
      (s.switch l).charge + r.snap.visitCost ≤ s.allowance l →
      exec .dwellExpiry s =
        .next ((s.setSwitch l
          { s.switch l with
            commanded := r.snap.depth.position, settle := some (r.snap.guard + 1)
            charge := (s.switch l).charge + r.snap.visitCost }).withMode
              (.active
                { r with marks := PerLeg.ofFn fun k =>
                    if k = l then .visited
                    else if k < l ∧ r.marks.get k = .notYetVisited then .skipped
                    else r.marks.get k } (.settleIn l) 0))) ∧
    (s.mode = .active r .ref e →
      (∀ l, r.marks.get l = .notYetVisited → s.allowance l < (s.switch l).charge + r.snap.visitCost) →
      ∃ r', exec .dwellExpiry s = .next (s.withMode (.closing r')) ∧
        r' = { r with marks := PerLeg.ofFn fun l =>
                 if r.marks.get l = .notYetVisited then .skipped else r.marks.get l })

/-- R125 and R126: the visit cost of a round that started now (R129), which legs are eligible, and the rows of the start
test in their order. In the last row the round is due, and ROUND_START takes it (log entry 2). -/
def Obligations.StartTestTakesTheFirstRow : Prop :=
  ∀ s : State, s.mode = .idle ∨ s.mode = .waitBudget →
    let cost := s.snapshotNow.visitCost
    let isolate := s.settings.probeDepth = .isolate ∧ s.safety.isolatePermitted = true
    cost = s.settings.guard + 1 +
      (if isolate then min (s.settings.dwell + 1) s.safety.maxIsolateDwell else s.settings.dwell + 1) ∧
    (∀ l, s.eligible l = true ↔ (s.plant.get l).zone = none ∧ cost ≤ s.allowance l) ∧
    (s.waitQueue = [] → s.startTest = s.withMode .idle) ∧
    (s.waitQueue ≠ [] → (∃ l, (s.switch l).settle ≠ none) → s.startTest = s) ∧
    (s.waitQueue ≠ [] → (∀ l, (s.switch l).settle = none) → (∀ l, s.eligible l = false) →
      s.startTest = s.withMode .idle) ∧
    (s.waitQueue ≠ [] → (∀ l, (s.switch l).settle = none) →
      (∃ l, s.eligible l = true ∧ s.allowance l < (s.switch l).charge + cost) → s.startTest = s.withMode .waitBudget) ∧
    (s.waitQueue ≠ [] → (∀ l, (s.switch l).settle = none) → (∃ l, s.eligible l = true) →
      (∀ l, s.eligible l = true → (s.switch l).charge + cost ≤ s.allowance l) →
      s.startTest = s.withMode .idle ∧ s.startTest.roundStartDue = true)

/-- R128: a round starts as one event. The record's frozen flag is clear in a sound table, since a PROBE_WAIT record has no
leg (R5, R24). -/
def Obligations.RoundStartLatchesTheRound : Prop :=
  ∀ (s : State) (head : WaitEntry) (rest : List WaitEntry) (r : Record), s.roundStartDue = true →
    s.waitQueue = head :: rest → s.named head.name = some r → r.state = .probeWait →
    let isolate := s.settings.probeDepth = .isolate ∧ s.safety.isolatePermitted = true
    ∃ f, (s.recordsSound = true → f = false) ∧ exec .roundStart s =
      .next ((((s.withRoundNumber (s.roundNumber + 1)).withWaitQueue rest).setSlot head.name.num
        { gen := (s.slot head.name.num).gen, changed := true
          record := some { r with state := .probing, acknowledged := false, frozen := f } }).withMode
          (.active
            { record := head.name
              snap :=
                { dwell := s.settings.dwell, guard := s.settings.guard, dropHigh := s.settings.dropHigh
                  dropLow := s.settings.dropLow, minSamples := s.settings.minSamples
                  depth := if isolate then .isolate else .atten
                  maxIsolateDwell := if isolate then some s.safety.maxIsolateDwell else none }
              marks := PerLeg.ofFn fun l => if s.eligible l then .notYetVisited else .notInSnapshot
              dropAbsent := PerLeg.ofFn fun _ => false
              refSum := { count := 0, total := 0 }
              legSums := PerLeg.ofFn fun _ => { count := 0, total := 0 } } .ref 0))

/-- R133, R135 and R136: the mean of a sum, the threshold and the four drops; and the outcome is the first whose condition
holds. -/
def Obligations.RoundsAreJudged : Prop :=
  (∀ (r : Round) (x : DwellSum) (l : Leg) (baseline : Int) (excess : Nat),
    (x.count = 0 → x.mean = none) ∧
    (x.count ≠ 0 → ∃ m, x.mean = some m ∧ m * x.count ≤ x.total ∧ x.total < (m + 1) * x.count) ∧
    voidThreshold baseline excess = baseline + (excess / 2 : Nat) ∧
    (r.marks.get l ≠ .visited ∨ r.dropAbsent.get l = true → r.drop l = none) ∧
    (r.refSum.count = 0 ∨ (r.legSums.get l).count = 0 → r.drop l = none) ∧
    (∀ ref leg, r.marks.get l = .visited → r.dropAbsent.get l = false → r.refSum.mean = some ref →
      (r.legSums.get l).mean = some leg → r.drop l = some (max (-128) (min (ref - leg) 127)))) ∧
  ∀ (threshold : Int) (r : Round),
    let o := r.judge threshold
    let isVoid := ∃ m, r.refSum.mean = some m ∧ m < threshold
    let isThin := r.refSum.count < r.snap.minSamples ∨ ∃ l, r.probed l = true ∧ (r.legSums.get l).count < r.snap.minSamples
    let high := fun l => r.probed l = true ∧ ∃ d, r.drop l = some d ∧ (r.snap.dropHigh : Int) ≤ d
    let low := fun l => ∃ d, r.drop l = some d ∧ d ≤ (r.snap.dropLow : Int)
    let located := fun l => high l ∧ ∀ k, k ≠ l → r.probed k = true → ¬ high k ∧ low k
    let multi := ∃ l k, l ≠ k ∧ high l ∧ high k
    (isVoid → o.1 = .void) ∧
    (¬ isVoid → isThin → o.1 = .thin) ∧
    (¬ isVoid → ¬ isThin → ∀ l, located l → o = (.located, some l)) ∧
    (¬ isVoid → ¬ isThin → multi → o.1 = .multi) ∧
    (¬ isVoid → ¬ isThin → (∀ l, ¬ located l) → ¬ multi → o.1 = .weak)

/-- R68 and R134: which reports belong to a round, and when its evaluation is due. R137: what the evaluation of a drained
round writes into the PROBING record, and that it touches no other slot. In every outcome but LOCATED a sound record ends
without leg and link, and not frozen (R4, R5, R24). A record so confirmed is noted as just confirmed (log entry 21). -/
def Obligations.EvaluationUpdatesTheRecord : Prop :=
  (∀ (s : State) (number : Byte),
    let belongs := fun (tag : StepTag) => tag = .refDwell number ∨ ∃ l depth, tag = .legDwell l number depth
    (s.holdsReportOf number = true ↔
      (∃ x ∈ s.queue, belongs x.stamps.tag) ∨ ∃ stamps, s.port.pending = some stamps ∧ belongs stamps.tag)) ∧
  (∀ s : State, s.evaluationDue = true ↔ (∃ r, s.mode = .closing r) ∧ s.holdsReportOf s.roundNumber = false) ∧
  ∀ (s : State) (round : Round) (r : Record) (g : IngressPart), s.mode = .closing round → s.evaluationDue = true →
    s.named round.record = some r → r.state = .probing → r.body = .ingress g →
    let n := round.record.num
    let o := round.judge (voidThreshold (s.baselineOf g.band) s.settings.ingressExcess)
    let attempts := min (g.attempts + 1) 32
    ∃ t r' g', exec .roundEvaluation s = .next t ∧ t = (t.withMode .idle).startTest ∧
      t = (((((s.withTable t.table).withFlags t.flags).withWaitQueue t.waitQueue).withMode t.mode).withConfirmedNow
        t.confirmedNow) ∧
      t.confirmedNow = (if o.1 = .located then some round.record else s.confirmedNow) ∧
      (∀ m, m ≠ n → t.slot m = s.slot m) ∧ (t.slot n).gen = (s.slot n).gen ∧ (t.slot n).changed = true ∧
      t.record n = some r' ∧ r'.body = .ingress g' ∧
      r' = { r with state := r'.state, acknowledged := false, frozen := r'.frozen, body := .ingress g' } ∧
      g'.band = g.band ∧ g'.lastRound = some { outcome := o.1, drops := PerLeg.ofFn round.drop } ∧
      (o.1 = .void → g'.voidStreak = g.voidStreak + 1 ∧ g'.attempts = g.attempts ∧
        r'.state = (if 4 ≤ g.voidStreak + 1 then .dormant else .probeWait)) ∧
      (o.1 = .thin ∨ o.1 = .multi ∨ o.1 = .weak → g'.voidStreak = 0 ∧ g'.attempts = attempts ∧
        r'.state = (if s.settings.maxAttempts ≤ attempts then .unresolved else .probeWait)) ∧
      (o.1 = .located → g'.voidStreak = 0 ∧ g'.attempts = g.attempts ∧ r'.state = .confirmed ∧ g'.leg = o.2 ∧
        (∀ l, o.2 = some l → g'.link = s.strongestEcho l ∧ r'.frozen = (s.plant.get l).zone.isSome)) ∧
      (o.1 ≠ .located → s.recordsSound = true → g'.leg = none ∧ g'.link = none ∧ r'.frozen = false) ∧
      (r'.state = .unresolved → t.flagSet flagUnresolved = true) ∧
      (r'.state = .confirmed → t.flagSet flagConfirmed = true) ∧
      (r'.state = .probeWait → t.waitQueue =
        insertEntry { name := round.record, excess := r.severity, second := s.clock.seconds } s.waitQueue) ∧
      (r'.state ≠ .probeWait → t.waitQueue = s.waitQueue)

/-! ### The report port, the queue and dispatch -/

/-- R57, R59, R61, R62 and R63, a select: SELECT_ASSERTION begins the count afresh; each bit is shifted in and counted; the
64th takes the two stamps, the present second and the step in effect; a 65th spoils the count and leaves the report pending
until the release; a bit outside a counted select is ignored. At the release a report of exactly 64 bits is appended with
its stamps while the queue holds fewer than 64, driving HOLD from 56 entries on; at a full queue it is discarded with
REPORT_OVERRUN; a select of any other count is discarded. -/
def Obligations.SelectsAreCountedAndJudged : Prop :=
  (∀ (s : State) (bit : Bool), s.nothingDue = true →
    let shifted := s.port.bits <<< 1 ||| (if bit then 1#64 else 0#64)
    exec .selectAssertion s = .next (s.withPort { counting := true, count := 0, bits := 0, pending := none }) ∧
    (s.port.counting = false → exec (.reportBitReceived bit) s = .next s) ∧
    (s.port.counting = true → s.port.count < 63 →
      exec (.reportBitReceived bit) s =
        .next (s.withPort { counting := true, count := s.port.count + 1, bits := shifted, pending := none })) ∧
    (s.port.counting = true → s.port.count = 63 →
      exec (.reportBitReceived bit) s =
        .next (s.withPort { counting := true, count := 64, bits := shifted
                            pending := some { second := s.clock.seconds, tag := s.stepTag } })) ∧
    (s.port.counting = true → 64 ≤ s.port.count →
      exec (.reportBitReceived bit) s =
        .next (s.withPort { counting := true, count := s.port.count + 1, bits := s.port.bits
                            pending := s.port.pending }))) ∧
  ∀ (s : State) (stamps : Stamps), s.nothingDue = true →
    let idle := s.withPort { counting := false, count := 0, bits := 0, pending := none }
    (s.port.counting = true → s.port.count = 64 → s.port.pending = some stamps → s.queue.length < 64 →
      exec .reportArrival s =
        .next ((idle.withQueue (s.queue ++ [{ report := readReport s.port.bits, stamps := stamps }])).withHold
          (s.hold || decide (56 ≤ s.queue.length + 1)))) ∧
    (s.port.counting = true → s.port.count = 64 → s.port.pending = some stamps → 64 ≤ s.queue.length →
      exec .reportArrival s = .next (idle.raise flagOverrun)) ∧
    (s.port.counting = false ∨ s.port.count ≠ 64 → exec .reportArrival s = .next idle)

/-- R57 to R61: a select of exactly the 64 bits of a word, most significant bit first, puts that word's report at the tail
of a queue with room, under the second and the step tag of the present state. -/
def Obligations.SelectOfSixtyFourBitsIsQueued : Prop :=
  ∀ (w : BitVec 64) (s : State), s.nothingDue = true → s.port.pending = none → s.queue.length < 64 →
    execAll s ([Instr.selectAssertion] ++ (reportBits w).map Instr.reportBitReceived ++ [.reportArrival]) =
      .next (((s.withPort Port.initial).withQueue
        (s.queue ++ [{ report := readReport w, stamps := { second := s.clock.seconds, tag := s.stepTag } }])).withHold
          (s.hold || decide (56 ≤ s.queue.length + 1)))

/-- R58, R60 and R195: the fields of the two reports, from the eight bytes in the order they are sent; and the step tag is
the first row that holds. -/
def Obligations.ReportsAreReadAndTagged : Prop :=
  (∀ b0 b1 b2 b3 b4 b5 b6 b7 : Byte,
    let w : BitVec 64 := b0 ++ b1 ++ b2 ++ b3 ++ b4 ++ b5 ++ b6 ++ b7
    let kind := b0.toNat / 16
    (kind = 1 → readReport w =
      .burst (b0.toNat % 16) (b1.toNat * 256 + b2.toNat) (b3.toNat * 256 + b4.toNat) b5.toNat) ∧
    (kind = 2 → readReport w = .band b1.toNat (b2 ++ b3 : BitVec 16).toInt) ∧
    (kind ≠ 1 → kind ≠ 2 → readReport w = .other kind)) ∧
  ∀ s : State,
    (∀ r e, s.mode = .active r .ref e → s.stepTag = .refDwell s.roundNumber) ∧
    (∀ r l e, s.mode = .active r (.probe l) e → s.stepTag = .legDwell l s.roundNumber r.snap.depth) ∧
    (∀ r l e, s.mode = .active r (.settleIn l) e ∨ s.mode = .active r (.settleOut l) e → s.stepTag = .settle) ∧
    (∀ r, s.mode = .closing r → s.stepTag = .settle) ∧
    (∀ l d o, s.mode = .manual l d o → s.stepTag = .settle) ∧
    (s.mode = .idle ∨ s.mode = .waitBudget ∨ s.mode = .paused ∨ s.mode = .locked →
      ((∃ l, (s.switch l).settle ≠ none) → s.stepTag = .settle) ∧
      ((∀ l, (s.switch l).settle = none) → s.stepTag = .quiet))

/-- R61, R63 and R64: a dispatch takes the head entry and leaves the others in their order, releases HOLD at 48 entries or
fewer, and touches neither the clock, the settings, the switches, the port nor the link; with an empty queue there is none.
R65, R66, R89, R94 and R115: the reports that have no effect but leaving the queue are a malformed one, a burst whose delay
is above 383, a burst of a station that the map does not hold, a burst without an echo outside ISOLATE dwells, a band report
tagged settle. -/
def Obligations.DispatchTakesTheHead : Prop :=
  (∀ s : State, s.nothingDue = true →
    (s.queue = [] → exec .dispatch s = .next s) ∧
    ∀ x rest, s.queue = x :: rest → ∃ t, exec .dispatch s = .next t ∧ t.queue = rest ∧
      t.hold = (s.hold && decide (49 ≤ rest.length)) ∧ t.clock = s.clock ∧ t.settings = s.settings ∧
      t.safety = s.safety ∧ t.safetyLock = s.safetyLock ∧ t.switches = s.switches ∧ t.lockout = s.lockout ∧
      t.port = s.port ∧ t.link = s.link ∧ t.staging = s.staging ∧ t.roundNumber = s.roundNumber ∧ t.mask = s.mask ∧
      t.resetLine = s.resetLine) ∧
  ∀ (s : State) (x : QueuedReport) (rest : List QueuedReport), s.nothingDue = true → s.queue = x :: rest →
    (∀ kind, x.report = .other kind → exec .dispatch s = .next (s.popped rest)) ∧
    (∀ rate handle delay level, x.report = .burst rate handle delay level → 3 < rate ∨ 383 < delay →
      exec .dispatch s = .next (s.popped rest)) ∧
    (∀ band power, x.report = .band band power → 15 < band → exec .dispatch s = .next (s.popped rest)) ∧
    (∀ rate handle delay level, x.report = .burst rate handle delay level →
      handle = 0 ∨ (∀ l y, y ∈ (s.plant.get l).stations → y.handle ≠ handle) →
      exec .dispatch s = .next (s.popped rest)) ∧
    (∀ rate handle delay level, x.report = .burst rate handle delay level → delay ≤ 15 ∨ s.settings.echoFloor < max 20 level →
      (∀ l r, x.stamps.tag ≠ .legDwell l r .isolate) → exec .dispatch s = .next (s.popped rest)) ∧
    (∀ band power, x.report = .band band power → x.stamps.tag = .settle → exec .dispatch s = .next (s.popped rest))

/-! ### The Echo Locator -/

/-- R73: the distance, and its bounds over the whole input range. R83 and R85: the running position is the weighted mean,
rounded half up, and lies between the old position and the one observed. -/
def Obligations.EchoArithmeticRoundsHalfUp : Prop :=
  ((∀ delay vf rate, rate ≤ 3 →
    echoDistance delay vf rate =
      (delay * vf * [153494, 76747, 38373, 19187].getD rate 0 + 524288) / 1048576) ∧
  (∀ delay vf rate, 16 ≤ delay → delay ≤ 383 → 600 ≤ vf → vf ≤ 990 → rate ≤ 3 →
    176 ≤ echoDistance delay vf rate ∧ echoDistance delay vf rate ≤ 55504 ∧
    delay * vf * [153494, 76747, 38373, 19187].getD rate 0 ≤ 58200319980) ∧
  echoDistance 16 600 3 = 176 ∧ echoDistance 383 990 0 = 55504) ∧
  ∀ position n p : Nat,
    let w := min n 15
    runningPosition position n p = (position * w + p + (w + 1) / 2) / (w + 1) ∧
    min position p ≤ runningPosition position n p ∧ runningPosition position n p ≤ max position p

/-- R40, R74, R76, R77 and R90: what becomes of a well-formed burst report of a mapped station. A report stamped in an
ISOLATE dwell of the station's own leg in the round in progress marks it misplaced; an echo within the drop sets the
drop-echo mark; a position beyond the node by more than MATCH_WINDOW, or in the work zone, is discarded; any other is one
observation, a position short of the node being taken as 0. -/
def Obligations.EchoReportsAreJudgedInOrder : Prop :=
  ∀ (s : State) (x : QueuedReport) (rest : List QueuedReport) (rate handle delay level : Nat) (y : Located) (tapAt : Nat),
    s.nothingDue = true → s.queue = x :: rest → x.report = .burst rate handle delay level → rate ≤ 3 → delay ≤ 383 →
    s.locate handle = some y → (s.plant.get y.leg).taps[y.station.tap]? = some tapAt →
    let code := max 20 level
    let d := echoDistance delay y.vf rate
    let p : Int := tapAt + y.station.drop - d
    let mapped := s.plant.get y.leg
    let marked := fun (f : Station → Station) =>
      (s.popped rest).withPlant (s.plant.set y.leg
        { mapped with stations := mapped.stations.map fun z => if z.handle = y.station.handle then f z else z })
    (x.stamps.tag = .legDwell y.leg s.roundNumber .isolate → s.round ≠ none →
      exec .dispatch s = .next
        (if y.station.misplaced = none then
          (marked fun z => { z with misplaced := some x.stamps.second }).raise flagMapMismatch
        else s.popped rest)) ∧
    (x.stamps.tag ≠ .legDwell y.leg s.roundNumber .isolate ∨ s.round = none →
      16 ≤ delay → code ≤ s.settings.echoFloor →
      (d ≤ y.station.drop →
        exec .dispatch s = .next (marked fun z => { z with dropEcho := some x.stamps.second })) ∧
      (y.station.drop < d → p < -(s.settings.matchWindow : Int) → exec .dispatch s = .next (s.popped rest)) ∧
      (y.station.drop < d → -(s.settings.matchWindow : Int) ≤ p →
        (∀ z, mapped.zone = some z → z.first ≤ p.toNat → p.toNat ≤ z.last → exec .dispatch s = .next (s.popped rest)) ∧
        ((∀ z, mapped.zone = some z → p.toNat < z.first ∨ z.last < p.toNat) →
          exec .dispatch s = .next ((s.popped rest).observe
            { leg := y.leg, position := p.toNat, level := code, handle := y.station.handle
              second := x.stamps.second }))))

/-- R78 and R79: an observation is matched to the nearest candidate, the lowest-numbered among the nearest, and to none
where there is no candidate. R25: the attributed tap is the nearest, the one of lower index among the nearest, and absent on
an empty list. -/
def Obligations.NearestCandidatesAndTapsAreChosen : Prop :=
  (∀ (s : State) (o : Observation),
    let candidate := fun (n : SlotNo) (r : Record) (e : EchoPart) =>
      s.record n = some r ∧ r.body = .echo e ∧ e.leg = o.leg ∧
        (r.state = .suspect ∨ r.state = .confirmed ∨ r.state = .cleared) ∧ r.frozen = false ∧
        ((o.position : Int) - e.position).natAbs ≤ s.settings.matchWindow
    (s.matchEcho o = none ↔ ∀ n r e, ¬ candidate n r e) ∧
    ∀ n, s.matchEcho o = some n ↔
      ∃ r e, candidate n r e ∧ ∀ m q f, candidate m q f → m ≠ n →
        ((o.position : Int) - e.position).natAbs < ((o.position : Int) - f.position).natAbs ∨
          (((o.position : Int) - e.position).natAbs = ((o.position : Int) - f.position).natAbs ∧ n < m)) ∧
  ∀ (taps : List Nat) (position : Nat),
    (taps = [] → nearestTap taps position = none) ∧
    ∀ k : Nat, nearestTap taps position = some k ↔
      ∃ d : Nat, taps[k]? = some d ∧ ∀ j e : Nat, taps[j]? = some e → j ≠ k →
        ((position : Int) - d).natAbs < ((position : Int) - e).natAbs ∨
          (((position : Int) - d).natAbs = ((position : Int) - e).natAbs ∧ k < j)

/-- R8, R9, R11, R80 and R96: an observation without a candidate takes the lowest FREE slot, or with none FREE the slot that
eviction frees (R10), for a SUSPECT record at the position observed, CONFIRMED at once where CONFIRM_STATIONS is 1; with no
FREE slot and none to evict, TABLE_FULL is set and nothing else changes. -/
def Obligations.UnmatchedObservationOpensARecord : Prop :=
  ∀ (s : State) (o : Observation), s.matchEcho o = none →
    (∀ z, (s.plant.get o.leg).zone = some z → o.position < z.first ∨ z.last < o.position) →
    let part : EchoPart :=
      { leg := o.leg, position := o.position, spreadMin := o.position, spreadMax := o.position, tap := none
        stations := [o.handle], staleScale := false }
    let fresh : Record :=
      { state := .suspect, severity := o.level, observations := 1, score := s.settings.scoreAdd, recurrences := 0
        retention := none, firstSeen := o.second, lastEvidence := o.second, acknowledged := false, pinned := false
        frozen := false, ticket := none, body := .echo part }
    let takes := fun (n : SlotNo) => s.isLowestFree n ∨ ((∀ m, s.record m ≠ none) ∧ s.evictionChoice = some n)
    (∀ n, takes n → 2 ≤ s.settings.confirmStations →
      s.observe o = s.setSlot n { gen := (s.slot n).gen + 1, changed := true, record := some fresh }) ∧
    (∀ n, takes n → s.settings.confirmStations = 1 →
      (s.observe o).slot n =
        { gen := (s.slot n).gen + 1, changed := true
          record := some { fresh with
            state := .confirmed
            body := .echo { part with tap := nearestTap (s.plant.get o.leg).taps o.position } } } ∧
      (s.observe o).flagSet flagConfirmed = true) ∧
    ((∀ n, s.record n ≠ none) → s.evictionChoice = none → s.observe o = s.raise flagTableFull)

/-- R10: the record to evict. Among the CLEARED records that are neither pinned nor frozen the least retention is chosen, an
absent one counting as 255; where there is none, among the SUSPECT ones the lowest score, then the earliest first seen; the
lowest number among equals. -/
def Obligations.EvictionFollowsTheTwoClasses : Prop :=
  ∀ (s : State) (n : SlotNo),
    let evictable := fun (st : RecordState) (m : SlotNo) (q : Record) =>
      s.record m = some q ∧ q.state = st ∧ q.pinned = false ∧ q.frozen = false
    let key := fun (q : Record) => q.retention.getD 255
    ((∃ m q, evictable .cleared m q) →
      (s.evictionChoice = some n ↔ ∃ r, evictable .cleared n r ∧
        ∀ m q, evictable .cleared m q → m ≠ n → key r < key q ∨ (key r = key q ∧ n < m))) ∧
    ((∀ m q, ¬ evictable .cleared m q) →
      (s.evictionChoice = some n ↔ ∃ r, evictable .suspect n r ∧
        ∀ m q, evictable .suspect m q → m ≠ n →
          r.score < q.score ∨ (r.score = q.score ∧ r.firstSeen.toNat < q.firstSeen.toNat) ∨
            (r.score = q.score ∧ r.firstSeen = q.firstSeen ∧ n < m)))

/-- R12, R83, R84, R95, R97 to R99, R101 and R102: what an observation writes into the record it is matched to, and that it
touches no other slot but to move links on the leg when the record enters CONFIRMED. -/
def Obligations.MatchedObservationFeedsTheRecord : Prop :=
  ∀ (s : State) (o : Observation) (n : SlotNo) (r : Record) (e : EchoPart), s.matchEcho o = some n →
    s.record n = some r → r.body = .echo e →
    let position := runningPosition e.position r.observations o.position
    let list := if e.stations.contains o.handle || 8 ≤ e.stations.length then e.stations else e.stations ++ [o.handle]
    let state := if r.state = .confirmed ∨ s.settings.confirmStations ≤ list.length then RecordState.confirmed else .suspect
    let tap := if state = .confirmed then nearestTap (s.plant.get e.leg).taps position else none
    let fed : Record :=
      { r with
        state := state
        score := min 100 (r.score + s.settings.scoreAdd)
        observations := min 65535 (r.observations + 1)
        lastEvidence := o.second
        severity := min r.severity o.level
        recurrences := if r.state = .cleared then min 255 (r.recurrences + 1) else r.recurrences
        retention := if r.state = .cleared then none else r.retention
        acknowledged := if state = r.state then r.acknowledged else false
        frozen :=
          match (s.plant.get e.leg).zone with
          | none => false
          | some z => decide (z.first ≤ position ∧ position ≤ z.last)
        body := .echo { e with position := position, spreadMin := min e.spreadMin o.position
                               spreadMax := max e.spreadMax o.position, stations := list, tap := tap } }
    let slot : Slot :=
      { gen := (s.slot n).gen
        changed := (s.slot n).changed || decide (state ≠ r.state ∨ position ≠ e.position ∨
          list.length ≠ e.stations.length ∨ tap ≠ e.tap)
        record := some fed }
    (state = r.state ∨ state = .suspect → s.observe o = s.setSlot n slot) ∧
    (state ≠ r.state → state = .confirmed →
      s.observe o = ((s.setSlot n slot).raise flagConfirmed).evaluateLinks e.leg)

/-- R27: a link evaluation on a leg names the strongest echo record CONFIRMED there, the lowest-numbered among equals, in
every ingress record CONFIRMED on the leg, and sets the changed flag of those whose link it changes; every other slot
stands. -/
def Obligations.LinksNameTheStrongestEcho : Prop :=
  ∀ (s : State) (leg : Leg),
    let echo := fun (n : SlotNo) (r : Record) => s.record n = some r ∧ r.confirmedEchoOn leg = true
    (s.strongestEcho leg = none ↔ ∀ n r, ¬ echo n r) ∧
    (∀ name, s.strongestEcho leg = some name →
      ∃ r, echo name.num r ∧ name.gen = (s.slot name.num).gen ∧
        ∀ m q, echo m q → m ≠ name.num →
          r.severity < q.severity ∨ (r.severity = q.severity ∧ name.num < m)) ∧
    s.evaluateLinks leg = s.withTable (s.evaluateLinks leg).table ∧
    ∀ n,
      (∀ r g, s.record n = some r → r.body = .ingress g → r.state = .confirmed → g.leg = some leg →
        (s.evaluateLinks leg).slot n =
          { gen := (s.slot n).gen
            changed := (s.slot n).changed || decide (g.link ≠ s.strongestEcho leg)
            record := some { r with body := .ingress { g with link := s.strongestEcho leg } } }) ∧
      ((∀ r g, s.record n = some r → r.body = .ingress g → r.state = .confirmed → g.leg ≠ some leg) →
        (s.evaluateLinks leg).slot n = s.slot n)

/-! ### The Band Monitor -/

/-- R106: the first quiet report of a band sets its baseline to the power after the clamp, its streak to 0, and does nothing
else. R107: a quiet report whose excess is less than INGRESS_EXCESS sets the streak to 0 and moves the baseline by the
excess divided by 16, truncated toward zero, never past the power. -/
def Obligations.QuietReportsMoveTheBaseline : Prop :=
  (∀ (s : State) (b : Band) (power : Int) (second : Word32) (rest : List QueuedReport), s.nothingDue = true →
    s.queue = { report := .band b.val power, stamps := { second := second, tag := .quiet } } :: rest →
    (s.band b).baseline = none →
    exec .dispatch s =
      .next ((s.popped rest).setBand b { baseline := some (max (-240) (min power 240)), streak := 0 })) ∧
  ∀ (s : State) (b : Band) (power : Int) (second : Word32) (rest : List QueuedReport) (base : Int), s.nothingDue = true →
    s.queue = { report := .band b.val power, stamps := { second := second, tag := .quiet } } :: rest →
    (s.band b).baseline = some base →
    let p := max (-240) (min power 240)
    p - base < s.settings.ingressExcess →
    exec .dispatch s =
      .next ((s.popped rest).setBand b { baseline := some (base + (p - base).tdiv 16), streak := 0 }) ∧
    (-240 ≤ base → base ≤ 240 → -240 ≤ base + (p - base).tdiv 16 ∧ base + (p - base).tdiv 16 ≤ 240) ∧
    (-15 ≤ p - base → p - base ≤ 15 → base + (p - base).tdiv 16 = base) ∧
    (16 ≤ p - base → p - base ≤ 31 → base + (p - base).tdiv 16 = base + 1) ∧
    (-31 ≤ p - base → p - base ≤ -16 → base + (p - base).tdiv 16 = base - 1) ∧
    min base p ≤ base + (p - base).tdiv 16 ∧ base + (p - base).tdiv 16 ≤ max base p

/-- R108, R110, R111 and R113: a detecting report of a band without an ingress record raises the streak, up to 8; at
INGRESS_STREAK it takes the lowest FREE slot, or with none FREE the slot that eviction frees (R8, R10), for a PROBE_WAIT
record and puts it into the wait queue, or sets TABLE_FULL where the table has no room. -/
def Obligations.DetectionOpensAnIngressRecord : Prop :=
  ∀ (s : State) (b : Band) (power : Int) (second : Word32) (rest : List QueuedReport) (base : Int), s.nothingDue = true →
    s.queue = { report := .band b.val power, stamps := { second := second, tag := .quiet } } :: rest →
    (s.band b).baseline = some base → (∀ n r, s.record n = some r → r.ingressOf b = false) →
    let excess := max (-240) (min power 240) - base
    let streak := min 8 ((s.band b).streak + 1)
    let counted := (s.popped rest).setBand b { baseline := some base, streak := streak }
    (s.settings.ingressExcess : Int) ≤ excess →
    (streak < s.settings.ingressStreak → exec .dispatch s = .next counted) ∧
    (s.settings.ingressStreak ≤ streak → ∀ n,
      s.isLowestFree n ∨ ((∀ m, s.record m ≠ none) ∧ s.evictionChoice = some n) →
      let joined := (counted.setSlot n
        { gen := (s.slot n).gen + 1, changed := true
          record := some
            { state := .probeWait, severity := min excess.toNat 255, observations := 1, score := s.settings.scoreAdd
              recurrences := 0, retention := none, firstSeen := second, lastEvidence := second, acknowledged := false
              pinned := false, frozen := false, ticket := none
              body := .ingress { leg := none, band := b, attempts := 0, voidStreak := 0, lastRound := none
                                 link := none } } }).withWaitQueue
          (insertEntry { name := { num := n, gen := (s.slot n).gen + 1 }, excess := min excess.toNat 255
                         second := second } s.waitQueue)
      exec .dispatch s = .next (if s.mode = .idle then joined.startTest else joined)) ∧
    (s.settings.ingressStreak ≤ streak → (∀ n, s.record n ≠ none) → s.evictionChoice = none →
      exec .dispatch s = .next (counted.raise flagTableFull))

/-- R109, R112 and R113: a detecting report of a band with an ingress record feeds it; a DORMANT or CLEARED record is
reopened where the streak stands at INGRESS_STREAK, and joins the wait queue. -/
def Obligations.DetectionFeedsTheIngressRecord : Prop :=
  ∀ (s : State) (b : Band) (power : Int) (second : Word32) (rest : List QueuedReport) (base : Int) (n : SlotNo)
    (r : Record) (g : IngressPart), s.nothingDue = true →
    s.queue = { report := .band b.val power, stamps := { second := second, tag := .quiet } } :: rest →
    (s.band b).baseline = some base → s.record n = some r → r.body = .ingress g → g.band = b →
    (∀ m q, m < n → s.record m = some q → q.ingressOf b = false) →
    let excess := max (-240) (min power 240) - base
    let streak := min 8 ((s.band b).streak + 1)
    let counted := (s.popped rest).setBand b { baseline := some base, streak := streak }
    let fed : Record :=
      { r with
        score := min 100 (r.score + s.settings.scoreAdd), observations := min 65535 (r.observations + 1)
        lastEvidence := second, severity := max r.severity (min excess.toNat 255) }
    (s.settings.ingressExcess : Int) ≤ excess →
    (streak < s.settings.ingressStreak ∨ (r.state ≠ .dormant ∧ r.state ≠ .cleared) →
      exec .dispatch s = .next (counted.setSlot n { s.slot n with record := some fed })) ∧
    (s.settings.ingressStreak ≤ streak → r.state = .cleared ∨ r.state = .dormant →
      s.recordsSound = true →
      let joined := (counted.setSlot n
        { gen := (s.slot n).gen, changed := true
          record := some
            { fed with
              state := .probeWait, acknowledged := false, retention := none
              recurrences := min 255 (r.recurrences + 1), frozen := false
              body := .ingress { g with leg := none, link := none, attempts := 0, voidStreak := 0 } } }).withWaitQueue
          (insertEntry { name := { num := n, gen := (s.slot n).gen }, excess := fed.severity, second := second }
            s.waitQueue)
      exec .dispatch s = .next (if s.mode = .idle then joined.startTest else joined))

/-- R105 and R114: a report of the probed band, tagged with a dwell of the round in progress, is added to that dwell's sum
and nothing else; of another band or another round it is ignored. -/
def Obligations.DwellReportsAreSummed : Prop :=
  ∀ (s : State) (b : Band) (power : Int) (second : Word32) (tag : StepTag) (rest : List QueuedReport), s.nothingDue = true →
    s.queue = { report := .band b.val power, stamps := { second := second, tag := tag } } :: rest →
    let p := max (-240) (min power 240)
    let added := fun (x : DwellSum) => if x.count < 65535 then { count := x.count + 1, total := x.total + p } else x
    (∀ round, s.round = some round → s.probedBand round = some b →
      let withRound := fun (new : Round) =>
        match s.mode with
        | .active _ step elapsed => (s.popped rest).withMode (.active new step elapsed)
        | _ => (s.popped rest).withMode (.closing new)
      (tag = .refDwell s.roundNumber →
        exec .dispatch s = .next (withRound { round with refSum := added round.refSum })) ∧
      (∀ l depth, tag = .legDwell l s.roundNumber depth → round.marks.get l ≠ .notInSnapshot →
        exec .dispatch s =
          .next (withRound { round with legSums := round.legSums.set l (added (round.legSums.get l)) }))) ∧
    (∀ r, tag = .refDwell r ∨ (∃ l depth, tag = .legDwell l r depth) →
      s.round = none ∨ r ≠ s.roundNumber ∨ (∃ round, s.round = some round ∧ s.probedBand round ≠ some b) →
      exec .dispatch s = .next (s.popped rest))

/-! ### The Service Link -/

/-- R181 and R187: what the transmit line carries: characters back to back, each a start bit, eight data bits least
significant first and a stop bit, and high while nothing is sent. R182: the link sends 0x3C at the end of ALIGN; a low run
is six bit times, and gives the rate that it lies within 4 % of; the run, the line's high time and 0x3C take the link from
measuring to READY. That the measured rate is a whole number is the model's reading (log entry 15). -/
def Obligations.LinkAligns : Prop :=
  (∀ b : Byte, characterBits b =
    [false, b.getLsbD 0, b.getLsbD 1, b.getLsbD 2, b.getLsbD 3, b.getLsbD 4, b.getLsbD 5, b.getLsbD 6, b.getLsbD 7, true]) ∧
  (∀ s : State,
    (∀ r, s.link.phase = .sendingAlign r → s.sending = [0x3C#8]) ∧
    (∀ r reply, s.link.phase = .ready r → s.link.reply = some reply → s.sending = reply.frame) ∧
    (∀ r, s.link.phase = .ready r → s.link.reply = none → s.sending = []) ∧
    (∀ r, s.link.phase = .measuring ∨ s.link.phase = .rateTaken r → s.sending = []) ∧
    (∀ k, 10 * s.sending.length ≤ k → s.transmitLine k = true) ∧
    (∀ (k : Nat) (b : Byte) (j : Nat), s.sending[k]? = some b → j < 10 →
      (characterBits b)[j]? = some (s.transmitLine (10 * k + j)))) ∧
  (∀ (periods : Nat) (r : Rate), rateOfRun periods = some r ↔
    (((61440000 / periods : Nat) : Int) - r.bitsPerSecond).natAbs * 100 ≤ 4 * r.bitsPerSecond) ∧
  ∀ s : State, s.nothingDue = true →
    (∀ periods r, s.link.phase = .measuring → s.resetLine = false → rateOfRun periods = some r →
      exec (.alignRun periods) s = .next (s.withLink { s.link with phase := .rateTaken r })) ∧
    (∀ periods, s.link.phase ≠ .measuring ∨ s.resetLine = true ∨ rateOfRun periods = none →
      exec (.alignRun periods) s = .next s) ∧
    (∀ r, s.link.phase = .rateTaken r →
      exec .alignIdleElapsed s = .next (s.withLink { s.link with phase := .sendingAlign r })) ∧
    ((∀ r, s.link.phase ≠ .rateTaken r) → exec .alignIdleElapsed s = .next s) ∧
    (∀ r, s.link.phase = .sendingAlign r →
      exec .alignComplete s = .next (s.withLink { s.link with phase := .ready r })) ∧
    ((∀ r, s.link.phase ≠ .sendingAlign r) → exec .alignComplete s = .next s)

/-- R183 and R185: a break in READY drops the frame and the reply and enters ALIGN, the transmit line high at once, and
touches no other block (but for the reply to RESTART, which IdentAndRestartAnswer covers); in ALIGN it does nothing. A
framing error and a bad frame drop the frame in reception. A frame whose inter-byte count has passed the limit of its rate
is dropped, and no frame before that. -/
def Obligations.BreaksErrorsAndTimeoutsDropTheFrame : Prop :=
  (∀ s : State, s.nothingDue = true →
    ((∃ r, s.link.phase = .ready r) → (∀ reply, s.link.reply = some reply → reply.restart = false) →
      exec .lineBreak s = .next (s.withLink { phase := .measuring, frame := none, reply := none })) ∧
    (∀ k, (s.withLink { phase := .measuring, frame := none, reply := none }).transmitLine k = true) ∧
    ((∀ r, s.link.phase ≠ .ready r) → exec .lineBreak s = .next s) ∧
    exec .framingError s = .next (s.withLink { s.link with frame := none }) ∧
    exec .frameDiscard s = .next (s.withLink { s.link with frame := none })) ∧
  ∀ (s : State) (f : Frame) (r : Rate), s.link.phase = .ready r → s.link.frame = some f →
    let k := match r with
      | .r19200 => 3
      | .r38400 => 2
      | .r57600 => 1
      | .r115200 => 1
      | .r230400 => 1
      | .r460800 => 1
    (k + 1 ≤ f.gap → exec .frameTimeout s = .next (s.withLink { s.link with frame := none })) ∧
    (f.gap ≤ k → exec .frameTimeout s = .next s)

/-- R184 and R187: a received byte. Outside READY and while a reply is in progress it is dropped; while hunting, 0xA5 begins
a frame and any other byte is ignored; a LEN of 2 to 250 is accepted and any other discards the frame; the bytes of the body
and the CRC are gathered; a frame whose CRC differs is discarded. -/
def Obligations.BytesAreTakenByTheHunt : Prop :=
  ∀ (s : State) (b : Byte), s.nothingDue = true →
    (s.receives = false → exec (.receivedByte b) s = .next s) ∧
    (s.receives = true →
      (s.link.frame = none →
        (b = 0xA5#8 →
          exec (.receivedByte b) s = .next (s.withLink { s.link with frame := some { bytes := [], gap := 0 } })) ∧
        (b ≠ 0xA5#8 → exec (.receivedByte b) s = .next s)) ∧
      (∀ f, s.link.frame = some f → f.bytes = [] →
        (b.toNat < 2 ∨ 250 < b.toNat →
          exec (.receivedByte b) s = .next (s.withLink { s.link with frame := none })) ∧
        (2 ≤ b.toNat → b.toNat ≤ 250 →
          exec (.receivedByte b) s = .next (s.withLink { s.link with frame := some { bytes := [b], gap := 0 } }))) ∧
      (∀ f len rest, s.link.frame = some f → f.bytes = len :: rest → 2 ≤ len.toNat → len.toNat ≤ 250 →
        (f.bytes.length < len.toNat + 2 →
          exec (.receivedByte b) s =
            .next (s.withLink { s.link with frame := some { bytes := f.bytes ++ [b], gap := 0 } })) ∧
        (f.bytes.length = len.toNat + 2 → (f.bytes ++ [b]).drop (len.toNat + 1) ≠ crcBytes (f.bytes.take (len.toNat + 1)) →
          exec (.receivedByte b) s = .next (s.withLink { s.link with frame := none }))))

/-- R184 and R195: the frame of every well-formed request decodes to that request, and every good frame is the encoding of a
well-formed request. -/
def Obligations.RequestFramesDecode : Prop :=
  (∀ (i : Instr) (frame : List Byte), i.wellFormed = true → encodeRequest i = some frame →
    decodeRequestFrame frame = some i) ∧
  ∀ (frame : List Byte) (i : Instr), decodeRequestFrame frame = some i →
    encodeRequest i = some frame ∧ i.wellFormed = true

/-- R184 and R186: the bytes of a good request frame, received one after another by a part that hunts, end in the very state
that the request's own command gives. -/
def Obligations.FramesArriveByteByByte : Prop :=
  ∀ (i : Instr) (frame : List Byte) (s : State), i.wellFormed = true → encodeRequest i = some frame → s.hears = true →
    s.link.frame = none → execAll s (frame.map Instr.receivedByte) = exec i s

/-- R188: IDENT answers the thirteen bytes and RESTART answers OK; when the reply's transmission ends, by its last bit or by
a break, RESTART has the effects of the RESET line, and the end of any other reply changes nothing more. -/
def Obligations.IdentAndRestartAnswer : Prop :=
  (∀ (s : State) (tag : Byte), s.hears = true →
    exec (.ident tag []) s =
      .next (s.replied 0x01#8 tag .ok
        [0x4A#8, 0x46#8, 24#8, 3#8, 96#8, 4#8, 64#8, 2#8, 0#8, 4#8, 0#8, 16#8, 64#8]) ∧
    exec (.restart tag []) s =
      .next (s.withLink
        { s.link with
          frame := none
          reply := some { frame := 0x5A#8 :: framed [0x82#8, tag, 0#8], restart := true } }) ∧
    ∀ x xs, exec (.restart tag (x :: xs)) s = .next (s.replied 0x02#8 tag .badArgument [])) ∧
  ∀ s : State, s.nothingDue = true →
    (s.link.reply = none → exec .replySent s = .next s) ∧
    ∀ reply, s.link.reply = some reply →
      (reply.restart = false → exec .replySent s = .next (s.withLink { s.link with reply := none })) ∧
      (reply.restart = true →
        ∃ t, exec .replySent s = .next t ∧ t.resetLine = s.resetLine ∧ t.link.phase = .measuring ∧
          exec .lineReset (s.withResetLine false) = .next (t.withResetLine true) ∧
          ((∃ r, s.link.phase = .ready r) → exec .lineBreak s = .next t))

/-- R186, steps 1 and 2, and R187: a code that names no request is answered UNKNOWN_REQUEST, an argument length that does
not fit the code BAD_ARGUMENT, and neither changes any state but the link's; while the link is not READY, or a reply is in
progress, no request is taken. -/
def Obligations.UnfitRequestsChangeNothing : Prop :=
  (∀ (s : State) (code tag : Byte) (args : List Byte), s.hears = true → namesRequest code = false →
    exec (.unknownRequest code tag args) s = .next (s.replied code tag .unknownRequest [])) ∧
  (∀ (i : Instr) (s : State) (code tag : Byte), s.hears = true → codeAndTag i = some (code, tag) →
    namesRequest code = true → lengthFits i = false → i.wellFormed = true →
    exec i s = .next (s.replied code tag .badArgument [])) ∧
  ∀ (i : Instr) (s : State), (codeAndTag i).isSome = true → s.nothingDue = true → s.receives = false → exec i s = .next s

/-! ### The requests for the part: clock, events, settings, safety -/

/-- R30, R192 and R193: the clock requests and the event requests, and the level of ALERT. -/
def Obligations.ClockAndEventRequests : Prop :=
  ∀ (s : State) (tag : Byte),
    (s.alert = true ↔ ∃ n, n < 7 ∧ s.flags.getLsbD n = true ∧ s.mask.getLsbD n = true) ∧
    (s.hears = true →
      exec (.readClock tag []) s =
        .next (s.replied 0x08#8 tag .ok (bytes4 s.clock.seconds.toNat ++ bytes2 s.clock.ms)) ∧
      (∀ b3 b2 b1 b0 : Byte,
        exec (.setClock tag [b3, b2, b1, b0]) s =
          .next ((s.withClock { s.clock with seconds := b3 ++ b2 ++ b1 ++ b0 }).replied 0x09#8 tag .ok [])) ∧
      exec (.readEvents tag []) s =
        .next (s.replied 0x48#8 tag .ok [s.flags.zeroExtend 8, s.mask.zeroExtend 8]) ∧
      (∀ b : Byte,
        let left := s.flags &&& ~~~(b.truncate 7)
        exec (.clearEvents tag [b]) s = .next ((s.withFlags left).replied 0x49#8 tag .ok [left.zeroExtend 8])) ∧
      ∀ b : Byte,
        exec (.setEventMask tag [b]) s =
          .next ((s.withMask (b.truncate 7)).replied 0x4A#8 tag .ok [(b.truncate 7 : BitVec 7).zeroExtend 8]))

/-- R13, R31, R72, R117, R122 and R189: CONFIGURE clamps the seventeen bytes, stores the effective values and answers them;
the aging count restarts where AGING_INTERVAL changes, and the start test is made in IDLE. READ_SETTINGS answers the values
in force. The block of values in range stores those very values. -/
def Obligations.SettingsRequestsClampAndAnswer : Prop :=
  (∀ (s : State) (tag : Byte), s.hears = true →
    exec (.readSettings tag []) s = .next (s.replied 0x10#8 tag .ok (settingsBlock s.settings))) ∧
  (∀ c : Settings, c.inRange = true → (settingsBlock c).length = 17 ∧ readSettings (settingsBlock c) = some c) ∧
  ∀ (s : State) (tag : Byte) (args : List Byte), s.hears = true → args.length = 17 →
    let b := fun k => (args.getD k 0).toNat
    let high := max 4 (min (b 10) 80)
    let low := min (b 11) 40
    let c : Settings :=
      { echoFloor := max 20 (min (b 0) 120), matchWindow := max 10 (min (b 1) 200)
        confirmStations := max 1 (min (b 2) 8), scoreAdd := max 1 (min (b 3) 50), agingStep := max 1 (min (b 4) 10)
        agingCode := min (b 5) 3, retention := b 6, ingressExcess := max 16 (min (b 7) 120)
        ingressStreak := max 1 (min (b 8) 8), probeDepth := if b 9 = 0 then .atten else .isolate
        dropHigh := high, dropLow := if low < high then low else high - 1
        dwell := max 19 (min (b 12 * 256 + b 13) 999), guard := max 1 (min (b 14) 49)
        maxAttempts := max 1 (min (b 15) 32), minSamples := max 1 (min (b 16) 16) }
    c.inRange = true ∧
    let stored := (s.withSettings c).withClock
      (if c.agingCode = s.settings.agingCode then s.clock else { s.clock with agingCount := 0 })
    exec (.configure tag args) s =
      .next ((if s.mode = .idle then stored.startTest else stored).replied 0x11#8 tag .ok (settingsBlock c))

/-- R160, R161 and R162: SET_SAFETY is refused under the lock; otherwise it stores the clamped values, zeroes the window
count and every charge, aborts a round (R140) or ends a hold at ISOLATE that is no longer permitted and a hold without
allowance, answers the effective values in the layout of R195, and touches nothing else. LOCK_SAFETY sets the lock;
READ_SAFETY answers the values, the lock and the window count. -/
def Obligations.SafetyRequestsKeepTheirRules : Prop :=
  (∀ c : Safety,
    safetyBlock c = bytes2 c.budgetWindow ++ bytes4 (c.allowance.get 0) ++ bytes4 (c.allowance.get 1) ++
      bytes4 (c.allowance.get 2) ++ bytes4 (c.allowance.get 3) ++ [if c.isolatePermitted then 1#8 else 0#8] ++
      bytes2 c.maxIsolateDwell ∧
    (c.inRange = true → readSafety (safetyBlock c) = some c)) ∧
  ∀ (s : State) (tag : Byte), s.hears = true →
    exec (.readSafety tag []) s =
      .next (s.replied 0x12#8 tag .ok
        (safetyBlock s.safety ++ [if s.safetyLock then 1#8 else 0#8] ++ bytes2 s.clock.windowCount)) ∧
    exec (.lockSafety tag []) s = .next ((s.withSafetyLock true).replied 0x14#8 tag .ok []) ∧
    ∀ args : List Byte, args.length = 21 →
      (s.safetyLock = true → exec (.setSafety tag args) s = .next (s.replied 0x13#8 tag .locked [])) ∧
      (s.safetyLock = false →
        let b := fun k => (args.getD k 0).toNat
        let window := max 10 (min (b 0 * 256 + b 1) 600)
        ∃ (c : Safety) (t : State),
          c.budgetWindow = window ∧
          (∀ l : Leg, c.allowance.get l =
            min (((b (2 + 4 * l.val) * 256 + b (3 + 4 * l.val)) * 256 + b (4 + 4 * l.val)) * 256 + b (5 + 4 * l.val))
              (window * 1000)) ∧
          (c.isolatePermitted = true ↔ b 18 ≠ 0) ∧ c.maxIsolateDwell = max 20 (min (b 19 * 256 + b 20) 1000) ∧
          exec (.setSafety tag args) s = .next (t.replied 0x13#8 tag .ok (safetyBlock c)) ∧
          let stored := ((s.withSafety c).withClock { s.clock with windowCount := 0 }).withSwitches
            (PerLeg.ofFn fun l => { s.switch l with charge := 0 })
          t = (((stored.withTable t.table).withSwitches t.switches).withWaitQueue t.waitQueue).withMode t.mode ∧
          (s.round = none → t.table = s.table ∧ t.waitQueue = s.waitQueue ∧
            ((∀ l d o, s.mode ≠ .manual l d o) → t.switches = stored.switches)) ∧
          t.safety = c ∧ t.safetyLock = false ∧ t.clock = { s.clock with windowCount := 0 } ∧
          (∀ l, (t.switch l).charge = 0 ∧ (t.switch l).sensed = (s.switch l).sensed ∧
            (t.switch l).faultLatch = (s.switch l).faultLatch) ∧
          t.lockout = s.lockout ∧ t.settings = s.settings ∧ t.plant = s.plant ∧ t.flags = s.flags ∧
          t.roundNumber = s.roundNumber ∧
          (s.mode = .paused ∨ s.mode = .locked → t.mode = s.mode) ∧
          (s.mode = .idle ∨ s.mode = .waitBudget → t = (t.withMode s.mode).startTest) ∧
          (∀ r, s.round = some r →
            (r.snap.depth = .isolate ∧ c.isolatePermitted = false →
              t = (t.withMode .idle).startTest ∧ stored.legReturns r t ∧ stored.recordReturns r t) ∧
            (r.snap.depth = .atten ∨ c.isolatePermitted = true → t = stored)) ∧
          ∀ l d o, s.mode = .manual l d o →
            ((d = .isolate ∧ c.isolatePermitted = false) ∨ c.allowance.get l = 0 →
              (t.switch l).commanded = .through ∧
              ((s.switch l).commanded ≠ .through → (t.switch l).settle = some (s.settings.guard + 1)) ∧
              (∀ k, k ≠ l → t.switch k = stored.switch k) ∧
              (o = .paused → t.mode = .paused) ∧ (o = .idle → t = (t.withMode .idle).startTest)) ∧
            ((d = .atten ∨ c.isolatePermitted = true) ∧ c.allowance.get l ≠ 0 → t = stored))

/-! ### The requests for the map -/

/-- R42, R43, R44 and R45: staging a leg, by the first case that holds. -/
def Obligations.StagingRequestsTakeTheFirstCase : Prop :=
  ∀ (s : State) (tag : Byte), s.hears = true →
    (∀ leg v1 v0 : Byte,
      (4 ≤ leg.toNat → exec (.mapOpen tag [leg, v1, v0]) s = .next (s.replied 0x20#8 tag .badArgument [])) ∧
      ∀ l : Leg, leg.toNat = l.val →
        (s.staging ≠ none → exec (.mapOpen tag [leg, v1, v0]) s = .next (s.replied 0x20#8 tag .wrongState [])) ∧
        (s.staging = none →
          let vf := max 600 (min (v1.toNat * 256 + v0.toNat) 990)
          exec (.mapOpen tag [leg, v1, v0]) s =
            .next ((s.withStaging (some { leg := l, vf := vf, taps := [], stations := [] })).replied 0x20#8 tag .ok
              (bytes2 vf)))) ∧
    (∀ distances : List Nat, (∀ d ∈ distances, d < 65536) → distances.length ≤ 64 →
      let run := exec (.mapTaps tag (distances.flatMap bytes2)) s
      (s.staging = none → run = .next (s.replied 0x21#8 tag .wrongState [])) ∧
      ∀ g, s.staging = some g →
        let fit := (∀ d ∈ distances, d ≤ 20000) ∧ (g.taps.getLast?.toList ++ distances).Pairwise (fun a b => a < b)
        let taps := g.taps ++ distances
        (¬ fit → run = .next (s.replied 0x21#8 tag .badArgument [])) ∧
        (fit → 64 < taps.length → run = .next (s.replied 0x21#8 tag .full [])) ∧
        (fit → taps.length ≤ 64 →
          run = .next ((s.withStaging (some { g with taps := taps })).replied 0x21#8 tag .ok [byteOf taps.length]))) ∧
    (∀ entries : List (Nat × Nat × Nat), (∀ x ∈ entries, x.1 < 65536 ∧ x.2.1 < 256 ∧ x.2.2 < 65536) → entries.length ≤ 49 →
      let run := exec (.mapStations tag
        (entries.flatMap fun x => bytes2 x.1 ++ [byteOf x.2.1] ++ bytes2 x.2.2)) s
      (s.staging = none → run = .next (s.replied 0x22#8 tag .wrongState [])) ∧
      ∀ g, s.staging = some g →
        let fit :=
          (∀ x ∈ entries, x.1 ≠ 0 ∧ x.2.1 < g.taps.length ∧ (x.2.2 ≤ 1000 ∨ x.2.2 = 65535) ∧
            ∀ y ∈ g.stations, y.handle ≠ x.1) ∧ (entries.map Prod.fst).Nodup
        let stations := g.stations ++ entries.map fun x =>
          { handle := x.1, tap := x.2.1, drop := if x.2.2 = 65535 then 300 else x.2.2, misplaced := none, dropEcho := none }
        (¬ fit → run = .next (s.replied 0x22#8 tag .badArgument [])) ∧
        (fit → 512 < stations.length → run = .next (s.replied 0x22#8 tag .full [])) ∧
        (fit → stations.length ≤ 512 →
          run = .next ((s.withStaging (some { g with stations := stations })).replied 0x22#8 tag .ok
            (bytes2 stations.length)))) ∧
    exec (.mapDiscard tag []) s = .next ((s.withStaging none).replied 0x24#8 tag .ok [])

/-- R46, R47, R48 and R49: MAP_ACTIVATE is refused in CLOSED, at a handle active on another leg, and past 1024 stations;
otherwise the leg takes what was staged, the staging closes, the echo records on the leg are retired or kept stale where the
velocity factor changes, those kept are attributed anew, and the links on the leg are evaluated. -/
def Obligations.ActivationReplacesTheLeg : Prop :=
  ∀ (s : State) (tag : Byte), s.hears = true →
    (s.staging = none → exec (.mapActivate tag []) s = .next (s.replied 0x23#8 tag .wrongState [])) ∧
    ∀ g, s.staging = some g →
      let elsewhere := fun (handle : Nat) (l : Leg) =>
        l ≠ g.leg ∧ ∃ y ∈ (s.plant.get l).stations, y.handle = handle
      let total := g.stations.length + ((allLegs.filter fun l => l != g.leg).map fun l => (s.plant.get l).stations.length).sum
      (∀ (k : Nat) (x : Station) (l : Leg), g.stations[k]? = some x → elsewhere x.handle l →
        (∀ m, m < l → ¬ elsewhere x.handle m) →
        (∀ (j : Nat) (y : Station), j < k → g.stations[j]? = some y → ∀ m, ¬ elsewhere y.handle m) →
        exec (.mapActivate tag []) s = .next (s.replied 0x23#8 tag .conflict (bytes2 x.handle ++ [byteOf l.val]))) ∧
      ((∀ x ∈ g.stations, ∀ l, ¬ elsewhere x.handle l) → 1024 < total →
        exec (.mapActivate tag []) s = .next (s.replied 0x23#8 tag .full (bytes2 total))) ∧
      ((∀ x ∈ g.stations, ∀ l, ¬ elsewhere x.handle l) → total ≤ 1024 → s.recordsSound = true →
        let old := s.plant.get g.leg
        let rescaled := old.vf.any fun v => v != g.vf
        let count := fun (pinned : Bool) => if rescaled then (s.echoesOn g.leg pinned).length else 0
        (∀ pinned n, n ∈ s.echoesOn g.leg pinned ↔
          ∃ r e, s.record n = some r ∧ r.body = .echo e ∧ e.leg = g.leg ∧ r.pinned = pinned) ∧
        ∃ t, exec (.mapActivate tag []) s =
            .next (t.replied 0x23#8 tag .ok (bytes2 g.stations.length ++ [byteOf (count false), byteOf (count true)])) ∧
          t = ((s.withPlant (s.plant.set g.leg
            { vf := some g.vf, taps := g.taps, stations := g.stations, zone := old.zone })).withStaging none).withTable
              t.table ∧
          ∀ n,
            (s.record n = none → t.slot n = s.slot n) ∧
            (∀ r e, s.record n = some r → r.body = .echo e → e.leg ≠ g.leg → t.slot n = s.slot n) ∧
            (∀ r e, s.record n = some r → r.body = .echo e → e.leg = g.leg →
              (rescaled = true → r.pinned = false →
                t.slot n = { gen := (s.slot n).gen, changed := true, record := none }) ∧
              (rescaled = false ∨ r.pinned = true →
                let tap := if r.state = .suspect then none else nearestTap g.taps e.position
                t.slot n =
                  { gen := (s.slot n).gen, changed := (s.slot n).changed || decide (tap ≠ e.tap)
                    record := some
                      { r with body := .echo { e with tap := tap, staleScale := e.staleScale || rescaled } } })) ∧
            (∀ r i, s.record n = some r → r.body = .ingress i → r.state ≠ .confirmed ∨ i.leg ≠ some g.leg →
              t.slot n = s.slot n) ∧
            ∀ r i, s.record n = some r → r.body = .ingress i → r.state = .confirmed → i.leg = some g.leg →
              t.slot n =
                { gen := (s.slot n).gen, changed := (s.slot n).changed || decide (i.link ≠ t.strongestEcho g.leg)
                  record := some { r with body := .ingress { i with link := t.strongestEcho g.leg } } })

/-- R53 and R132: SET_ZONE and CLEAR_ZONE. A leg of 4 or more, a start beyond the end or an end beyond 20000 is refused.
Otherwise the zone stands, the frozen flags of the records on the leg are computed anew, and a SET_ZONE skips the leg in the
round in progress or sets its drop absent; the start test is made in IDLE. -/
def Obligations.ZoneRequestsFreezeAndSkip : Prop :=
  ∀ (s : State) (tag leg : Byte), s.hears = true →
    (∀ f1 f0 e1 e0 : Byte, 4 ≤ leg.toNat ∨ e1.toNat * 256 + e0.toNat < f1.toNat * 256 + f0.toNat ∨
        20000 < e1.toNat * 256 + e0.toNat →
      exec (.setZone tag [leg, f1, f0, e1, e0]) s = .next (s.replied 0x28#8 tag .badArgument [])) ∧
    (4 ≤ leg.toNat → exec (.clearZone tag [leg]) s = .next (s.replied 0x29#8 tag .badArgument [])) ∧
    ∀ l : Leg, leg.toNat = l.val →
      let zoned := fun (zone : Option Zone) (t : State) =>
        let plant := s.plant.set l { s.plant.get l with zone := zone }
        t = ((s.withPlant plant).withTable t.table).withMode t.mode ∧
        (s.mode = .idle → t = (t.withMode .idle).startTest) ∧
        (s.round = none → s.mode ≠ .idle → t.mode = s.mode) ∧
        ∀ n,
          (s.record n = none → t.slot n = s.slot n) ∧
          ∀ r, s.record n = some r →
            (r.leg? ≠ some l → t.slot n = s.slot n) ∧
            (r.leg? = some l →
              let frozen := match r.body, zone with
                | .echo e, some z => decide (z.first ≤ e.position ∧ e.position ≤ z.last)
                | .ingress _, some _ => true
                | _, none => false
              t.slot n = { s.slot n with record := some { r with frozen := frozen } })
      let count := fun (t : State) => byteOf (t.records.filter fun p => p.2.leg? == some l && p.2.frozen).length
      (∀ f1 f0 e1 e0 : Byte, f1.toNat * 256 + f0.toNat ≤ e1.toNat * 256 + e0.toNat → e1.toNat * 256 + e0.toNat ≤ 20000 →
        ∃ t, exec (.setZone tag [leg, f1, f0, e1, e0]) s =
            .next (t.replied 0x28#8 tag .ok [f1, f0, e1, e0, count t]) ∧
          zoned (some { first := f1.toNat * 256 + f0.toNat, last := e1.toNat * 256 + e0.toNat }) t ∧
          ∀ r, s.round = some r →
            let r' : Round :=
              { r with
                marks := if r.marks.get l = .notYetVisited then r.marks.set l .skipped else r.marks
                dropAbsent := if r.marks.get l = .visited then r.dropAbsent.set l true else r.dropAbsent }
            (∀ step e, s.mode = .active r step e → t.mode = .active r' step e) ∧ (s.mode = .closing r → t.mode = .closing r')) ∧
      ∃ t, exec (.clearZone tag [leg]) s = .next (t.replied 0x29#8 tag .ok [0#8]) ∧ zoned none t ∧
        (∀ r, s.round = some r → t.mode = s.mode)

/-- R50, R51, R54, R145, R163 and R196: READ_LEG, READ_STATIONS, READ_ZONES and READ_PROBE answer by their layouts and
change nothing but the link. The model's choices: bit 2 of a visit byte stands for a drop that a zone has set absent (log
entry 13); an absent zone's start and end are sent as 0 (log entry 20). -/
def Obligations.MapAndProbeReadsChangeNothing : Prop :=
  ∀ (s : State) (tag : Byte), s.hears = true →
    (∀ leg page : Byte, 4 ≤ leg.toNat →
      exec (.readLeg tag [leg]) s = .next (s.replied 0x25#8 tag .badArgument []) ∧
      exec (.readStations tag [leg, page]) s = .next (s.replied 0x26#8 tag .badArgument [])) ∧
    (∀ (leg : Byte) (l : Leg), leg.toNat = l.val →
      let m := s.plant.get l
      let bit := fun (n : Nat) (b : Bool) => if b then n else 0
      let staged := fun (f : Staging → Nat) => (s.staging.map f).getD 0
      exec (.readLeg tag [leg]) s =
        .next (s.replied 0x25#8 tag .ok
          ([byteOf (bit 1 m.vf.isSome), byteOf (bit 1 m.vf.isSome + bit 2 m.zone.isSome + bit 4 s.staging.isSome)] ++
            bytes2 (m.vf.getD 0) ++ [byteOf m.taps.length] ++ bytes2 m.stations.length ++
            bytes2 (m.stations.filter fun x => x.misplaced.isSome).length ++
            bytes2 (m.stations.filter fun x => x.dropEcho.isSome).length ++
            bytes2 ((m.zone.map Zone.first).getD 0) ++ bytes2 ((m.zone.map Zone.last).getD 0) ++
            bytes2 ((allLegs.map fun k => (s.plant.get k).stations.length).sum) ++
            [byteOf (staged fun g => g.leg.val)] ++ bytes2 (staged fun g => g.vf) ++
            [byteOf (staged fun g => g.taps.length)] ++ bytes2 (staged fun g => g.stations.length) ++
            m.taps.flatMap bytes2)) ∧
      ∀ page : Byte,
        let entries := (m.stations.drop (40 * page.toNat)).take 40
        exec (.readStations tag [leg, page]) s =
          .next (s.replied 0x26#8 tag .ok
            (bytes2 m.stations.length ++ [byteOf entries.length] ++ entries.flatMap fun x =>
              bytes2 x.handle ++ [byteOf x.tap] ++ bytes2 x.drop ++
                [byteOf (bit 1 x.misplaced.isSome + bit 2 x.dropEcho.isSome)]))) ∧
    exec (.readZones tag []) s =
      .next (s.replied 0x2A#8 tag .ok (allLegs.flatMap fun l =>
        match (s.plant.get l).zone with
        | none => [0#8, 0#8, 0#8, 0#8, 0#8]
        | some z => 1#8 :: (bytes2 z.first ++ bytes2 z.last))) ∧
    let bit := fun (n : Nat) (b : Bool) => if b then n else 0
    let depth := fun (d : Depth) => match d with
      | .atten => 0#8
      | .isolate => 1#8
    ∃ data, exec (.readProbe tag []) s = .next (s.replied 0x40#8 tag .ok data) ∧
      data.take 5 =
        (match s.mode with
          | .idle => [0#8, 0#8, 0#8, 0#8, 0#8]
          | .waitBudget => [1#8, 0#8, 0#8, 0#8, 0#8]
          | .active _ _ _ => [2#8, 6#8, 0#8, 0#8, 0#8]
          | .closing _ => [3#8, 2#8, 0#8, 0#8, 0#8]
          | .paused => [4#8, 0#8, 0#8, 0#8, 0#8]
          | .manual l d o => [5#8, 1#8, byteOf l.val, depth d, match o with
            | .idle => 0#8
            | .paused => 1#8]
          | .locked => [6#8, 0#8, 0#8, 0#8, 0#8]) ∧
      (s.round = none → (data.drop 6).take 24 = List.replicate 24 0#8) ∧
      (∀ r, s.round = some r →
        (data.drop 6).take 10 =
          [byteOf r.record.num.val, r.record.gen, depth r.snap.depth] ++ bytes2 r.snap.dwellLength ++
            [byteOf (r.snap.guard + 1)] ++ allLegs.map (fun l =>
              byteOf ((match r.marks.get l with
                | .notInSnapshot => 0
                | .notYetVisited => 1
                | .visited => 2
                | .skipped => 3) + bit 4 (r.dropAbsent.get l))) ∧
        (data.drop 20).take 10 =
          bytes2 r.refSum.count ++ allLegs.flatMap fun l => bytes2 (r.legSums.get l).count) ∧
      (∀ r, s.mode = .closing r → (data.drop 16).take 4 = [0#8, 0#8, 0#8, 0#8]) ∧
      (∀ r step e, s.mode = .active r step e → (data.drop 16).take 4 =
        (match step with
          | .ref => [0#8, 0#8]
          | .settleIn l => [1#8, byteOf l.val]
          | .probe l => [2#8, byteOf l.val]
          | .settleOut l => [3#8, byteOf l.val]) ++ bytes2 e) ∧
      (∀ l : Leg, (data.drop (31 + 12 * l.val)).take 4 =
        [(match (s.switch l).commanded with
          | .through => 0#8
          | .atten => 1#8
          | .isolate => 2#8),
         (match (s.switch l).sensed with
          | .through => 0#8
          | .atten => 1#8
          | .isolate => 2#8
          | .invalid => 3#8),
         byteOf ((s.switch l).settle.getD 0), if (s.switch l).faultLatch then 1#8 else 0#8]) ∧
      data[79]? = some (byteOf s.waitQueue.length) ∧
      data.length = 80 + 7 * s.waitQueue.length ∧ data[5]? = some s.roundNumber ∧
      data[30]? = some (if s.lockout then 1#8 else 0#8) ∧
      (∀ l : Leg, (data.drop (31 + 12 * l.val + 4)).take 8 = bytes4 (s.switch l).charge ++ bytes4 (s.allowance l)) ∧
      data.drop 80 = s.waitQueue.flatMap fun x =>
        [byteOf x.name.num.val, x.name.gen, byteOf x.excess] ++ bytes4 x.second.toNat

/-! ### The requests for records -/

/-- R3, R38, R52, R166 to R171, R195 and R196: LOOKUP answers the record it names by its layout, with the tap distance, the
baseline and streak, and the linked record's position and tap that the neighbours hold; FIND and FIND_STATION list every
record that meets the filter or lists the handle, FIND_STATION after the map's answer for it; LIST_CHANGED lists the changed
slots and clears their flags; nothing else changes but the link. That bits 6 and 7 of FIND's presence byte are ignored is
the model's reading (log entry 12). -/
def Obligations.RecordReadsListWhatTheyAsk : Prop :=
  ([RecordState.suspect, .probeWait, .probing, .confirmed, .dormant, .unresolved, .cleared].map recordStateCode =
    [1, 2, 3, 4, 5, 6, 7]) ∧
  (∀ (plant : PerLeg LegMap) (l : Leg) (k d : Nat), (plant.get l).taps[k]? = some d → tapDistance plant l k = d) ∧
  (∀ (s : State) (handle : Nat) (y : Located), s.plantSound = true →
    (s.locate handle = some y ↔
      handle ≠ 0 ∧ (s.plant.get y.leg).vf = some y.vf ∧ y.station ∈ (s.plant.get y.leg).stations ∧
        y.station.handle = handle)) ∧
  (mapAnswer none = List.replicate 14 0#8 ∧
    ∀ y : Located, mapAnswer (some y) =
      [1#8, byteOf ((if y.station.misplaced.isSome then 1 else 0) + (if y.station.dropEcho.isSome then 2 else 0)),
        byteOf y.leg.val, byteOf y.station.tap] ++ bytes2 y.station.drop ++ bytes4 (y.station.misplaced.getD 0).toNat ++
        bytes4 (y.station.dropEcho.getD 0).toNat) ∧
  ∀ (s : State) (tag : Byte), s.hears = true →
    (∀ num gen status, s.namesNothing num gen status →
      exec (.lookup tag [num, gen]) s = .next (s.replied 0x30#8 tag status [])) ∧
    (∀ num gen n r, s.picks num gen n r →
      ∃ data, exec (.lookup tag [num, gen]) s = .next (s.replied 0x30#8 tag .ok data) ∧
        data = s.recordBody n r ∧ data.take 2 = [num, gen] ∧ data[10]? = some (byteOf r.score) ∧
        let bit := fun (k : Nat) (b : Bool) => if b then k else 0
        let tail := bytes2 r.observations ++ [byteOf r.score, byteOf r.recurrences, byteOf (r.retention.getD 0)] ++
          bytes4 r.firstSeen.toNat ++ bytes4 r.lastEvidence.toNat ++ bytes4 (r.ticket.getD 0).toNat
        let flags := bit 1 r.acknowledged + bit 2 r.pinned + bit 4 r.frozen + bit 16 (s.slot n).changed
        let present := bit 16 r.retention.isSome + bit 32 r.ticket.isSome
        (∀ e, r.body = .echo e → data.length = 35 + 2 * e.stations.length ∧
          data =
            [num, gen, byteOf (recordStateCode r.state), 0#8, byteOf (flags + bit 8 e.staleScale),
              byteOf (present + 1 + bit 2 e.tap.isSome), byteOf e.leg.val, byteOf r.severity] ++ tail ++
            bytes2 e.position ++ bytes2 e.spreadMin ++ bytes2 e.spreadMax ++ [byteOf (e.tap.getD 0)] ++
            bytes2 ((e.tap.map fun k => tapDistance s.plant e.leg k).getD 0) ++ [byteOf e.stations.length] ++
            e.stations.flatMap bytes2) ∧
        (∀ g, r.body = .ingress g → data.length = 44 ∧
          ∀ base, (s.band g.band).baseline = some base →
            let linked := (g.link.bind s.named).bind Record.echo?
            let tap := linked.bind EchoPart.tap
            let drop := fun (l : Leg) => g.lastRound.bind fun y => y.drops.get l
            data =
              [num, gen, byteOf (recordStateCode r.state), 1#8, byteOf flags,
                byteOf (present + bit 1 g.leg.isSome + bit 4 g.lastRound.isSome + bit 8 g.link.isSome +
                  bit 64 linked.isSome + bit 128 tap.isSome),
                byteOf ((g.leg.map fun l => l.val).getD 0), byteOf r.severity] ++ tail ++
              [byteOf g.band.val, byteOf g.attempts, byteOf g.voidStreak,
                (match g.lastRound.map RoundResult.outcome with
                  | none => 0#8
                  | some .located => 0#8
                  | some .void => 1#8
                  | some .thin => 2#8
                  | some .weak => 3#8
                  | some .multi => 4#8)] ++
              allLegs.map (fun l => BitVec.ofInt 8 ((drop l).getD 0)) ++
              [byteOf (bit 1 (drop 0).isSome + bit 2 (drop 1).isSome + bit 4 (drop 2).isSome + bit 8 (drop 3).isSome)] ++
              (match g.link with
                | none => [0#8, 0#8]
                | some name => [byteOf name.num.val, name.gen]) ++
              bytes2 ((linked.map EchoPart.position).getD 0) ++ [byteOf (tap.getD 0)] ++
              bytes2 ((linked.bind fun e => e.tap.map fun k => tapDistance s.plant e.leg k).getD 0) ++
              bytes2 (BitVec.ofInt 16 base).toNat ++ [byteOf (s.band g.band).streak])) ∧
    (∀ p kind states leg l1 l0 h1 h0 band ack : Byte,
      let low := l1.toNat * 256 + l0.toNat
      let high := h1.toNat * 256 + h0.toNat
      let run := exec (.find tag [p, kind, states, leg, l1, l0, h1, h0, band, ack]) s
      let bad := (p.getLsbD 0 = true ∧ 2 ≤ kind.toNat) ∨ (p.getLsbD 1 = true ∧ states.toNat < 2) ∨
        (p.getLsbD 2 = true ∧ 4 ≤ leg.toNat) ∨ (p.getLsbD 3 = true ∧ (high < low ∨ 20000 < high)) ∨
        (p.getLsbD 4 = true ∧ 16 ≤ band.toNat) ∨ (p.getLsbD 5 = true ∧ 2 ≤ ack.toNat)
      let meets := fun (r : Record) =>
        (p.getLsbD 0 = true → (kind = 1#8 ↔ ∃ g, r.body = .ingress g)) ∧
        (p.getLsbD 1 = true → states.getLsbD (recordStateCode r.state) = true) ∧
        (p.getLsbD 2 = true → ∃ l : Leg, r.leg? = some l ∧ l.val = leg.toNat) ∧
        (p.getLsbD 3 = true → ∃ e, r.body = .echo e ∧ low ≤ e.position ∧ e.position ≤ high) ∧
        (p.getLsbD 4 = true → ∃ g, r.body = .ingress g ∧ g.band.val = band.toNat) ∧
        (p.getLsbD 5 = true → (ack = 1#8 ↔ r.acknowledged = true))
      (bad → run = .next (s.replied 0x31#8 tag .badArgument [])) ∧
      (¬ bad → ∃ slots : List SlotNo, slots.Pairwise (fun a b => a < b) ∧
        (∀ n, n ∈ slots ↔ ∃ r, s.record n = some r ∧ meets r) ∧
        run = .next (s.replied 0x31#8 tag .ok
          (byteOf slots.length :: slots.flatMap fun n => [byteOf n.val, (s.slot n).gen])))) ∧
    (∀ h1 h0 : Byte,
      let handle := h1.toNat * 256 + h0.toNat
      ∃ slots : List SlotNo, slots.Pairwise (fun a b => a < b) ∧
        (∀ n, n ∈ slots ↔ ∃ r e, s.record n = some r ∧ r.body = .echo e ∧ handle ∈ e.stations) ∧
        exec (.findStation tag [h1, h0]) s =
          .next (s.replied 0x32#8 tag .ok
            (mapAnswer (s.locate handle) ++
              (byteOf slots.length :: slots.flatMap fun n => [byteOf n.val, (s.slot n).gen])))) ∧
    ∃ (slots : List SlotNo) (t : State), slots.Pairwise (fun a b => a < b) ∧
      (∀ n, n ∈ slots ↔ (s.slot n).changed = true) ∧
      exec (.listChanged tag []) s =
        .next (t.replied 0x33#8 tag .ok
          (byteOf slots.length :: slots.flatMap fun n => [byteOf n.val, (s.slot n).gen])) ∧
      t = s.withTable t.table ∧ ∀ n, t.slot n = { s.slot n with changed := false }

/-- R3, R172, R173 and R174: ACKNOWLEDGE, ANNOTATE, PIN and UNPIN write their one field of the record they name, and neither
the changed flag nor anything else; a name of no record is answered BAD_ARGUMENT or NO_RECORD. -/
def Obligations.FlagRequestsWriteOneField : Prop :=
  ∀ (s : State) (tag num gen : Byte), s.hears = true →
    (∀ status, s.namesNothing num gen status →
      exec (.acknowledge tag [num, gen]) s = .next (s.replied 0x34#8 tag status []) ∧
      (∀ t3 t2 t1 t0, exec (.annotate tag [num, gen, t3, t2, t1, t0]) s = .next (s.replied 0x35#8 tag status [])) ∧
      exec (.pin tag [num, gen]) s = .next (s.replied 0x36#8 tag status []) ∧
      exec (.unpin tag [num, gen]) s = .next (s.replied 0x37#8 tag status []) ∧
      exec (.retire tag [num, gen]) s = .next (s.replied 0x38#8 tag status []) ∧
      exec (.reprobe tag [num, gen]) s = .next (s.replied 0x3A#8 tag status [])) ∧
    ∀ n r, s.picks num gen n r →
      let written := fun (r' : Record) => s.setSlot n { s.slot n with record := some r' }
      exec (.acknowledge tag [num, gen]) s =
        .next ((written { r with acknowledged := true }).replied 0x34#8 tag .ok []) ∧
      (∀ t3 t2 t1 t0 : Byte,
        let ticket : BitVec 32 := t3 ++ t2 ++ t1 ++ t0
        exec (.annotate tag [num, gen, t3, t2, t1, t0]) s =
          .next ((written { r with ticket := if ticket = 0#32 then none else some ticket }).replied 0x35#8 tag .ok [])) ∧
      exec (.pin tag [num, gen]) s = .next ((written { r with pinned := true }).replied 0x36#8 tag .ok []) ∧
      exec (.unpin tag [num, gen]) s = .next ((written { r with pinned := false }).replied 0x37#8 tag .ok [])

/-- R19, R20, R127 and R175: RETIRE frees the slot, keeps its generation and sets its changed flag. The entry of a
PROBE_WAIT record leaves the wait queue, and a sequencer in WAIT_BUDGET whose queue that empties returns to IDLE; the round
of a PROBING record is aborted and its leg commanded THROUGH; the links on the leg of a CONFIRMED echo record are evaluated;
no other record changes. Where the record is an ingress record that an evaluation of the same millisecond has just confirmed
(R139), the links on its leg are evaluated; where it is an ingress record CONFIRMED earlier, none is (R20). That the two
events come together within one millisecond is the model's choice (log entry 21). -/
def Obligations.RetireFreesTheSlot : Prop :=
  ∀ (s : State) (tag num gen : Byte) (n : SlotNo) (r : Record), s.hears = true → s.picks num gen n r →
    let name : RecordName := { num := n, gen := gen }
    let freed := s.setSlot n { gen := (s.slot n).gen, changed := true, record := none }
    ∃ t, exec (.retire tag [num, gen]) s = .next (t.replied 0x38#8 tag .ok []) ∧
      t.slot n = { gen := gen, changed := true, record := none } ∧
      t.clock = s.clock ∧ t.plant = s.plant ∧ t.bands = s.bands ∧ t.settings = s.settings ∧ t.safety = s.safety ∧
      t.flags = s.flags ∧ t.queue = s.queue ∧ t.roundNumber = s.roundNumber ∧ t.lockout = s.lockout ∧
      (r.state = .suspect ∨ r.state = .dormant ∨ r.state = .unresolved ∨ r.state = .cleared → t = freed) ∧
      (∀ g, r.body = .ingress g → r.state = .confirmed → s.confirmedNow ≠ some name → t = freed) ∧
      (∀ g l, r.body = .ingress g → r.state = .confirmed → g.leg = some l → s.confirmedNow = some name →
        t = freed.evaluateLinks l) ∧
      (∀ e, r.body = .echo e → r.state = .confirmed → t = freed.evaluateLinks e.leg) ∧
      (r.state = .probeWait → t = (freed.withWaitQueue (s.waitQueue.filter fun x => x.name != name)).withMode t.mode ∧
        t.mode = if s.mode = .waitBudget ∧ t.waitQueue = [] then .idle else s.mode) ∧
      (r.state = .probing → ∀ g, r.body = .ingress g → ∀ x, s.round = some x → x.record = name →
        t.table = freed.table ∧ t.waitQueue = s.waitQueue ∧ t = (t.withMode .idle).startTest ∧
        ∀ l,
          ((∃ e, s.mode = .active x (.settleIn l) e ∨ s.mode = .active x (.probe l) e) → (s.switch l).commanded ≠ .through →
            t.switch l = { s.switch l with commanded := .through, settle := some (x.snap.guard + 1) }) ∧
          ((∀ e, s.mode ≠ .active x (.settleIn l) e ∧ s.mode ≠ .active x (.probe l) e) → t.switch l = s.switch l))

/-- R176, R177 and R178: MERGE is refused by the first case that holds; otherwise a takes the merged fields and the merged
state, b is retired, and the links on the leg are evaluated. -/
def Obligations.MergeJoinsTwoEchoRecords : Prop :=
  ∀ (s : State) (tag numA genA numB genB : Byte), s.hears = true →
    let run := exec (.merge tag [numA, genA, numB, genB]) s
    let refused := fun (status : Status) => run = .next (s.replied 0x39#8 tag status [])
    (∀ status, s.namesNothing numA genA status → refused status) ∧
    ∀ na a, s.picks numA genA na a →
      (∀ status, s.namesNothing numB genB status → refused status) ∧
      ∀ nb b, s.picks numB genB nb b →
        (na = nb → refused .badArgument) ∧
        (na ≠ nb → (∃ g, a.body = .ingress g ∨ b.body = .ingress g) → refused .wrongState) ∧
        ∀ ea eb, a.body = .echo ea → b.body = .echo eb → na ≠ nb →
          (ea.leg ≠ eb.leg → refused .wrongState) ∧
          (ea.leg = eb.leg → s.recordsSound = true →
            let wa := min a.observations 15
            let wb := min b.observations 15
            let position := (ea.position * wa + eb.position * wb + (wa + wb) / 2) / (wa + wb)
            let stations := (ea.stations ++ eb.stations.filter fun h => !ea.stations.contains h).take 8
            let state :=
              if a.state = .confirmed ∨ b.state = .confirmed ∨ s.settings.confirmStations ≤ stations.length then
                RecordState.confirmed
              else if a.state = .suspect ∨ b.state = .suspect then .suspect
              else .cleared
            let tap := if state = .suspect then none else nearestTap (s.plant.get ea.leg).taps position
            let merged : Record :=
              { state := state
                severity := min a.severity b.severity
                observations := min 65535 (a.observations + b.observations)
                score := max a.score b.score
                recurrences := max a.recurrences b.recurrences
                retention :=
                  match state, a.retention, b.retention with
                  | .cleared, some x, some y => some (max x y)
                  | _, _, _ => none
                firstSeen := if a.firstSeen.toNat ≤ b.firstSeen.toNat then a.firstSeen else b.firstSeen
                lastEvidence := if a.lastEvidence.toNat ≤ b.lastEvidence.toNat then b.lastEvidence else a.lastEvidence
                acknowledged := if state = a.state then a.acknowledged else false
                pinned := a.pinned || b.pinned
                frozen :=
                  match (s.plant.get ea.leg).zone with
                  | none => false
                  | some z => decide (z.first ≤ position ∧ position ≤ z.last)
                ticket := if a.ticket = none then b.ticket else a.ticket
                body := .echo
                  { leg := ea.leg, position := position, spreadMin := min ea.spreadMin eb.spreadMin
                    spreadMax := max ea.spreadMax eb.spreadMax, tap := tap, stations := stations
                    staleScale := ea.staleScale || eb.staleScale } }
            let changed := (s.slot na).changed || decide (state ≠ a.state ∨ position ≠ ea.position ∨
              stations ≠ ea.stations ∨ tap ≠ ea.tap)
            let written := (s.setSlot na { gen := genA, changed := changed, record := some merged }).setSlot nb
              { gen := genB, changed := true, record := none }
            run =
              .next ((((if state = .confirmed ∧ a.state ≠ .confirmed then written.raise flagConfirmed else written)
                ).evaluateLinks ea.leg).replied 0x39#8 tag .ok
                  ([numA, genA, byteOf (recordStateCode state)] ++ bytes2 position)))

/-- R179: REPROBE of an echo record, or of an ingress record PROBE_WAIT or PROBING, is refused; any other ingress record
returns to PROBE_WAIT without leg, link and retention, its attempts and void streak 0 and its frozen flag clear, and joins
the wait queue with its severity and the present second. -/
def Obligations.ReprobeQueuesTheRecord : Prop :=
  ∀ (s : State) (tag num gen : Byte) (n : SlotNo) (r : Record), s.hears = true → s.picks num gen n r →
    (∀ e, r.body = .echo e → exec (.reprobe tag [num, gen]) s = .next (s.replied 0x3A#8 tag .wrongState [])) ∧
    ∀ g, r.body = .ingress g →
      (r.state = .probeWait ∨ r.state = .probing →
        exec (.reprobe tag [num, gen]) s = .next (s.replied 0x3A#8 tag .wrongState [])) ∧
      (r.state = .confirmed ∨ r.state = .unresolved ∨ r.state = .dormant ∨ r.state = .cleared →
        s.recordsSound = true →
        let joined := (s.setSlot n
          { gen := gen, changed := true
            record := some
              { r with
                state := .probeWait, acknowledged := false, retention := none, frozen := false
                body := .ingress { g with leg := none, attempts := 0, voidStreak := 0, link := none } } }).withWaitQueue
            (insertEntry { name := { num := n, gen := gen }, excess := r.severity, second := s.clock.seconds } s.waitQueue)
        exec (.reprobe tag [num, gen]) s =
          .next ((if s.mode = .idle then joined.startTest else joined).replied 0x3A#8 tag .ok []))

/-! ### The requests for probing and the switches -/

/-- R143, R144 and R159: LEG_MANUAL by the first row that holds, and the two ends of a hold: LEG_RELEASE and its exhausted
allowance, where no window start comes at the same tick (the model's choice, log entry 19). -/
def Obligations.ManualHoldsBeginAndEnd : Prop :=
  (∀ (s : State) (tag leg depth : Byte), s.hears = true →
    let run := exec (.legManual tag [leg, depth]) s
    let refused := fun (status : Status) => run = .next (s.replied 0x43#8 tag status [])
    (4 ≤ leg.toNat ∨ 2 ≤ depth.toNat → refused .badArgument) ∧
    ∀ (l : Leg) (d : Depth), leg.toNat = l.val → depth = (match d with | .atten => 0#8 | .isolate => 1#8) →
      (s.mode = .locked → refused .wrongState) ∧
      (s.mode = .waitBudget ∨ s.round ≠ none ∨ (∃ k c o, s.mode = .manual k c o ∧ k ≠ l) → refused .busy) ∧
      ∀ o : Origin, (s.mode = .idle ∧ o = .idle) ∨ (s.mode = .paused ∧ o = .paused) ∨ (∃ c, s.mode = .manual l c o) →
        (d = .isolate ∧ s.safety.isolatePermitted = false → refused .locked) ∧
        (d = .atten ∨ s.safety.isolatePermitted = true →
          (s.allowance l ≤ (s.switch l).charge → refused .full) ∧
          ((s.switch l).charge < s.allowance l → s.legsSound = true →
            let position := match d with
              | .atten => SwitchState.atten
              | .isolate => .isolate
            let commanded :=
              if (s.switch l).commanded = position then s
              else s.setSwitch l { s.switch l with commanded := position, settle := some (s.settings.guard + 1) }
            run = .next ((commanded.withMode (.manual l d o)).replied 0x43#8 tag .ok [])))) ∧
  ∀ s : State,
    (∀ tag, s.hears = true → (∀ l d o, s.mode ≠ .manual l d o) →
      exec (.legRelease tag []) s = .next (s.replied 0x44#8 tag .wrongState [])) ∧
    ∀ l d o, s.mode = .manual l d o → (s.switch l).commanded ≠ .through →
      let ended := (s.setSwitch l
        { s.switch l with commanded := .through, settle := some (s.settings.guard + 1) }).withMode
          (match o with | .idle => .idle | .paused => .paused)
      (∀ tag, s.hears = true → exec (.legRelease tag []) s = .next (ended.replied 0x44#8 tag .ok [])) ∧
      (s.allowance l ≤ (s.switch l).charge →
        s.clock.windowCount + (if 1000 ≤ s.clock.ms then 1 else 0) < s.safety.budgetWindow →
        exec .holdExhausted s = .next ended)

/-- R140, R142 and R156: PAUSE_PROBING, RESUME_PROBING and RELEASE_LOCKOUT by the sequencer's state. A pause of a round
aborts it: the leg held out is commanded THROUGH, and the probing record returns to PROBE_WAIT and joins the wait queue. -/
def Obligations.SequencerRequestsFollowTheState : Prop :=
  ∀ (s : State) (tag : Byte), s.hears = true →
    (s.mode = .idle ∨ s.mode = .waitBudget ∨ s.mode = .paused →
      exec (.pauseProbing tag []) s = .next ((s.withMode .paused).replied 0x41#8 tag .ok [])) ∧
    (s.mode = .locked ∨ (∃ l d o, s.mode = .manual l d o) →
      exec (.pauseProbing tag []) s = .next (s.replied 0x41#8 tag .wrongState [])) ∧
    (∀ x, s.round = some x →
      ∃ t, exec (.pauseProbing tag []) s = .next (t.replied 0x41#8 tag .ok []) ∧ t.mode = .paused ∧
        t = (((s.withTable t.table).withSwitches t.switches).withWaitQueue t.waitQueue).withMode .paused ∧
        (∀ l, ((∃ e, s.mode = .active x (.settleIn l) e ∨ s.mode = .active x (.probe l) e) →
            (s.switch l).commanded ≠ .through →
            t.switch l = { s.switch l with commanded := .through, settle := some (x.snap.guard + 1) }) ∧
          ((∀ e, s.mode ≠ .active x (.settleIn l) e ∧ s.mode ≠ .active x (.probe l) e) → t.switch l = s.switch l)) ∧
        (s.named x.record = none → t.table = s.table ∧ t.waitQueue = s.waitQueue) ∧
        ∀ r g, s.named x.record = some r → r.state = .probing → r.body = .ingress g → g.leg = none →
          t.table = (s.setSlot x.record.num
            { gen := x.record.gen, changed := true
              record := some { r with state := .probeWait, acknowledged := false, frozen := false } }).table ∧
          t.waitQueue =
            insertEntry { name := x.record, excess := r.severity, second := s.clock.seconds } s.waitQueue) ∧
    (s.mode = .paused →
      exec (.resumeProbing tag []) s = .next (((s.withMode .idle).startTest).replied 0x42#8 tag .ok [])) ∧
    (s.mode ≠ .paused → exec (.resumeProbing tag []) s = .next (s.replied 0x42#8 tag .wrongState [])) ∧
    (s.lockout = false → exec (.releaseLockout tag []) s = .next (s.replied 0x45#8 tag .wrongState [])) ∧
    (s.lockout = true → (∃ l, (s.switch l).sensed ≠ .through) →
      ∃ legs : Byte, exec (.releaseLockout tag []) s = .next (s.replied 0x45#8 tag .wrongState [legs]) ∧
        (∀ l : Leg, legs.getLsbD l.val = true ↔ (s.switch l).sensed ≠ .through) ∧ legs.toNat < 16) ∧
    (s.lockout = true → (∀ l, (s.switch l).sensed = .through) →
      exec (.releaseLockout tag []) s =
        .next (((((s.withSwitches (PerLeg.ofFn fun l => { s.switch l with faultLatch := false })).withLockout false).withMode
          .idle).startTest).replied 0x45#8 tag .ok []))

/-! ### What every step keeps -/

/-- The state after power-on is sound. -/
def Obligations.ResetIsSound : Prop := State.reset.sound = true

/-- R121, R149 and R154: no step leaves a leg out of THROUGH but the one that the sequencer holds, so at most one leg is;
and the lockout stays set exactly in LOCKED. -/
def Obligations.AtMostOneLegIsOut : Prop :=
  ∀ s t : State, s.legsSound = true → step s = .next t →
    t.legsSound = true ∧ ∀ k l, t.isOut k = true → t.isOut l = true → k = l

/-- R157: no step brings a leg's charge past its allowance. -/
def Obligations.ChargesStayWithinTheAllowance : Prop :=
  ∀ s t : State, s.chargesSound = true → step s = .next t → ∀ l, (t.switch l).charge ≤ t.allowance l

/-- R61, R63, R104 and R194: each of these stays as it should be: the queue holds at most 64 reports and HOLD agrees with
its count; the baselines and the streaks stay in range; the link holds no frame and no reply outside READY, nor both at
once. -/
def Obligations.QueueBandsAndLinkStaySound : Prop :=
  ∀ s t : State, step s = .next t →
    (s.queueSound = true → t.queueSound = true) ∧ (s.bandsSound = true → t.bandsSound = true) ∧
    (s.linkSound = true → t.linkSound = true)

/-- R29, R31, R32, R122, R128 and R160: the settings, the safety settings and a round's latched values stay in range, and no
count of the Plant Clock passes its limit. -/
def Obligations.SettingsAndClockStaySound : Prop :=
  ∀ s t : State, s.settingsSound = true → step s = .next t →
    t.settingsSound = true ∧ (s.clockSound = true → t.clockSound = true)

/-- R35, R36, R37 and R41: the map and the staging area stay as the rules describe them: taps in rising order, each station
on a tap of its leg, each handle once in the whole map, at most 1024 stations. -/
def Obligations.TheMapStaysSound : Prop :=
  ∀ s t : State, s.plantSound = true → step s = .next t → t.plantSound = true

/-- R4, R5, R24, R28, R85, R97 and R137: from a sound state, every step leaves every record with its fields in range and in
agreement with its state and the map, and every link naming an echo record CONFIRMED on the ingress record's leg. -/
def Obligations.RecordsAndLinksStaySound : Prop :=
  ∀ s t : State, s.sound = true → step s = .next t → t.recordsSound = true ∧ t.linksSound = true

/-- R110, R116, R121 and R123: from a sound state, every step leaves the wait queue holding each PROBE_WAIT record once, in
order, the PROBING record that of the round in progress, and one ingress record to a band, with a baseline. -/
def Obligations.WaitQueueAndRoundStaySound : Prop :=
  ∀ s t : State, s.sound = true → step s = .next t → t.probingSound = true
end

