-- ==== Sys2Proof/Laws/State.lean ====
section
/-! SUPPORT. Laws/State.lean: what each named update of State does to each field; every lemma holds by rfl. -/

namespace Sys2Proof.Machine

@[simp] theorem State.withClock_clock (s : State) (x : Clock) : (s.withClock x).clock = x := rfl
@[simp] theorem State.withClock_table (s : State) (x : Clock) : (s.withClock x).table = s.table := rfl
@[simp] theorem State.withClock_plant (s : State) (x : Clock) : (s.withClock x).plant = s.plant := rfl
@[simp] theorem State.withClock_staging (s : State) (x : Clock) : (s.withClock x).staging = s.staging := rfl
@[simp] theorem State.withClock_port (s : State) (x : Clock) : (s.withClock x).port = s.port := rfl
@[simp] theorem State.withClock_queue (s : State) (x : Clock) : (s.withClock x).queue = s.queue := rfl
@[simp] theorem State.withClock_hold (s : State) (x : Clock) : (s.withClock x).hold = s.hold := rfl
@[simp] theorem State.withClock_bands (s : State) (x : Clock) : (s.withClock x).bands = s.bands := rfl
@[simp] theorem State.withClock_mode (s : State) (x : Clock) : (s.withClock x).mode = s.mode := rfl
@[simp] theorem State.withClock_waitQueue (s : State) (x : Clock) : (s.withClock x).waitQueue = s.waitQueue := rfl
@[simp] theorem State.withClock_roundNumber (s : State) (x : Clock) : (s.withClock x).roundNumber = s.roundNumber := rfl
@[simp] theorem State.withClock_switches (s : State) (x : Clock) : (s.withClock x).switches = s.switches := rfl
@[simp] theorem State.withClock_lockout (s : State) (x : Clock) : (s.withClock x).lockout = s.lockout := rfl
@[simp] theorem State.withClock_settings (s : State) (x : Clock) : (s.withClock x).settings = s.settings := rfl
@[simp] theorem State.withClock_safety (s : State) (x : Clock) : (s.withClock x).safety = s.safety := rfl
@[simp] theorem State.withClock_safetyLock (s : State) (x : Clock) : (s.withClock x).safetyLock = s.safetyLock := rfl
@[simp] theorem State.withClock_link (s : State) (x : Clock) : (s.withClock x).link = s.link := rfl
@[simp] theorem State.withClock_flags (s : State) (x : Clock) : (s.withClock x).flags = s.flags := rfl
@[simp] theorem State.withClock_mask (s : State) (x : Clock) : (s.withClock x).mask = s.mask := rfl
@[simp] theorem State.withClock_resetLine (s : State) (x : Clock) : (s.withClock x).resetLine = s.resetLine := rfl
@[simp] theorem State.withClock_confirmedNow (s : State) (x : Clock) : (s.withClock x).confirmedNow = s.confirmedNow := rfl
@[simp] theorem State.withClock_pending (s : State) (x : Clock) : (s.withClock x).pending = s.pending := rfl

@[simp] theorem State.withTable_clock (s : State) (x : Vector Slot 96) : (s.withTable x).clock = s.clock := rfl
@[simp] theorem State.withTable_table (s : State) (x : Vector Slot 96) : (s.withTable x).table = x := rfl
@[simp] theorem State.withTable_plant (s : State) (x : Vector Slot 96) : (s.withTable x).plant = s.plant := rfl
@[simp] theorem State.withTable_staging (s : State) (x : Vector Slot 96) : (s.withTable x).staging = s.staging := rfl
@[simp] theorem State.withTable_port (s : State) (x : Vector Slot 96) : (s.withTable x).port = s.port := rfl
@[simp] theorem State.withTable_queue (s : State) (x : Vector Slot 96) : (s.withTable x).queue = s.queue := rfl
@[simp] theorem State.withTable_hold (s : State) (x : Vector Slot 96) : (s.withTable x).hold = s.hold := rfl
@[simp] theorem State.withTable_bands (s : State) (x : Vector Slot 96) : (s.withTable x).bands = s.bands := rfl
@[simp] theorem State.withTable_mode (s : State) (x : Vector Slot 96) : (s.withTable x).mode = s.mode := rfl
@[simp] theorem State.withTable_waitQueue (s : State) (x : Vector Slot 96) : (s.withTable x).waitQueue = s.waitQueue := rfl
@[simp] theorem State.withTable_roundNumber (s : State) (x : Vector Slot 96) : (s.withTable x).roundNumber = s.roundNumber := rfl
@[simp] theorem State.withTable_switches (s : State) (x : Vector Slot 96) : (s.withTable x).switches = s.switches := rfl
@[simp] theorem State.withTable_lockout (s : State) (x : Vector Slot 96) : (s.withTable x).lockout = s.lockout := rfl
@[simp] theorem State.withTable_settings (s : State) (x : Vector Slot 96) : (s.withTable x).settings = s.settings := rfl
@[simp] theorem State.withTable_safety (s : State) (x : Vector Slot 96) : (s.withTable x).safety = s.safety := rfl
@[simp] theorem State.withTable_safetyLock (s : State) (x : Vector Slot 96) : (s.withTable x).safetyLock = s.safetyLock := rfl
@[simp] theorem State.withTable_link (s : State) (x : Vector Slot 96) : (s.withTable x).link = s.link := rfl
@[simp] theorem State.withTable_flags (s : State) (x : Vector Slot 96) : (s.withTable x).flags = s.flags := rfl
@[simp] theorem State.withTable_mask (s : State) (x : Vector Slot 96) : (s.withTable x).mask = s.mask := rfl
@[simp] theorem State.withTable_resetLine (s : State) (x : Vector Slot 96) : (s.withTable x).resetLine = s.resetLine := rfl
@[simp] theorem State.withTable_confirmedNow (s : State) (x : Vector Slot 96) : (s.withTable x).confirmedNow = s.confirmedNow := rfl
@[simp] theorem State.withTable_pending (s : State) (x : Vector Slot 96) : (s.withTable x).pending = s.pending := rfl

@[simp] theorem State.withPlant_clock (s : State) (x : PerLeg LegMap) : (s.withPlant x).clock = s.clock := rfl
@[simp] theorem State.withPlant_table (s : State) (x : PerLeg LegMap) : (s.withPlant x).table = s.table := rfl
@[simp] theorem State.withPlant_plant (s : State) (x : PerLeg LegMap) : (s.withPlant x).plant = x := rfl
@[simp] theorem State.withPlant_staging (s : State) (x : PerLeg LegMap) : (s.withPlant x).staging = s.staging := rfl
@[simp] theorem State.withPlant_port (s : State) (x : PerLeg LegMap) : (s.withPlant x).port = s.port := rfl
@[simp] theorem State.withPlant_queue (s : State) (x : PerLeg LegMap) : (s.withPlant x).queue = s.queue := rfl
@[simp] theorem State.withPlant_hold (s : State) (x : PerLeg LegMap) : (s.withPlant x).hold = s.hold := rfl
@[simp] theorem State.withPlant_bands (s : State) (x : PerLeg LegMap) : (s.withPlant x).bands = s.bands := rfl
@[simp] theorem State.withPlant_mode (s : State) (x : PerLeg LegMap) : (s.withPlant x).mode = s.mode := rfl
@[simp] theorem State.withPlant_waitQueue (s : State) (x : PerLeg LegMap) : (s.withPlant x).waitQueue = s.waitQueue := rfl
@[simp] theorem State.withPlant_roundNumber (s : State) (x : PerLeg LegMap) : (s.withPlant x).roundNumber = s.roundNumber := rfl
@[simp] theorem State.withPlant_switches (s : State) (x : PerLeg LegMap) : (s.withPlant x).switches = s.switches := rfl
@[simp] theorem State.withPlant_lockout (s : State) (x : PerLeg LegMap) : (s.withPlant x).lockout = s.lockout := rfl
@[simp] theorem State.withPlant_settings (s : State) (x : PerLeg LegMap) : (s.withPlant x).settings = s.settings := rfl
@[simp] theorem State.withPlant_safety (s : State) (x : PerLeg LegMap) : (s.withPlant x).safety = s.safety := rfl
@[simp] theorem State.withPlant_safetyLock (s : State) (x : PerLeg LegMap) : (s.withPlant x).safetyLock = s.safetyLock := rfl
@[simp] theorem State.withPlant_link (s : State) (x : PerLeg LegMap) : (s.withPlant x).link = s.link := rfl
@[simp] theorem State.withPlant_flags (s : State) (x : PerLeg LegMap) : (s.withPlant x).flags = s.flags := rfl
@[simp] theorem State.withPlant_mask (s : State) (x : PerLeg LegMap) : (s.withPlant x).mask = s.mask := rfl
@[simp] theorem State.withPlant_resetLine (s : State) (x : PerLeg LegMap) : (s.withPlant x).resetLine = s.resetLine := rfl
@[simp] theorem State.withPlant_confirmedNow (s : State) (x : PerLeg LegMap) : (s.withPlant x).confirmedNow = s.confirmedNow := rfl
@[simp] theorem State.withPlant_pending (s : State) (x : PerLeg LegMap) : (s.withPlant x).pending = s.pending := rfl

@[simp] theorem State.withStaging_clock (s : State) (x : Option Staging) : (s.withStaging x).clock = s.clock := rfl
@[simp] theorem State.withStaging_table (s : State) (x : Option Staging) : (s.withStaging x).table = s.table := rfl
@[simp] theorem State.withStaging_plant (s : State) (x : Option Staging) : (s.withStaging x).plant = s.plant := rfl
@[simp] theorem State.withStaging_staging (s : State) (x : Option Staging) : (s.withStaging x).staging = x := rfl
@[simp] theorem State.withStaging_port (s : State) (x : Option Staging) : (s.withStaging x).port = s.port := rfl
@[simp] theorem State.withStaging_queue (s : State) (x : Option Staging) : (s.withStaging x).queue = s.queue := rfl
@[simp] theorem State.withStaging_hold (s : State) (x : Option Staging) : (s.withStaging x).hold = s.hold := rfl
@[simp] theorem State.withStaging_bands (s : State) (x : Option Staging) : (s.withStaging x).bands = s.bands := rfl
@[simp] theorem State.withStaging_mode (s : State) (x : Option Staging) : (s.withStaging x).mode = s.mode := rfl
@[simp] theorem State.withStaging_waitQueue (s : State) (x : Option Staging) : (s.withStaging x).waitQueue = s.waitQueue := rfl
@[simp] theorem State.withStaging_roundNumber (s : State) (x : Option Staging) : (s.withStaging x).roundNumber = s.roundNumber := rfl
@[simp] theorem State.withStaging_switches (s : State) (x : Option Staging) : (s.withStaging x).switches = s.switches := rfl
@[simp] theorem State.withStaging_lockout (s : State) (x : Option Staging) : (s.withStaging x).lockout = s.lockout := rfl
@[simp] theorem State.withStaging_settings (s : State) (x : Option Staging) : (s.withStaging x).settings = s.settings := rfl
@[simp] theorem State.withStaging_safety (s : State) (x : Option Staging) : (s.withStaging x).safety = s.safety := rfl
@[simp] theorem State.withStaging_safetyLock (s : State) (x : Option Staging) : (s.withStaging x).safetyLock = s.safetyLock := rfl
@[simp] theorem State.withStaging_link (s : State) (x : Option Staging) : (s.withStaging x).link = s.link := rfl
@[simp] theorem State.withStaging_flags (s : State) (x : Option Staging) : (s.withStaging x).flags = s.flags := rfl
@[simp] theorem State.withStaging_mask (s : State) (x : Option Staging) : (s.withStaging x).mask = s.mask := rfl
@[simp] theorem State.withStaging_resetLine (s : State) (x : Option Staging) : (s.withStaging x).resetLine = s.resetLine := rfl
@[simp] theorem State.withStaging_confirmedNow (s : State) (x : Option Staging) : (s.withStaging x).confirmedNow = s.confirmedNow := rfl
@[simp] theorem State.withStaging_pending (s : State) (x : Option Staging) : (s.withStaging x).pending = s.pending := rfl

@[simp] theorem State.withPort_clock (s : State) (x : Port) : (s.withPort x).clock = s.clock := rfl
@[simp] theorem State.withPort_table (s : State) (x : Port) : (s.withPort x).table = s.table := rfl
@[simp] theorem State.withPort_plant (s : State) (x : Port) : (s.withPort x).plant = s.plant := rfl
@[simp] theorem State.withPort_staging (s : State) (x : Port) : (s.withPort x).staging = s.staging := rfl
@[simp] theorem State.withPort_port (s : State) (x : Port) : (s.withPort x).port = x := rfl
@[simp] theorem State.withPort_queue (s : State) (x : Port) : (s.withPort x).queue = s.queue := rfl
@[simp] theorem State.withPort_hold (s : State) (x : Port) : (s.withPort x).hold = s.hold := rfl
@[simp] theorem State.withPort_bands (s : State) (x : Port) : (s.withPort x).bands = s.bands := rfl
@[simp] theorem State.withPort_mode (s : State) (x : Port) : (s.withPort x).mode = s.mode := rfl
@[simp] theorem State.withPort_waitQueue (s : State) (x : Port) : (s.withPort x).waitQueue = s.waitQueue := rfl
@[simp] theorem State.withPort_roundNumber (s : State) (x : Port) : (s.withPort x).roundNumber = s.roundNumber := rfl
@[simp] theorem State.withPort_switches (s : State) (x : Port) : (s.withPort x).switches = s.switches := rfl
@[simp] theorem State.withPort_lockout (s : State) (x : Port) : (s.withPort x).lockout = s.lockout := rfl
@[simp] theorem State.withPort_settings (s : State) (x : Port) : (s.withPort x).settings = s.settings := rfl
@[simp] theorem State.withPort_safety (s : State) (x : Port) : (s.withPort x).safety = s.safety := rfl
@[simp] theorem State.withPort_safetyLock (s : State) (x : Port) : (s.withPort x).safetyLock = s.safetyLock := rfl
@[simp] theorem State.withPort_link (s : State) (x : Port) : (s.withPort x).link = s.link := rfl
@[simp] theorem State.withPort_flags (s : State) (x : Port) : (s.withPort x).flags = s.flags := rfl
@[simp] theorem State.withPort_mask (s : State) (x : Port) : (s.withPort x).mask = s.mask := rfl
@[simp] theorem State.withPort_resetLine (s : State) (x : Port) : (s.withPort x).resetLine = s.resetLine := rfl
@[simp] theorem State.withPort_confirmedNow (s : State) (x : Port) : (s.withPort x).confirmedNow = s.confirmedNow := rfl
@[simp] theorem State.withPort_pending (s : State) (x : Port) : (s.withPort x).pending = s.pending := rfl

@[simp] theorem State.withQueue_clock (s : State) (x : List QueuedReport) : (s.withQueue x).clock = s.clock := rfl
@[simp] theorem State.withQueue_table (s : State) (x : List QueuedReport) : (s.withQueue x).table = s.table := rfl
@[simp] theorem State.withQueue_plant (s : State) (x : List QueuedReport) : (s.withQueue x).plant = s.plant := rfl
@[simp] theorem State.withQueue_staging (s : State) (x : List QueuedReport) : (s.withQueue x).staging = s.staging := rfl
@[simp] theorem State.withQueue_port (s : State) (x : List QueuedReport) : (s.withQueue x).port = s.port := rfl
@[simp] theorem State.withQueue_queue (s : State) (x : List QueuedReport) : (s.withQueue x).queue = x := rfl
@[simp] theorem State.withQueue_hold (s : State) (x : List QueuedReport) : (s.withQueue x).hold = s.hold := rfl
@[simp] theorem State.withQueue_bands (s : State) (x : List QueuedReport) : (s.withQueue x).bands = s.bands := rfl
@[simp] theorem State.withQueue_mode (s : State) (x : List QueuedReport) : (s.withQueue x).mode = s.mode := rfl
@[simp] theorem State.withQueue_waitQueue (s : State) (x : List QueuedReport) : (s.withQueue x).waitQueue = s.waitQueue := rfl
@[simp] theorem State.withQueue_roundNumber (s : State) (x : List QueuedReport) : (s.withQueue x).roundNumber = s.roundNumber := rfl
@[simp] theorem State.withQueue_switches (s : State) (x : List QueuedReport) : (s.withQueue x).switches = s.switches := rfl
@[simp] theorem State.withQueue_lockout (s : State) (x : List QueuedReport) : (s.withQueue x).lockout = s.lockout := rfl
@[simp] theorem State.withQueue_settings (s : State) (x : List QueuedReport) : (s.withQueue x).settings = s.settings := rfl
@[simp] theorem State.withQueue_safety (s : State) (x : List QueuedReport) : (s.withQueue x).safety = s.safety := rfl
@[simp] theorem State.withQueue_safetyLock (s : State) (x : List QueuedReport) : (s.withQueue x).safetyLock = s.safetyLock := rfl
@[simp] theorem State.withQueue_link (s : State) (x : List QueuedReport) : (s.withQueue x).link = s.link := rfl
@[simp] theorem State.withQueue_flags (s : State) (x : List QueuedReport) : (s.withQueue x).flags = s.flags := rfl
@[simp] theorem State.withQueue_mask (s : State) (x : List QueuedReport) : (s.withQueue x).mask = s.mask := rfl
@[simp] theorem State.withQueue_resetLine (s : State) (x : List QueuedReport) : (s.withQueue x).resetLine = s.resetLine := rfl
@[simp] theorem State.withQueue_confirmedNow (s : State) (x : List QueuedReport) : (s.withQueue x).confirmedNow = s.confirmedNow := rfl
@[simp] theorem State.withQueue_pending (s : State) (x : List QueuedReport) : (s.withQueue x).pending = s.pending := rfl

@[simp] theorem State.withHold_clock (s : State) (x : Bool) : (s.withHold x).clock = s.clock := rfl
@[simp] theorem State.withHold_table (s : State) (x : Bool) : (s.withHold x).table = s.table := rfl
@[simp] theorem State.withHold_plant (s : State) (x : Bool) : (s.withHold x).plant = s.plant := rfl
@[simp] theorem State.withHold_staging (s : State) (x : Bool) : (s.withHold x).staging = s.staging := rfl
@[simp] theorem State.withHold_port (s : State) (x : Bool) : (s.withHold x).port = s.port := rfl
@[simp] theorem State.withHold_queue (s : State) (x : Bool) : (s.withHold x).queue = s.queue := rfl
@[simp] theorem State.withHold_hold (s : State) (x : Bool) : (s.withHold x).hold = x := rfl
@[simp] theorem State.withHold_bands (s : State) (x : Bool) : (s.withHold x).bands = s.bands := rfl
@[simp] theorem State.withHold_mode (s : State) (x : Bool) : (s.withHold x).mode = s.mode := rfl
@[simp] theorem State.withHold_waitQueue (s : State) (x : Bool) : (s.withHold x).waitQueue = s.waitQueue := rfl
@[simp] theorem State.withHold_roundNumber (s : State) (x : Bool) : (s.withHold x).roundNumber = s.roundNumber := rfl
@[simp] theorem State.withHold_switches (s : State) (x : Bool) : (s.withHold x).switches = s.switches := rfl
@[simp] theorem State.withHold_lockout (s : State) (x : Bool) : (s.withHold x).lockout = s.lockout := rfl
@[simp] theorem State.withHold_settings (s : State) (x : Bool) : (s.withHold x).settings = s.settings := rfl
@[simp] theorem State.withHold_safety (s : State) (x : Bool) : (s.withHold x).safety = s.safety := rfl
@[simp] theorem State.withHold_safetyLock (s : State) (x : Bool) : (s.withHold x).safetyLock = s.safetyLock := rfl
@[simp] theorem State.withHold_link (s : State) (x : Bool) : (s.withHold x).link = s.link := rfl
@[simp] theorem State.withHold_flags (s : State) (x : Bool) : (s.withHold x).flags = s.flags := rfl
@[simp] theorem State.withHold_mask (s : State) (x : Bool) : (s.withHold x).mask = s.mask := rfl
@[simp] theorem State.withHold_resetLine (s : State) (x : Bool) : (s.withHold x).resetLine = s.resetLine := rfl
@[simp] theorem State.withHold_confirmedNow (s : State) (x : Bool) : (s.withHold x).confirmedNow = s.confirmedNow := rfl
@[simp] theorem State.withHold_pending (s : State) (x : Bool) : (s.withHold x).pending = s.pending := rfl

@[simp] theorem State.withBands_clock (s : State) (x : Vector BandEntry 16) : (s.withBands x).clock = s.clock := rfl
@[simp] theorem State.withBands_table (s : State) (x : Vector BandEntry 16) : (s.withBands x).table = s.table := rfl
@[simp] theorem State.withBands_plant (s : State) (x : Vector BandEntry 16) : (s.withBands x).plant = s.plant := rfl
@[simp] theorem State.withBands_staging (s : State) (x : Vector BandEntry 16) : (s.withBands x).staging = s.staging := rfl
@[simp] theorem State.withBands_port (s : State) (x : Vector BandEntry 16) : (s.withBands x).port = s.port := rfl
@[simp] theorem State.withBands_queue (s : State) (x : Vector BandEntry 16) : (s.withBands x).queue = s.queue := rfl
@[simp] theorem State.withBands_hold (s : State) (x : Vector BandEntry 16) : (s.withBands x).hold = s.hold := rfl
@[simp] theorem State.withBands_bands (s : State) (x : Vector BandEntry 16) : (s.withBands x).bands = x := rfl
@[simp] theorem State.withBands_mode (s : State) (x : Vector BandEntry 16) : (s.withBands x).mode = s.mode := rfl
@[simp] theorem State.withBands_waitQueue (s : State) (x : Vector BandEntry 16) : (s.withBands x).waitQueue = s.waitQueue := rfl
@[simp] theorem State.withBands_roundNumber (s : State) (x : Vector BandEntry 16) : (s.withBands x).roundNumber = s.roundNumber := rfl
@[simp] theorem State.withBands_switches (s : State) (x : Vector BandEntry 16) : (s.withBands x).switches = s.switches := rfl
@[simp] theorem State.withBands_lockout (s : State) (x : Vector BandEntry 16) : (s.withBands x).lockout = s.lockout := rfl
@[simp] theorem State.withBands_settings (s : State) (x : Vector BandEntry 16) : (s.withBands x).settings = s.settings := rfl
@[simp] theorem State.withBands_safety (s : State) (x : Vector BandEntry 16) : (s.withBands x).safety = s.safety := rfl
@[simp] theorem State.withBands_safetyLock (s : State) (x : Vector BandEntry 16) : (s.withBands x).safetyLock = s.safetyLock := rfl
@[simp] theorem State.withBands_link (s : State) (x : Vector BandEntry 16) : (s.withBands x).link = s.link := rfl
@[simp] theorem State.withBands_flags (s : State) (x : Vector BandEntry 16) : (s.withBands x).flags = s.flags := rfl
@[simp] theorem State.withBands_mask (s : State) (x : Vector BandEntry 16) : (s.withBands x).mask = s.mask := rfl
@[simp] theorem State.withBands_resetLine (s : State) (x : Vector BandEntry 16) : (s.withBands x).resetLine = s.resetLine := rfl
@[simp] theorem State.withBands_confirmedNow (s : State) (x : Vector BandEntry 16) : (s.withBands x).confirmedNow = s.confirmedNow := rfl
@[simp] theorem State.withBands_pending (s : State) (x : Vector BandEntry 16) : (s.withBands x).pending = s.pending := rfl

@[simp] theorem State.withMode_clock (s : State) (x : Mode) : (s.withMode x).clock = s.clock := rfl
@[simp] theorem State.withMode_table (s : State) (x : Mode) : (s.withMode x).table = s.table := rfl
@[simp] theorem State.withMode_plant (s : State) (x : Mode) : (s.withMode x).plant = s.plant := rfl
@[simp] theorem State.withMode_staging (s : State) (x : Mode) : (s.withMode x).staging = s.staging := rfl
@[simp] theorem State.withMode_port (s : State) (x : Mode) : (s.withMode x).port = s.port := rfl
@[simp] theorem State.withMode_queue (s : State) (x : Mode) : (s.withMode x).queue = s.queue := rfl
@[simp] theorem State.withMode_hold (s : State) (x : Mode) : (s.withMode x).hold = s.hold := rfl
@[simp] theorem State.withMode_bands (s : State) (x : Mode) : (s.withMode x).bands = s.bands := rfl
@[simp] theorem State.withMode_mode (s : State) (x : Mode) : (s.withMode x).mode = x := rfl
@[simp] theorem State.withMode_waitQueue (s : State) (x : Mode) : (s.withMode x).waitQueue = s.waitQueue := rfl
@[simp] theorem State.withMode_roundNumber (s : State) (x : Mode) : (s.withMode x).roundNumber = s.roundNumber := rfl
@[simp] theorem State.withMode_switches (s : State) (x : Mode) : (s.withMode x).switches = s.switches := rfl
@[simp] theorem State.withMode_lockout (s : State) (x : Mode) : (s.withMode x).lockout = s.lockout := rfl
@[simp] theorem State.withMode_settings (s : State) (x : Mode) : (s.withMode x).settings = s.settings := rfl
@[simp] theorem State.withMode_safety (s : State) (x : Mode) : (s.withMode x).safety = s.safety := rfl
@[simp] theorem State.withMode_safetyLock (s : State) (x : Mode) : (s.withMode x).safetyLock = s.safetyLock := rfl
@[simp] theorem State.withMode_link (s : State) (x : Mode) : (s.withMode x).link = s.link := rfl
@[simp] theorem State.withMode_flags (s : State) (x : Mode) : (s.withMode x).flags = s.flags := rfl
@[simp] theorem State.withMode_mask (s : State) (x : Mode) : (s.withMode x).mask = s.mask := rfl
@[simp] theorem State.withMode_resetLine (s : State) (x : Mode) : (s.withMode x).resetLine = s.resetLine := rfl
@[simp] theorem State.withMode_confirmedNow (s : State) (x : Mode) : (s.withMode x).confirmedNow = s.confirmedNow := rfl
@[simp] theorem State.withMode_pending (s : State) (x : Mode) : (s.withMode x).pending = s.pending := rfl

@[simp] theorem State.withWaitQueue_clock (s : State) (x : List WaitEntry) : (s.withWaitQueue x).clock = s.clock := rfl
@[simp] theorem State.withWaitQueue_table (s : State) (x : List WaitEntry) : (s.withWaitQueue x).table = s.table := rfl
@[simp] theorem State.withWaitQueue_plant (s : State) (x : List WaitEntry) : (s.withWaitQueue x).plant = s.plant := rfl
@[simp] theorem State.withWaitQueue_staging (s : State) (x : List WaitEntry) : (s.withWaitQueue x).staging = s.staging := rfl
@[simp] theorem State.withWaitQueue_port (s : State) (x : List WaitEntry) : (s.withWaitQueue x).port = s.port := rfl
@[simp] theorem State.withWaitQueue_queue (s : State) (x : List WaitEntry) : (s.withWaitQueue x).queue = s.queue := rfl
@[simp] theorem State.withWaitQueue_hold (s : State) (x : List WaitEntry) : (s.withWaitQueue x).hold = s.hold := rfl
@[simp] theorem State.withWaitQueue_bands (s : State) (x : List WaitEntry) : (s.withWaitQueue x).bands = s.bands := rfl
@[simp] theorem State.withWaitQueue_mode (s : State) (x : List WaitEntry) : (s.withWaitQueue x).mode = s.mode := rfl
@[simp] theorem State.withWaitQueue_waitQueue (s : State) (x : List WaitEntry) : (s.withWaitQueue x).waitQueue = x := rfl
@[simp] theorem State.withWaitQueue_roundNumber (s : State) (x : List WaitEntry) : (s.withWaitQueue x).roundNumber = s.roundNumber := rfl
@[simp] theorem State.withWaitQueue_switches (s : State) (x : List WaitEntry) : (s.withWaitQueue x).switches = s.switches := rfl
@[simp] theorem State.withWaitQueue_lockout (s : State) (x : List WaitEntry) : (s.withWaitQueue x).lockout = s.lockout := rfl
@[simp] theorem State.withWaitQueue_settings (s : State) (x : List WaitEntry) : (s.withWaitQueue x).settings = s.settings := rfl
@[simp] theorem State.withWaitQueue_safety (s : State) (x : List WaitEntry) : (s.withWaitQueue x).safety = s.safety := rfl
@[simp] theorem State.withWaitQueue_safetyLock (s : State) (x : List WaitEntry) : (s.withWaitQueue x).safetyLock = s.safetyLock := rfl
@[simp] theorem State.withWaitQueue_link (s : State) (x : List WaitEntry) : (s.withWaitQueue x).link = s.link := rfl
@[simp] theorem State.withWaitQueue_flags (s : State) (x : List WaitEntry) : (s.withWaitQueue x).flags = s.flags := rfl
@[simp] theorem State.withWaitQueue_mask (s : State) (x : List WaitEntry) : (s.withWaitQueue x).mask = s.mask := rfl
@[simp] theorem State.withWaitQueue_resetLine (s : State) (x : List WaitEntry) : (s.withWaitQueue x).resetLine = s.resetLine := rfl
@[simp] theorem State.withWaitQueue_confirmedNow (s : State) (x : List WaitEntry) : (s.withWaitQueue x).confirmedNow = s.confirmedNow := rfl
@[simp] theorem State.withWaitQueue_pending (s : State) (x : List WaitEntry) : (s.withWaitQueue x).pending = s.pending := rfl

@[simp] theorem State.withRoundNumber_clock (s : State) (x : Byte) : (s.withRoundNumber x).clock = s.clock := rfl
@[simp] theorem State.withRoundNumber_table (s : State) (x : Byte) : (s.withRoundNumber x).table = s.table := rfl
@[simp] theorem State.withRoundNumber_plant (s : State) (x : Byte) : (s.withRoundNumber x).plant = s.plant := rfl
@[simp] theorem State.withRoundNumber_staging (s : State) (x : Byte) : (s.withRoundNumber x).staging = s.staging := rfl
@[simp] theorem State.withRoundNumber_port (s : State) (x : Byte) : (s.withRoundNumber x).port = s.port := rfl
@[simp] theorem State.withRoundNumber_queue (s : State) (x : Byte) : (s.withRoundNumber x).queue = s.queue := rfl
@[simp] theorem State.withRoundNumber_hold (s : State) (x : Byte) : (s.withRoundNumber x).hold = s.hold := rfl
@[simp] theorem State.withRoundNumber_bands (s : State) (x : Byte) : (s.withRoundNumber x).bands = s.bands := rfl
@[simp] theorem State.withRoundNumber_mode (s : State) (x : Byte) : (s.withRoundNumber x).mode = s.mode := rfl
@[simp] theorem State.withRoundNumber_waitQueue (s : State) (x : Byte) : (s.withRoundNumber x).waitQueue = s.waitQueue := rfl
@[simp] theorem State.withRoundNumber_roundNumber (s : State) (x : Byte) : (s.withRoundNumber x).roundNumber = x := rfl
@[simp] theorem State.withRoundNumber_switches (s : State) (x : Byte) : (s.withRoundNumber x).switches = s.switches := rfl
@[simp] theorem State.withRoundNumber_lockout (s : State) (x : Byte) : (s.withRoundNumber x).lockout = s.lockout := rfl
@[simp] theorem State.withRoundNumber_settings (s : State) (x : Byte) : (s.withRoundNumber x).settings = s.settings := rfl
@[simp] theorem State.withRoundNumber_safety (s : State) (x : Byte) : (s.withRoundNumber x).safety = s.safety := rfl
@[simp] theorem State.withRoundNumber_safetyLock (s : State) (x : Byte) : (s.withRoundNumber x).safetyLock = s.safetyLock := rfl
@[simp] theorem State.withRoundNumber_link (s : State) (x : Byte) : (s.withRoundNumber x).link = s.link := rfl
@[simp] theorem State.withRoundNumber_flags (s : State) (x : Byte) : (s.withRoundNumber x).flags = s.flags := rfl
@[simp] theorem State.withRoundNumber_mask (s : State) (x : Byte) : (s.withRoundNumber x).mask = s.mask := rfl
@[simp] theorem State.withRoundNumber_resetLine (s : State) (x : Byte) : (s.withRoundNumber x).resetLine = s.resetLine := rfl
@[simp] theorem State.withRoundNumber_confirmedNow (s : State) (x : Byte) : (s.withRoundNumber x).confirmedNow = s.confirmedNow := rfl
@[simp] theorem State.withRoundNumber_pending (s : State) (x : Byte) : (s.withRoundNumber x).pending = s.pending := rfl

@[simp] theorem State.withSwitches_clock (s : State) (x : PerLeg LegSwitch) : (s.withSwitches x).clock = s.clock := rfl
@[simp] theorem State.withSwitches_table (s : State) (x : PerLeg LegSwitch) : (s.withSwitches x).table = s.table := rfl
@[simp] theorem State.withSwitches_plant (s : State) (x : PerLeg LegSwitch) : (s.withSwitches x).plant = s.plant := rfl
@[simp] theorem State.withSwitches_staging (s : State) (x : PerLeg LegSwitch) : (s.withSwitches x).staging = s.staging := rfl
@[simp] theorem State.withSwitches_port (s : State) (x : PerLeg LegSwitch) : (s.withSwitches x).port = s.port := rfl
@[simp] theorem State.withSwitches_queue (s : State) (x : PerLeg LegSwitch) : (s.withSwitches x).queue = s.queue := rfl
@[simp] theorem State.withSwitches_hold (s : State) (x : PerLeg LegSwitch) : (s.withSwitches x).hold = s.hold := rfl
@[simp] theorem State.withSwitches_bands (s : State) (x : PerLeg LegSwitch) : (s.withSwitches x).bands = s.bands := rfl
@[simp] theorem State.withSwitches_mode (s : State) (x : PerLeg LegSwitch) : (s.withSwitches x).mode = s.mode := rfl
@[simp] theorem State.withSwitches_waitQueue (s : State) (x : PerLeg LegSwitch) : (s.withSwitches x).waitQueue = s.waitQueue := rfl
@[simp] theorem State.withSwitches_roundNumber (s : State) (x : PerLeg LegSwitch) : (s.withSwitches x).roundNumber = s.roundNumber := rfl
@[simp] theorem State.withSwitches_switches (s : State) (x : PerLeg LegSwitch) : (s.withSwitches x).switches = x := rfl
@[simp] theorem State.withSwitches_lockout (s : State) (x : PerLeg LegSwitch) : (s.withSwitches x).lockout = s.lockout := rfl
@[simp] theorem State.withSwitches_settings (s : State) (x : PerLeg LegSwitch) : (s.withSwitches x).settings = s.settings := rfl
@[simp] theorem State.withSwitches_safety (s : State) (x : PerLeg LegSwitch) : (s.withSwitches x).safety = s.safety := rfl
@[simp] theorem State.withSwitches_safetyLock (s : State) (x : PerLeg LegSwitch) : (s.withSwitches x).safetyLock = s.safetyLock := rfl
@[simp] theorem State.withSwitches_link (s : State) (x : PerLeg LegSwitch) : (s.withSwitches x).link = s.link := rfl
@[simp] theorem State.withSwitches_flags (s : State) (x : PerLeg LegSwitch) : (s.withSwitches x).flags = s.flags := rfl
@[simp] theorem State.withSwitches_mask (s : State) (x : PerLeg LegSwitch) : (s.withSwitches x).mask = s.mask := rfl
@[simp] theorem State.withSwitches_resetLine (s : State) (x : PerLeg LegSwitch) : (s.withSwitches x).resetLine = s.resetLine := rfl
@[simp] theorem State.withSwitches_confirmedNow (s : State) (x : PerLeg LegSwitch) : (s.withSwitches x).confirmedNow = s.confirmedNow := rfl
@[simp] theorem State.withSwitches_pending (s : State) (x : PerLeg LegSwitch) : (s.withSwitches x).pending = s.pending := rfl

@[simp] theorem State.withLockout_clock (s : State) (x : Bool) : (s.withLockout x).clock = s.clock := rfl
@[simp] theorem State.withLockout_table (s : State) (x : Bool) : (s.withLockout x).table = s.table := rfl
@[simp] theorem State.withLockout_plant (s : State) (x : Bool) : (s.withLockout x).plant = s.plant := rfl
@[simp] theorem State.withLockout_staging (s : State) (x : Bool) : (s.withLockout x).staging = s.staging := rfl
@[simp] theorem State.withLockout_port (s : State) (x : Bool) : (s.withLockout x).port = s.port := rfl
@[simp] theorem State.withLockout_queue (s : State) (x : Bool) : (s.withLockout x).queue = s.queue := rfl
@[simp] theorem State.withLockout_hold (s : State) (x : Bool) : (s.withLockout x).hold = s.hold := rfl
@[simp] theorem State.withLockout_bands (s : State) (x : Bool) : (s.withLockout x).bands = s.bands := rfl
@[simp] theorem State.withLockout_mode (s : State) (x : Bool) : (s.withLockout x).mode = s.mode := rfl
@[simp] theorem State.withLockout_waitQueue (s : State) (x : Bool) : (s.withLockout x).waitQueue = s.waitQueue := rfl
@[simp] theorem State.withLockout_roundNumber (s : State) (x : Bool) : (s.withLockout x).roundNumber = s.roundNumber := rfl
@[simp] theorem State.withLockout_switches (s : State) (x : Bool) : (s.withLockout x).switches = s.switches := rfl
@[simp] theorem State.withLockout_lockout (s : State) (x : Bool) : (s.withLockout x).lockout = x := rfl
@[simp] theorem State.withLockout_settings (s : State) (x : Bool) : (s.withLockout x).settings = s.settings := rfl
@[simp] theorem State.withLockout_safety (s : State) (x : Bool) : (s.withLockout x).safety = s.safety := rfl
@[simp] theorem State.withLockout_safetyLock (s : State) (x : Bool) : (s.withLockout x).safetyLock = s.safetyLock := rfl
@[simp] theorem State.withLockout_link (s : State) (x : Bool) : (s.withLockout x).link = s.link := rfl
@[simp] theorem State.withLockout_flags (s : State) (x : Bool) : (s.withLockout x).flags = s.flags := rfl
@[simp] theorem State.withLockout_mask (s : State) (x : Bool) : (s.withLockout x).mask = s.mask := rfl
@[simp] theorem State.withLockout_resetLine (s : State) (x : Bool) : (s.withLockout x).resetLine = s.resetLine := rfl
@[simp] theorem State.withLockout_confirmedNow (s : State) (x : Bool) : (s.withLockout x).confirmedNow = s.confirmedNow := rfl
@[simp] theorem State.withLockout_pending (s : State) (x : Bool) : (s.withLockout x).pending = s.pending := rfl

@[simp] theorem State.withSettings_clock (s : State) (x : Settings) : (s.withSettings x).clock = s.clock := rfl
@[simp] theorem State.withSettings_table (s : State) (x : Settings) : (s.withSettings x).table = s.table := rfl
@[simp] theorem State.withSettings_plant (s : State) (x : Settings) : (s.withSettings x).plant = s.plant := rfl
@[simp] theorem State.withSettings_staging (s : State) (x : Settings) : (s.withSettings x).staging = s.staging := rfl
@[simp] theorem State.withSettings_port (s : State) (x : Settings) : (s.withSettings x).port = s.port := rfl
@[simp] theorem State.withSettings_queue (s : State) (x : Settings) : (s.withSettings x).queue = s.queue := rfl
@[simp] theorem State.withSettings_hold (s : State) (x : Settings) : (s.withSettings x).hold = s.hold := rfl
@[simp] theorem State.withSettings_bands (s : State) (x : Settings) : (s.withSettings x).bands = s.bands := rfl
@[simp] theorem State.withSettings_mode (s : State) (x : Settings) : (s.withSettings x).mode = s.mode := rfl
@[simp] theorem State.withSettings_waitQueue (s : State) (x : Settings) : (s.withSettings x).waitQueue = s.waitQueue := rfl
@[simp] theorem State.withSettings_roundNumber (s : State) (x : Settings) : (s.withSettings x).roundNumber = s.roundNumber := rfl
@[simp] theorem State.withSettings_switches (s : State) (x : Settings) : (s.withSettings x).switches = s.switches := rfl
@[simp] theorem State.withSettings_lockout (s : State) (x : Settings) : (s.withSettings x).lockout = s.lockout := rfl
@[simp] theorem State.withSettings_settings (s : State) (x : Settings) : (s.withSettings x).settings = x := rfl
@[simp] theorem State.withSettings_safety (s : State) (x : Settings) : (s.withSettings x).safety = s.safety := rfl
@[simp] theorem State.withSettings_safetyLock (s : State) (x : Settings) : (s.withSettings x).safetyLock = s.safetyLock := rfl
@[simp] theorem State.withSettings_link (s : State) (x : Settings) : (s.withSettings x).link = s.link := rfl
@[simp] theorem State.withSettings_flags (s : State) (x : Settings) : (s.withSettings x).flags = s.flags := rfl
@[simp] theorem State.withSettings_mask (s : State) (x : Settings) : (s.withSettings x).mask = s.mask := rfl
@[simp] theorem State.withSettings_resetLine (s : State) (x : Settings) : (s.withSettings x).resetLine = s.resetLine := rfl
@[simp] theorem State.withSettings_confirmedNow (s : State) (x : Settings) : (s.withSettings x).confirmedNow = s.confirmedNow := rfl
@[simp] theorem State.withSettings_pending (s : State) (x : Settings) : (s.withSettings x).pending = s.pending := rfl

@[simp] theorem State.withSafety_clock (s : State) (x : Safety) : (s.withSafety x).clock = s.clock := rfl
@[simp] theorem State.withSafety_table (s : State) (x : Safety) : (s.withSafety x).table = s.table := rfl
@[simp] theorem State.withSafety_plant (s : State) (x : Safety) : (s.withSafety x).plant = s.plant := rfl
@[simp] theorem State.withSafety_staging (s : State) (x : Safety) : (s.withSafety x).staging = s.staging := rfl
@[simp] theorem State.withSafety_port (s : State) (x : Safety) : (s.withSafety x).port = s.port := rfl
@[simp] theorem State.withSafety_queue (s : State) (x : Safety) : (s.withSafety x).queue = s.queue := rfl
@[simp] theorem State.withSafety_hold (s : State) (x : Safety) : (s.withSafety x).hold = s.hold := rfl
@[simp] theorem State.withSafety_bands (s : State) (x : Safety) : (s.withSafety x).bands = s.bands := rfl
@[simp] theorem State.withSafety_mode (s : State) (x : Safety) : (s.withSafety x).mode = s.mode := rfl
@[simp] theorem State.withSafety_waitQueue (s : State) (x : Safety) : (s.withSafety x).waitQueue = s.waitQueue := rfl
@[simp] theorem State.withSafety_roundNumber (s : State) (x : Safety) : (s.withSafety x).roundNumber = s.roundNumber := rfl
@[simp] theorem State.withSafety_switches (s : State) (x : Safety) : (s.withSafety x).switches = s.switches := rfl
@[simp] theorem State.withSafety_lockout (s : State) (x : Safety) : (s.withSafety x).lockout = s.lockout := rfl
@[simp] theorem State.withSafety_settings (s : State) (x : Safety) : (s.withSafety x).settings = s.settings := rfl
@[simp] theorem State.withSafety_safety (s : State) (x : Safety) : (s.withSafety x).safety = x := rfl
@[simp] theorem State.withSafety_safetyLock (s : State) (x : Safety) : (s.withSafety x).safetyLock = s.safetyLock := rfl
@[simp] theorem State.withSafety_link (s : State) (x : Safety) : (s.withSafety x).link = s.link := rfl
@[simp] theorem State.withSafety_flags (s : State) (x : Safety) : (s.withSafety x).flags = s.flags := rfl
@[simp] theorem State.withSafety_mask (s : State) (x : Safety) : (s.withSafety x).mask = s.mask := rfl
@[simp] theorem State.withSafety_resetLine (s : State) (x : Safety) : (s.withSafety x).resetLine = s.resetLine := rfl
@[simp] theorem State.withSafety_confirmedNow (s : State) (x : Safety) : (s.withSafety x).confirmedNow = s.confirmedNow := rfl
@[simp] theorem State.withSafety_pending (s : State) (x : Safety) : (s.withSafety x).pending = s.pending := rfl

@[simp] theorem State.withSafetyLock_clock (s : State) (x : Bool) : (s.withSafetyLock x).clock = s.clock := rfl
@[simp] theorem State.withSafetyLock_table (s : State) (x : Bool) : (s.withSafetyLock x).table = s.table := rfl
@[simp] theorem State.withSafetyLock_plant (s : State) (x : Bool) : (s.withSafetyLock x).plant = s.plant := rfl
@[simp] theorem State.withSafetyLock_staging (s : State) (x : Bool) : (s.withSafetyLock x).staging = s.staging := rfl
@[simp] theorem State.withSafetyLock_port (s : State) (x : Bool) : (s.withSafetyLock x).port = s.port := rfl
@[simp] theorem State.withSafetyLock_queue (s : State) (x : Bool) : (s.withSafetyLock x).queue = s.queue := rfl
@[simp] theorem State.withSafetyLock_hold (s : State) (x : Bool) : (s.withSafetyLock x).hold = s.hold := rfl
@[simp] theorem State.withSafetyLock_bands (s : State) (x : Bool) : (s.withSafetyLock x).bands = s.bands := rfl
@[simp] theorem State.withSafetyLock_mode (s : State) (x : Bool) : (s.withSafetyLock x).mode = s.mode := rfl
@[simp] theorem State.withSafetyLock_waitQueue (s : State) (x : Bool) : (s.withSafetyLock x).waitQueue = s.waitQueue := rfl
@[simp] theorem State.withSafetyLock_roundNumber (s : State) (x : Bool) : (s.withSafetyLock x).roundNumber = s.roundNumber := rfl
@[simp] theorem State.withSafetyLock_switches (s : State) (x : Bool) : (s.withSafetyLock x).switches = s.switches := rfl
@[simp] theorem State.withSafetyLock_lockout (s : State) (x : Bool) : (s.withSafetyLock x).lockout = s.lockout := rfl
@[simp] theorem State.withSafetyLock_settings (s : State) (x : Bool) : (s.withSafetyLock x).settings = s.settings := rfl
@[simp] theorem State.withSafetyLock_safety (s : State) (x : Bool) : (s.withSafetyLock x).safety = s.safety := rfl
@[simp] theorem State.withSafetyLock_safetyLock (s : State) (x : Bool) : (s.withSafetyLock x).safetyLock = x := rfl
@[simp] theorem State.withSafetyLock_link (s : State) (x : Bool) : (s.withSafetyLock x).link = s.link := rfl
@[simp] theorem State.withSafetyLock_flags (s : State) (x : Bool) : (s.withSafetyLock x).flags = s.flags := rfl
@[simp] theorem State.withSafetyLock_mask (s : State) (x : Bool) : (s.withSafetyLock x).mask = s.mask := rfl
@[simp] theorem State.withSafetyLock_resetLine (s : State) (x : Bool) : (s.withSafetyLock x).resetLine = s.resetLine := rfl
@[simp] theorem State.withSafetyLock_confirmedNow (s : State) (x : Bool) : (s.withSafetyLock x).confirmedNow = s.confirmedNow := rfl
@[simp] theorem State.withSafetyLock_pending (s : State) (x : Bool) : (s.withSafetyLock x).pending = s.pending := rfl

@[simp] theorem State.withLink_clock (s : State) (x : Link) : (s.withLink x).clock = s.clock := rfl
@[simp] theorem State.withLink_table (s : State) (x : Link) : (s.withLink x).table = s.table := rfl
@[simp] theorem State.withLink_plant (s : State) (x : Link) : (s.withLink x).plant = s.plant := rfl
@[simp] theorem State.withLink_staging (s : State) (x : Link) : (s.withLink x).staging = s.staging := rfl
@[simp] theorem State.withLink_port (s : State) (x : Link) : (s.withLink x).port = s.port := rfl
@[simp] theorem State.withLink_queue (s : State) (x : Link) : (s.withLink x).queue = s.queue := rfl
@[simp] theorem State.withLink_hold (s : State) (x : Link) : (s.withLink x).hold = s.hold := rfl
@[simp] theorem State.withLink_bands (s : State) (x : Link) : (s.withLink x).bands = s.bands := rfl
@[simp] theorem State.withLink_mode (s : State) (x : Link) : (s.withLink x).mode = s.mode := rfl
@[simp] theorem State.withLink_waitQueue (s : State) (x : Link) : (s.withLink x).waitQueue = s.waitQueue := rfl
@[simp] theorem State.withLink_roundNumber (s : State) (x : Link) : (s.withLink x).roundNumber = s.roundNumber := rfl
@[simp] theorem State.withLink_switches (s : State) (x : Link) : (s.withLink x).switches = s.switches := rfl
@[simp] theorem State.withLink_lockout (s : State) (x : Link) : (s.withLink x).lockout = s.lockout := rfl
@[simp] theorem State.withLink_settings (s : State) (x : Link) : (s.withLink x).settings = s.settings := rfl
@[simp] theorem State.withLink_safety (s : State) (x : Link) : (s.withLink x).safety = s.safety := rfl
@[simp] theorem State.withLink_safetyLock (s : State) (x : Link) : (s.withLink x).safetyLock = s.safetyLock := rfl
@[simp] theorem State.withLink_link (s : State) (x : Link) : (s.withLink x).link = x := rfl
@[simp] theorem State.withLink_flags (s : State) (x : Link) : (s.withLink x).flags = s.flags := rfl
@[simp] theorem State.withLink_mask (s : State) (x : Link) : (s.withLink x).mask = s.mask := rfl
@[simp] theorem State.withLink_resetLine (s : State) (x : Link) : (s.withLink x).resetLine = s.resetLine := rfl
@[simp] theorem State.withLink_confirmedNow (s : State) (x : Link) : (s.withLink x).confirmedNow = s.confirmedNow := rfl
@[simp] theorem State.withLink_pending (s : State) (x : Link) : (s.withLink x).pending = s.pending := rfl

@[simp] theorem State.withFlags_clock (s : State) (x : BitVec 7) : (s.withFlags x).clock = s.clock := rfl
@[simp] theorem State.withFlags_table (s : State) (x : BitVec 7) : (s.withFlags x).table = s.table := rfl
@[simp] theorem State.withFlags_plant (s : State) (x : BitVec 7) : (s.withFlags x).plant = s.plant := rfl
@[simp] theorem State.withFlags_staging (s : State) (x : BitVec 7) : (s.withFlags x).staging = s.staging := rfl
@[simp] theorem State.withFlags_port (s : State) (x : BitVec 7) : (s.withFlags x).port = s.port := rfl
@[simp] theorem State.withFlags_queue (s : State) (x : BitVec 7) : (s.withFlags x).queue = s.queue := rfl
@[simp] theorem State.withFlags_hold (s : State) (x : BitVec 7) : (s.withFlags x).hold = s.hold := rfl
@[simp] theorem State.withFlags_bands (s : State) (x : BitVec 7) : (s.withFlags x).bands = s.bands := rfl
@[simp] theorem State.withFlags_mode (s : State) (x : BitVec 7) : (s.withFlags x).mode = s.mode := rfl
@[simp] theorem State.withFlags_waitQueue (s : State) (x : BitVec 7) : (s.withFlags x).waitQueue = s.waitQueue := rfl
@[simp] theorem State.withFlags_roundNumber (s : State) (x : BitVec 7) : (s.withFlags x).roundNumber = s.roundNumber := rfl
@[simp] theorem State.withFlags_switches (s : State) (x : BitVec 7) : (s.withFlags x).switches = s.switches := rfl
@[simp] theorem State.withFlags_lockout (s : State) (x : BitVec 7) : (s.withFlags x).lockout = s.lockout := rfl
@[simp] theorem State.withFlags_settings (s : State) (x : BitVec 7) : (s.withFlags x).settings = s.settings := rfl
@[simp] theorem State.withFlags_safety (s : State) (x : BitVec 7) : (s.withFlags x).safety = s.safety := rfl
@[simp] theorem State.withFlags_safetyLock (s : State) (x : BitVec 7) : (s.withFlags x).safetyLock = s.safetyLock := rfl
@[simp] theorem State.withFlags_link (s : State) (x : BitVec 7) : (s.withFlags x).link = s.link := rfl
@[simp] theorem State.withFlags_flags (s : State) (x : BitVec 7) : (s.withFlags x).flags = x := rfl
@[simp] theorem State.withFlags_mask (s : State) (x : BitVec 7) : (s.withFlags x).mask = s.mask := rfl
@[simp] theorem State.withFlags_resetLine (s : State) (x : BitVec 7) : (s.withFlags x).resetLine = s.resetLine := rfl
@[simp] theorem State.withFlags_confirmedNow (s : State) (x : BitVec 7) : (s.withFlags x).confirmedNow = s.confirmedNow := rfl
@[simp] theorem State.withFlags_pending (s : State) (x : BitVec 7) : (s.withFlags x).pending = s.pending := rfl

@[simp] theorem State.withMask_clock (s : State) (x : BitVec 7) : (s.withMask x).clock = s.clock := rfl
@[simp] theorem State.withMask_table (s : State) (x : BitVec 7) : (s.withMask x).table = s.table := rfl
@[simp] theorem State.withMask_plant (s : State) (x : BitVec 7) : (s.withMask x).plant = s.plant := rfl
@[simp] theorem State.withMask_staging (s : State) (x : BitVec 7) : (s.withMask x).staging = s.staging := rfl
@[simp] theorem State.withMask_port (s : State) (x : BitVec 7) : (s.withMask x).port = s.port := rfl
@[simp] theorem State.withMask_queue (s : State) (x : BitVec 7) : (s.withMask x).queue = s.queue := rfl
@[simp] theorem State.withMask_hold (s : State) (x : BitVec 7) : (s.withMask x).hold = s.hold := rfl
@[simp] theorem State.withMask_bands (s : State) (x : BitVec 7) : (s.withMask x).bands = s.bands := rfl
@[simp] theorem State.withMask_mode (s : State) (x : BitVec 7) : (s.withMask x).mode = s.mode := rfl
@[simp] theorem State.withMask_waitQueue (s : State) (x : BitVec 7) : (s.withMask x).waitQueue = s.waitQueue := rfl
@[simp] theorem State.withMask_roundNumber (s : State) (x : BitVec 7) : (s.withMask x).roundNumber = s.roundNumber := rfl
@[simp] theorem State.withMask_switches (s : State) (x : BitVec 7) : (s.withMask x).switches = s.switches := rfl
@[simp] theorem State.withMask_lockout (s : State) (x : BitVec 7) : (s.withMask x).lockout = s.lockout := rfl
@[simp] theorem State.withMask_settings (s : State) (x : BitVec 7) : (s.withMask x).settings = s.settings := rfl
@[simp] theorem State.withMask_safety (s : State) (x : BitVec 7) : (s.withMask x).safety = s.safety := rfl
@[simp] theorem State.withMask_safetyLock (s : State) (x : BitVec 7) : (s.withMask x).safetyLock = s.safetyLock := rfl
@[simp] theorem State.withMask_link (s : State) (x : BitVec 7) : (s.withMask x).link = s.link := rfl
@[simp] theorem State.withMask_flags (s : State) (x : BitVec 7) : (s.withMask x).flags = s.flags := rfl
@[simp] theorem State.withMask_mask (s : State) (x : BitVec 7) : (s.withMask x).mask = x := rfl
@[simp] theorem State.withMask_resetLine (s : State) (x : BitVec 7) : (s.withMask x).resetLine = s.resetLine := rfl
@[simp] theorem State.withMask_confirmedNow (s : State) (x : BitVec 7) : (s.withMask x).confirmedNow = s.confirmedNow := rfl
@[simp] theorem State.withMask_pending (s : State) (x : BitVec 7) : (s.withMask x).pending = s.pending := rfl

@[simp] theorem State.withResetLine_clock (s : State) (x : Bool) : (s.withResetLine x).clock = s.clock := rfl
@[simp] theorem State.withResetLine_table (s : State) (x : Bool) : (s.withResetLine x).table = s.table := rfl
@[simp] theorem State.withResetLine_plant (s : State) (x : Bool) : (s.withResetLine x).plant = s.plant := rfl
@[simp] theorem State.withResetLine_staging (s : State) (x : Bool) : (s.withResetLine x).staging = s.staging := rfl
@[simp] theorem State.withResetLine_port (s : State) (x : Bool) : (s.withResetLine x).port = s.port := rfl
@[simp] theorem State.withResetLine_queue (s : State) (x : Bool) : (s.withResetLine x).queue = s.queue := rfl
@[simp] theorem State.withResetLine_hold (s : State) (x : Bool) : (s.withResetLine x).hold = s.hold := rfl
@[simp] theorem State.withResetLine_bands (s : State) (x : Bool) : (s.withResetLine x).bands = s.bands := rfl
@[simp] theorem State.withResetLine_mode (s : State) (x : Bool) : (s.withResetLine x).mode = s.mode := rfl
@[simp] theorem State.withResetLine_waitQueue (s : State) (x : Bool) : (s.withResetLine x).waitQueue = s.waitQueue := rfl
@[simp] theorem State.withResetLine_roundNumber (s : State) (x : Bool) : (s.withResetLine x).roundNumber = s.roundNumber := rfl
@[simp] theorem State.withResetLine_switches (s : State) (x : Bool) : (s.withResetLine x).switches = s.switches := rfl
@[simp] theorem State.withResetLine_lockout (s : State) (x : Bool) : (s.withResetLine x).lockout = s.lockout := rfl
@[simp] theorem State.withResetLine_settings (s : State) (x : Bool) : (s.withResetLine x).settings = s.settings := rfl
@[simp] theorem State.withResetLine_safety (s : State) (x : Bool) : (s.withResetLine x).safety = s.safety := rfl
@[simp] theorem State.withResetLine_safetyLock (s : State) (x : Bool) : (s.withResetLine x).safetyLock = s.safetyLock := rfl
@[simp] theorem State.withResetLine_link (s : State) (x : Bool) : (s.withResetLine x).link = s.link := rfl
@[simp] theorem State.withResetLine_flags (s : State) (x : Bool) : (s.withResetLine x).flags = s.flags := rfl
@[simp] theorem State.withResetLine_mask (s : State) (x : Bool) : (s.withResetLine x).mask = s.mask := rfl
@[simp] theorem State.withResetLine_resetLine (s : State) (x : Bool) : (s.withResetLine x).resetLine = x := rfl
@[simp] theorem State.withResetLine_confirmedNow (s : State) (x : Bool) : (s.withResetLine x).confirmedNow = s.confirmedNow := rfl
@[simp] theorem State.withResetLine_pending (s : State) (x : Bool) : (s.withResetLine x).pending = s.pending := rfl

@[simp] theorem State.withConfirmedNow_clock (s : State) (x : Option RecordName) : (s.withConfirmedNow x).clock = s.clock := rfl
@[simp] theorem State.withConfirmedNow_table (s : State) (x : Option RecordName) : (s.withConfirmedNow x).table = s.table := rfl
@[simp] theorem State.withConfirmedNow_plant (s : State) (x : Option RecordName) : (s.withConfirmedNow x).plant = s.plant := rfl
@[simp] theorem State.withConfirmedNow_staging (s : State) (x : Option RecordName) : (s.withConfirmedNow x).staging = s.staging := rfl
@[simp] theorem State.withConfirmedNow_port (s : State) (x : Option RecordName) : (s.withConfirmedNow x).port = s.port := rfl
@[simp] theorem State.withConfirmedNow_queue (s : State) (x : Option RecordName) : (s.withConfirmedNow x).queue = s.queue := rfl
@[simp] theorem State.withConfirmedNow_hold (s : State) (x : Option RecordName) : (s.withConfirmedNow x).hold = s.hold := rfl
@[simp] theorem State.withConfirmedNow_bands (s : State) (x : Option RecordName) : (s.withConfirmedNow x).bands = s.bands := rfl
@[simp] theorem State.withConfirmedNow_mode (s : State) (x : Option RecordName) : (s.withConfirmedNow x).mode = s.mode := rfl
@[simp] theorem State.withConfirmedNow_waitQueue (s : State) (x : Option RecordName) : (s.withConfirmedNow x).waitQueue = s.waitQueue := rfl
@[simp] theorem State.withConfirmedNow_roundNumber (s : State) (x : Option RecordName) : (s.withConfirmedNow x).roundNumber = s.roundNumber := rfl
@[simp] theorem State.withConfirmedNow_switches (s : State) (x : Option RecordName) : (s.withConfirmedNow x).switches = s.switches := rfl
@[simp] theorem State.withConfirmedNow_lockout (s : State) (x : Option RecordName) : (s.withConfirmedNow x).lockout = s.lockout := rfl
@[simp] theorem State.withConfirmedNow_settings (s : State) (x : Option RecordName) : (s.withConfirmedNow x).settings = s.settings := rfl
@[simp] theorem State.withConfirmedNow_safety (s : State) (x : Option RecordName) : (s.withConfirmedNow x).safety = s.safety := rfl
@[simp] theorem State.withConfirmedNow_safetyLock (s : State) (x : Option RecordName) : (s.withConfirmedNow x).safetyLock = s.safetyLock := rfl
@[simp] theorem State.withConfirmedNow_link (s : State) (x : Option RecordName) : (s.withConfirmedNow x).link = s.link := rfl
@[simp] theorem State.withConfirmedNow_flags (s : State) (x : Option RecordName) : (s.withConfirmedNow x).flags = s.flags := rfl
@[simp] theorem State.withConfirmedNow_mask (s : State) (x : Option RecordName) : (s.withConfirmedNow x).mask = s.mask := rfl
@[simp] theorem State.withConfirmedNow_resetLine (s : State) (x : Option RecordName) : (s.withConfirmedNow x).resetLine = s.resetLine := rfl
@[simp] theorem State.withConfirmedNow_confirmedNow (s : State) (x : Option RecordName) : (s.withConfirmedNow x).confirmedNow = x := rfl
@[simp] theorem State.withConfirmedNow_pending (s : State) (x : Option RecordName) : (s.withConfirmedNow x).pending = s.pending := rfl

@[simp] theorem State.withPending_clock (s : State) (x : List Instr) : (s.withPending x).clock = s.clock := rfl
@[simp] theorem State.withPending_table (s : State) (x : List Instr) : (s.withPending x).table = s.table := rfl
@[simp] theorem State.withPending_plant (s : State) (x : List Instr) : (s.withPending x).plant = s.plant := rfl
@[simp] theorem State.withPending_staging (s : State) (x : List Instr) : (s.withPending x).staging = s.staging := rfl
@[simp] theorem State.withPending_port (s : State) (x : List Instr) : (s.withPending x).port = s.port := rfl
@[simp] theorem State.withPending_queue (s : State) (x : List Instr) : (s.withPending x).queue = s.queue := rfl
@[simp] theorem State.withPending_hold (s : State) (x : List Instr) : (s.withPending x).hold = s.hold := rfl
@[simp] theorem State.withPending_bands (s : State) (x : List Instr) : (s.withPending x).bands = s.bands := rfl
@[simp] theorem State.withPending_mode (s : State) (x : List Instr) : (s.withPending x).mode = s.mode := rfl
@[simp] theorem State.withPending_waitQueue (s : State) (x : List Instr) : (s.withPending x).waitQueue = s.waitQueue := rfl
@[simp] theorem State.withPending_roundNumber (s : State) (x : List Instr) : (s.withPending x).roundNumber = s.roundNumber := rfl
@[simp] theorem State.withPending_switches (s : State) (x : List Instr) : (s.withPending x).switches = s.switches := rfl
@[simp] theorem State.withPending_lockout (s : State) (x : List Instr) : (s.withPending x).lockout = s.lockout := rfl
@[simp] theorem State.withPending_settings (s : State) (x : List Instr) : (s.withPending x).settings = s.settings := rfl
@[simp] theorem State.withPending_safety (s : State) (x : List Instr) : (s.withPending x).safety = s.safety := rfl
@[simp] theorem State.withPending_safetyLock (s : State) (x : List Instr) : (s.withPending x).safetyLock = s.safetyLock := rfl
@[simp] theorem State.withPending_link (s : State) (x : List Instr) : (s.withPending x).link = s.link := rfl
@[simp] theorem State.withPending_flags (s : State) (x : List Instr) : (s.withPending x).flags = s.flags := rfl
@[simp] theorem State.withPending_mask (s : State) (x : List Instr) : (s.withPending x).mask = s.mask := rfl
@[simp] theorem State.withPending_resetLine (s : State) (x : List Instr) : (s.withPending x).resetLine = s.resetLine := rfl
@[simp] theorem State.withPending_confirmedNow (s : State) (x : List Instr) : (s.withPending x).confirmedNow = s.confirmedNow := rfl
@[simp] theorem State.withPending_pending (s : State) (x : List Instr) : (s.withPending x).pending = x := rfl

end Sys2Proof.Machine
end

