-- ==== Sys2Proof/Laws/Ops.lean ====
section
/-! SUPPORT. Laws/Ops.lean: one lemma for each shared operation, saying once everything it can do. -/

namespace Sys2Proof

/-! ### One leg's item -/

@[simp] theorem PerLeg.get_set_self {α : Type} (p : PerLeg α) (l : Leg) (x : α) : (p.set l x).get l = x := by
  fin_cases l <;> rfl

theorem PerLeg.get_set_ne {α : Type} (p : PerLeg α) {l k : Leg} (x : α) (h : k ≠ l) : (p.set l x).get k = p.get k := by
  fin_cases l <;> fin_cases k <;> first | rfl | exact absurd rfl h

@[simp] theorem PerLeg.get_ofFn {α : Type} (f : Leg → α) (l : Leg) : (PerLeg.ofFn f).get l = f l := by
  fin_cases l <;> rfl

theorem PerLeg.ext_get {α : Type} {p q : PerLeg α} (h : ∀ l, p.get l = q.get l) : p = q := by
  obtain ⟨p0, p1, p2, p3⟩ := p
  obtain ⟨q0, q1, q2, q3⟩ := q
  have h0 : p0 = q0 := h 0
  have h1 : p1 = q1 := h 1
  have h2 : p2 = q2 := h 2
  have h3 : p3 = q3 := h 3
  rw [h0, h1, h2, h3]

/-- What holds of one leg after another holds of all four. -/
theorem all_allLegs {f : Leg → Bool} : allLegs.all f = true ↔ ∀ l, f l = true := by
  constructor
  · intro h l
    have hm : l ∈ allLegs := by fin_cases l <;> simp [allLegs]
    exact List.all_eq_true.mp h l hm
  · intro h
    exact List.all_eq_true.mpr fun l _ => h l

/-- The least of a list is one of the list. -/
theorem least_mem {α : Type} (lt : α → α → Bool) {xs : List α} {x : α} (h : least lt xs = some x) : x ∈ xs := by
  induction xs generalizing x with
  | nil => simp [least] at h
  | cons y ys ih =>
    simp only [least] at h
    split at h
    · simp_all
    · rename_i z hz
      split at h
      · obtain rfl := Option.some.inj h
        exact List.mem_cons_of_mem _ (ih hz)
      · obtain rfl := Option.some.inj h
        exact List.mem_cons_self

/-- A list that is not empty has a least. -/
theorem least_isSome {α : Type} (lt : α → α → Bool) {xs : List α} (h : xs ≠ []) : (least lt xs).isSome = true := by
  cases xs with
  | nil => exact absurd rfl h
  | cons y ys =>
    simp only [least]
    split
    · rfl
    · split <;> rfl

namespace Machine

/-! ### Slots -/

@[simp] theorem State.slot_setSlot_self (s : State) (n : SlotNo) (x : Slot) : (s.setSlot n x).slot n = x := by
  simp [State.setSlot, State.slot]

theorem State.slot_setSlot_ne (s : State) {n m : SlotNo} (x : Slot) (h : m ≠ n) : (s.setSlot n x).slot m = s.slot m := by
  have hv : n.val ≠ m.val := fun e => h (Fin.ext e.symm)
  simp [State.setSlot, State.slot, Vector.getElem_set_ne, hv]

@[simp] theorem State.record_putRecord_self (s : State) (n : SlotNo) (r : Record) (c : Bool) :
    (s.putRecord n r c).record n = some r := by
  simp [State.putRecord, State.record]

theorem State.record_putRecord_ne (s : State) {n m : SlotNo} (r : Record) (c : Bool) (h : m ≠ n) :
    (s.putRecord n r c).record m = s.record m := by
  simp [State.putRecord, State.record, State.slot_setSlot_ne s _ h]

/-- A slot keeps its generation when its record is rewritten. -/
theorem State.gen_putRecord (s : State) (n m : SlotNo) (r : Record) (c : Bool) :
    ((s.putRecord n r c).slot m).gen = (s.slot m).gen := by
  by_cases h : m = n
  · subst h; simp [State.putRecord]
  · simp [State.putRecord, State.slot_setSlot_ne s _ h]

/-! ### Switches -/

@[simp] theorem State.switch_setSwitch_self (s : State) (l : Leg) (x : LegSwitch) : (s.setSwitch l x).switch l = x := by
  simp [State.setSwitch, State.switch]

theorem State.switch_setSwitch_ne (s : State) {l k : Leg} (x : LegSwitch) (h : k ≠ l) :
    (s.setSwitch l x).switch k = s.switch k := by
  simp [State.setSwitch, State.switch, PerLeg.get_set_ne _ _ h]

/-- Everything a command can do: nothing, where it is refused or changes nothing; or another commanded state and a settle on
its own leg (R149, R150). -/
theorem State.command_cases (s : State) (l : Leg) (p : SwitchState) (k : Nat) :
    s.command l p k = s ∨
      ((s.switch l).commanded ≠ p ∧
        (p = .through ∨ (s.lockout = false ∧ s.otherOut l = false)) ∧
        s.command l p k = s.setSwitch l { s.switch l with commanded := p, settle := some k }) := by
  unfold State.command
  split
  · exact .inl rfl
  · rename_i h
    split
    · exact .inl rfl
    · rename_i hc
      refine .inr ⟨hc, ?_, rfl⟩
      by_cases hp : p = .through
      · exact .inl hp
      · simp only [ne_eq, hp, not_false_eq_true, true_and, not_or] at h
        exact .inr ⟨by simpa using h.1, by simpa using h.2⟩

/-! ### Due steps -/

/-- Where nothing is due, the block is as it stands. -/
theorem State.caughtUp_of_nothingDue {s : State} (h : s.nothingDue = true) : s.caughtUp = s := by
  simp only [State.nothingDue, Bool.and_eq_true, Bool.not_eq_true', all_allLegs] at h
  obtain ⟨⟨⟨⟨⟨⟨⟨⟨ht, hs⟩, hh⟩, hd⟩, he⟩, hr⟩, h2⟩, ha⟩, hw⟩ := h
  have h0 := hs 0
  have h1 := hs 1
  have h2' := hs 2
  have h3 := hs 3
  simp [State.caughtUp, State.takeTimeout, State.takeSettle, State.takeHold, State.takeDwell, State.takeEvaluation,
    State.takeStart, State.takeSecond, State.takeAging, State.takeWindow, ht, h0, h1, h2', h3, hh, hd, he, hr, h2, ha, hw]

/-- What a window start leaves of a leg's charge: nothing, or at most 1 on the held leg whose charge has reached its allowance
(R157, log entry 19). -/
theorem State.chargeAfterWindow_cases (s : State) (l : Leg) :
    s.chargeAfterWindow l = 0 ∨
      ((∃ d o, s.mode = .manual l d o) ∧ s.allowance l ≤ (s.switch l).charge ∧
        s.chargeAfterWindow l = min 1 (s.switch l).charge) := by
  unfold State.chargeAfterWindow
  split
  case h_1 k d o hm =>
    split
    · rename_i h
      obtain ⟨rfl, ha⟩ := h
      exact .inr ⟨⟨d, o, hm⟩, ha, rfl⟩
    · exact .inl rfl
  all_goals exact .inl rfl

/-- A hold is exhausted exactly where the held leg's charge has reached its allowance and no window start comes at the same tick
(R159, log entry 19). -/
theorem State.holdExhausted_iff (s : State) :
    s.holdExhausted = true ↔
      ∃ l d o, s.mode = .manual l d o ∧ s.allowance l ≤ (s.switch l).charge ∧ s.windowComes = false := by
  cases hm : s.mode <;> simp [State.holdExhausted, hm]

/-! ### Retirement -/

/-- Everything that a retirement does besides the quiet one: nothing, or the link evaluation on the leg that it names (R20,
R139). -/
theorem State.retire_eq {s : State} {n : SlotNo} {r : Record} (h : s.record n = some r) :
    s.retire n = (s.relinkLeg n r).elim (s.retireQuietly n) (s.retireQuietly n).evaluateLinks := by
  unfold State.retire
  rw [h]
  cases hl : s.relinkLeg n r <;> simp [hl]

/-- The retirement of an ingress record that no evaluation has just confirmed evaluates no link (R20). -/
theorem State.retire_of_ingress {s : State} {n : SlotNo} {r : Record} {g : IngressPart} (h : s.record n = some r)
    (hr : r.body = .ingress g) (hc : s.confirmedNow ≠ some (s.nameOf n)) : s.retire n = s.retireQuietly n := by
  simp [State.retire_eq h, State.relinkLeg, hr, hc]

/-! ### The transmit line -/

/-- The line is high while nothing is sent (R181). -/
theorem State.transmitLine_of_sending_nil {s : State} (h : s.sending = []) (k : Nat) : s.transmitLine k = true := by
  simp [State.transmitLine, h]

/-- A link that enters ALIGN sends nothing (R183, R194). -/
@[simp] theorem State.sending_withLink_initial (s : State) : (s.withLink Link.initial).sending = [] := rfl

/-! ### Requests -/

/-- Everything that the taking of a good frame can do: nothing where the link does not receive; else the owner's answer, with
its reply in progress (R186, R187). -/
theorem State.takeRequest_cases (s : State) (code tag : Byte) (restart : Bool) (serve : State → Answer) :
    (s.receives = false ∧ s.takeRequest code tag restart serve = s) ∨
      (s.receives = true ∧ s.takeRequest code tag restart serve = (serve s).begin code tag restart) := by
  unfold State.takeRequest
  cases h : s.receives <;> simp

/-- Every meaning answers a next state: no command of this block faults or is refused. -/
theorem exec_next (i : Instr) (s : State) : ∃ t, exec i s = .next t := by
  cases i with
  | lineReset => show ∃ t, execLineReset s = _; unfold execLineReset; split <;> exact ⟨_, rfl⟩
  | alignRun n => show ∃ t, execAlignRun n s = _; unfold execAlignRun; dsimp only; split <;> exact ⟨_, rfl⟩
  | alignIdleElapsed => show ∃ t, execAlignIdleElapsed s = _; unfold execAlignIdleElapsed; dsimp only; split <;> exact ⟨_, rfl⟩
  | alignComplete => show ∃ t, execAlignComplete s = _; unfold execAlignComplete; dsimp only; split <;> exact ⟨_, rfl⟩
  | lineBreak =>
    show ∃ t, execLineBreak s = _
    unfold execLineBreak
    dsimp only
    split
    · split <;> exact ⟨_, rfl⟩
    all_goals exact ⟨_, rfl⟩
  | replySent => show ∃ t, execReplySent s = _; unfold execReplySent; dsimp only; split <;> exact ⟨_, rfl⟩
  | receivedByte b => show ∃ t, execReceivedByte b s = _; unfold execReceivedByte; dsimp only; split <;> exact ⟨_, rfl⟩
  | _ => exact ⟨_, rfl⟩

end Machine

end Sys2Proof
end

