-- ==== Sys2Proof/Laws/PerInstr.lean ====
section
/-! SUPPORT. Laws/PerInstr.lean: facts about every command as syntax, one lemma per constructor. -/

namespace Sys2Proof

/-- The bytes after the sync of a frame: LEN, the body, the CRC. -/
theorem framed_length (body : List Byte) : (framed body).length = body.length + 3 := by
  simp [framed, crcBytes, bytes2]

end Sys2Proof

namespace Sys2Proof.Laws.ArgumentsFit

/-- The frame of a well-formed request begins with the sync byte and is 6 to 254 bytes long (R184, R195). A command that is
no request frame has none. -/
def Statement (i : Instr) : Prop :=
  ∀ frame, i.wellFormed = true → encodeRequest i = some frame →
    frame.head? = some requestSync ∧ 6 ≤ frame.length ∧ frame.length ≤ 254

/-- The statement for a command that is a request frame. -/
theorem of_body {i : Instr} {code tag : Byte} {args : List Byte} (h : requestBody i = some (code :: tag :: args)) :
    Statement i := by
  intro frame hw hf
  have hargs : i.arguments = args := by simp [Instr.arguments, h]
  have hfit : args.length ≤ 248 := by
    simp only [Instr.wellFormed, hargs, argumentsFit, Bool.and_eq_true, decide_eq_true_eq] at hw
    exact hw.1
  simp only [encodeRequest, h, Option.map_some, Option.some.injEq] at hf
  subst hf
  simp only [List.head?_cons, List.length_cons, framed_length, true_and]
  omega

/-- The statement for a command that is none. -/
theorem of_none {i : Instr} (h : requestBody i = none) : Statement i := by
  intro frame _ hf
  simp [encodeRequest, h] at hf

theorem powerOnReset : Statement .powerOnReset := of_none rfl
theorem lineReset : Statement .lineReset := of_none rfl
theorem resetRelease : Statement .resetRelease := of_none rfl
theorem millisecondTick (sense : PerLeg LinePair) : Statement (.millisecondTick sense) := of_none rfl
theorem secondTick : Statement .secondTick := of_none rfl
theorem agingTick : Statement .agingTick := of_none rfl
theorem windowStart : Statement .windowStart := of_none rfl
theorem settleExpiry (leg : Leg) : Statement (.settleExpiry leg) := of_none rfl
theorem dwellExpiry : Statement .dwellExpiry := of_none rfl
theorem holdExhausted : Statement .holdExhausted := of_none rfl
theorem reportArrival : Statement .reportArrival := of_none rfl
theorem dispatch : Statement .dispatch := of_none rfl
theorem roundStart : Statement .roundStart := of_none rfl
theorem roundEvaluation : Statement .roundEvaluation := of_none rfl
theorem alignRun (periods : Nat) : Statement (.alignRun periods) := of_none rfl
theorem alignIdleElapsed : Statement .alignIdleElapsed := of_none rfl
theorem alignComplete : Statement .alignComplete := of_none rfl
theorem lineBreak : Statement .lineBreak := of_none rfl
theorem framingError : Statement .framingError := of_none rfl
theorem frameTimeout : Statement .frameTimeout := of_none rfl
theorem frameDiscard : Statement .frameDiscard := of_none rfl
theorem unknownRequest (code : Byte) (tag : Byte) (args : List Byte) : Statement (.unknownRequest code tag args) := of_body rfl
theorem replySent : Statement .replySent := of_none rfl
theorem ident (tag : Byte) (args : List Byte) : Statement (.ident tag args) := of_body rfl
theorem restart (tag : Byte) (args : List Byte) : Statement (.restart tag args) := of_body rfl
theorem readClock (tag : Byte) (args : List Byte) : Statement (.readClock tag args) := of_body rfl
theorem setClock (tag : Byte) (args : List Byte) : Statement (.setClock tag args) := of_body rfl
theorem readSettings (tag : Byte) (args : List Byte) : Statement (.readSettings tag args) := of_body rfl
theorem configure (tag : Byte) (args : List Byte) : Statement (.configure tag args) := of_body rfl
theorem readSafety (tag : Byte) (args : List Byte) : Statement (.readSafety tag args) := of_body rfl
theorem setSafety (tag : Byte) (args : List Byte) : Statement (.setSafety tag args) := of_body rfl
theorem lockSafety (tag : Byte) (args : List Byte) : Statement (.lockSafety tag args) := of_body rfl
theorem mapOpen (tag : Byte) (args : List Byte) : Statement (.mapOpen tag args) := of_body rfl
theorem mapTaps (tag : Byte) (args : List Byte) : Statement (.mapTaps tag args) := of_body rfl
theorem mapStations (tag : Byte) (args : List Byte) : Statement (.mapStations tag args) := of_body rfl
theorem mapActivate (tag : Byte) (args : List Byte) : Statement (.mapActivate tag args) := of_body rfl
theorem mapDiscard (tag : Byte) (args : List Byte) : Statement (.mapDiscard tag args) := of_body rfl
theorem readLeg (tag : Byte) (args : List Byte) : Statement (.readLeg tag args) := of_body rfl
theorem readStations (tag : Byte) (args : List Byte) : Statement (.readStations tag args) := of_body rfl
theorem setZone (tag : Byte) (args : List Byte) : Statement (.setZone tag args) := of_body rfl
theorem clearZone (tag : Byte) (args : List Byte) : Statement (.clearZone tag args) := of_body rfl
theorem readZones (tag : Byte) (args : List Byte) : Statement (.readZones tag args) := of_body rfl
theorem lookup (tag : Byte) (args : List Byte) : Statement (.lookup tag args) := of_body rfl
theorem find (tag : Byte) (args : List Byte) : Statement (.find tag args) := of_body rfl
theorem findStation (tag : Byte) (args : List Byte) : Statement (.findStation tag args) := of_body rfl
theorem listChanged (tag : Byte) (args : List Byte) : Statement (.listChanged tag args) := of_body rfl
theorem acknowledge (tag : Byte) (args : List Byte) : Statement (.acknowledge tag args) := of_body rfl
theorem annotate (tag : Byte) (args : List Byte) : Statement (.annotate tag args) := of_body rfl
theorem pin (tag : Byte) (args : List Byte) : Statement (.pin tag args) := of_body rfl
theorem unpin (tag : Byte) (args : List Byte) : Statement (.unpin tag args) := of_body rfl
theorem retire (tag : Byte) (args : List Byte) : Statement (.retire tag args) := of_body rfl
theorem merge (tag : Byte) (args : List Byte) : Statement (.merge tag args) := of_body rfl
theorem reprobe (tag : Byte) (args : List Byte) : Statement (.reprobe tag args) := of_body rfl
theorem readProbe (tag : Byte) (args : List Byte) : Statement (.readProbe tag args) := of_body rfl
theorem pauseProbing (tag : Byte) (args : List Byte) : Statement (.pauseProbing tag args) := of_body rfl
theorem resumeProbing (tag : Byte) (args : List Byte) : Statement (.resumeProbing tag args) := of_body rfl
theorem legManual (tag : Byte) (args : List Byte) : Statement (.legManual tag args) := of_body rfl
theorem legRelease (tag : Byte) (args : List Byte) : Statement (.legRelease tag args) := of_body rfl
theorem releaseLockout (tag : Byte) (args : List Byte) : Statement (.releaseLockout tag args) := of_body rfl
theorem readEvents (tag : Byte) (args : List Byte) : Statement (.readEvents tag args) := of_body rfl
theorem clearEvents (tag : Byte) (args : List Byte) : Statement (.clearEvents tag args) := of_body rfl
theorem setEventMask (tag : Byte) (args : List Byte) : Statement (.setEventMask tag args) := of_body rfl
theorem receivedByte (byte : Byte) : Statement (.receivedByte byte) := of_none rfl
theorem selectAssertion : Statement .selectAssertion := of_none rfl
theorem reportBitReceived (bit : Bool) : Statement (.reportBitReceived bit) := of_none rfl

end Sys2Proof.Laws.ArgumentsFit
end

