-- ==== Sys2Proof/Laws/Requests.lean ====
section
/-! SUPPORT. Laws/Requests.lean: what a request does to a part that hears it, said once: the owner's answer, with its reply in
progress. -/

namespace Sys2Proof.Machine

/-- A part that hears has no step due and receives. -/
theorem State.hears_elim {s : State} (h : s.hears = true) : s.caughtUp = s ∧ s.receives = true := by
  simp only [State.hears, Bool.and_eq_true] at h
  exact ⟨State.caughtUp_of_nothingDue h.1, h.2⟩

/-- An answer OK becomes the reply in progress with its data. -/
theorem begin_answerOk (code tag : Byte) (data : List Byte) (t : State) :
    (answerOk data t).begin code tag false = t.replied code tag .ok data := rfl

/-- A refusal becomes the reply in progress with its status alone. -/
theorem begin_refuse (code tag : Byte) (st : Status) (t : State) :
    (refuse st t).begin code tag false = t.replied code tag st [] := rfl

/-- A refusal with data becomes the reply in progress with both. -/
theorem begin_refuseWith (code tag : Byte) (st : Status) (data : List Byte) (t : State) :
    (refuseWith st data t).begin code tag false = t.replied code tag st data := rfl

/-- A request whose meaning is the taking of its frame answers with its owner's answer where the part hears it. -/
theorem exec_of_hears {s : State} (h : s.hears = true) {i : Instr} {code tag : Byte} {restart : Bool}
    {owner : State → Answer} (hexec : exec i s = .next (s.caughtUp.serve i))
    (hserve : s.serve i = s.takeRequest code tag restart owner) :
    exec i s = .next ((owner s).begin code tag restart) := by
  obtain ⟨hs, hr⟩ := State.hears_elim h
  rw [hexec, hs, hserve]
  simp [State.takeRequest, hr]

/-- A name that picks a record passes the check of R3. -/
theorem State.checkName_of_picks {s : State} {num gen : Byte} {n : SlotNo} {r : Record} (h : s.picks num gen n r) :
    s.checkName num gen = .ok (n, r) := by
  obtain ⟨hn, hr, hg⟩ := h
  have hlt : num.toNat < 96 := by omega
  have hnum : (⟨num.toNat, hlt⟩ : SlotNo) = n := Fin.ext hn
  simp [State.checkName, hlt, hnum, hr, hg]

/-- A name that picks none fails it with the status of R3. -/
theorem State.checkName_of_namesNothing {s : State} {num gen : Byte} {status : Status} (h : s.namesNothing num gen status) :
    s.checkName num gen = .error status := by
  obtain ⟨hn, rfl⟩ | ⟨n, hn, rfl, hr⟩ := h
  · have hlt : ¬ num.toNat < 96 := by omega
    simp [State.checkName, hlt]
  · have hlt : num.toNat < 96 := by omega
    have hnum : (⟨num.toNat, hlt⟩ : SlotNo) = n := Fin.ext hn
    simp only [State.checkName, hlt, dif_pos, hnum]
    obtain hr | hg := hr
    · simp [hr]
    · cases s.record n <;> simp [hg]

end Sys2Proof.Machine
end

