-- ==== Sys2Proof/Tests/Slice0.lean ====
section
/-! SUPPORT. Tests/Slice0.lean: small tests whose expected results are the spec's worked examples and tables, the smoke tests
of WellFormed, and for each statement with hypotheses a state and operands that meet them (`witness_<the statement>`). -/

namespace Sys2Proof.Tests

open Sys2Proof Sys2Proof.Machine

set_option Elab.async false

/-! ### Small states -/

/-- The part after power-on, its link READY. -/
def ready : State := State.reset.withLink { Link.initial with phase := .ready .r115200 }

/-- A record in a slot, at generation 1. -/
def put (n : SlotNo) (r : Record) (s : State) : State := s.setSlot n { gen := 1, changed := false, record := some r }

/-- An echo record in a state, of one observation of station 7 at level code 60, with score 20. -/
def echo (st : RecordState) (leg : Leg) (position : Nat) : Record :=
  { newEcho Settings.default leg position 60 7 5 with state := st }

/-- An ingress record of band 3 in a state, with severity 50 and score 20. -/
def ingress (st : RecordState) (leg : Option Leg) : Record :=
  { newIngress Settings.default 3 50 5 with
    state := st
    body := .ingress { leg := leg, band := 3, attempts := 0, voidStreak := 0, lastRound := none, link := none } }

/-- Leg 1 of the Plant Map chapter's example before its re-activation, with the three stations of chapter 4. -/
def legOne : LegMap :=
  { vf := some 870, taps := [800, 1150, 1600, 2400, 2950]
    stations :=
      [{ handle := 1041, tap := 3, drop := 250, misplaced := none, dropEcho := none },
        { handle := 1042, tap := 4, drop := 300, misplaced := none, dropEcho := none },
        { handle := 1050, tap := 0, drop := 200, misplaced := none, dropEcho := none }]
    zone := none }

/-- A part that has the map of leg 1. -/
def mapped : State := ready.withPlant (State.reset.plant.set 1 legOne)

/-- A queue entry. -/
def queued (report : Report) (tag : StepTag) : QueuedReport := { report := report, stamps := { second := 9, tag := tag } }

/-- A state with one report queued. -/
def withReport (report : Report) (tag : StepTag) (s : State) : State := s.withQueue [queued report tag]

/-- A name at generation 1. -/
def named (n : SlotNo) : RecordName := { num := n, gen := 1 }

/-- The wait queue's entry of record 5. -/
def entryFive : WaitEntry := { name := named 5, excess := 50, second := 5 }

/-- A PROBE_WAIT record of band 3 waits in slot 5. -/
def waiting : State :=
  (((put 5 (ingress .probeWait none) ready).setBand 3 { baseline := some (-100), streak := 0 }).withWaitQueue [entryFive])

/-- The round of record 5, at the defaults, on all legs. -/
def roundFive : Round := State.reset.newRound (named 5)

/-- Record 5 is PROBING, in round 1. -/
def probing (m : Mode) : State :=
  (((put 5 (ingress .probing none) ready).setBand 3 { baseline := some (-100), streak := 0 }).withRoundNumber 1).withMode m

/-- A leg held at ATTEN by hand, its sense following. -/
def held (origin : Origin) (charge : Nat) (s : State) : State :=
  (s.setSwitch 1 { commanded := .atten, sensed := .atten, settle := none, faultLatch := false, charge := charge }).withMode
    (.manual 1 .atten origin)

/-- Record 5 waits, with this charge on leg 1. -/
def charged (charge : Nat) : State :=
  waiting.setSwitch 1 { commanded := .through, sensed := .through, settle := none, faultLatch := false, charge := charge }

/-- A round in progress whose leg 0 is not in its snapshot. -/
def partRound : Round := { roundFive with marks := ⟨.notInSnapshot, .visited, .visited, .visited⟩ }

/-- Round 1 at this step, leg 1 held out of THROUGH by it. -/
def legOut (r : Round) (step : ProbeStep) : State :=
  (probing (.active r step 3)).setSwitch 1
    { commanded := .atten, sensed := .atten, settle := none, faultLatch := false, charge := 110 }

/-- Round 1 latched at ISOLATE. -/
def isolateRound : Round := { partRound with snap := { partRound.snap with depth := .isolate, maxIsolateDwell := some 200 } }

/-- The record of round 1 is record 5, PROBING, with no leg. -/
def holdsProbing (s : State) (r : Round) : Bool :=
  s.round == some r && s.named r.record == some (ingress .probing none)

/-- Every sense pair reads THROUGH but leg 1's. -/
def senseOne (lines : LinePair) : PerLeg LinePair := ⟨⟨false, false⟩, lines, ⟨false, false⟩, ⟨false, false⟩⟩

/-- The bytes of the IDENT frame in the chapter Service Link and Events. -/
def identFrame : List Byte := [0xA5, 0x02, 0x01, 0x11, 0x93, 0xDD]

/-! ### WellFormed refuses the ill-formed -/

/-- R184: LEN is at most 250, so 249 argument bytes fit no frame. -/
theorem test_arguments_too_long : (Instr.lookup 0 (List.replicate 249 0)).wellFormed = false := by decide +kernel

/-- R184: 248 of them fit. -/
theorem test_arguments_longest : (Instr.lookup 0 (List.replicate 248 0)).wellFormed = true := by decide +kernel

/-- R186: IDENT's code is no unknown request. -/
theorem test_known_code_refused : (Instr.unknownRequest 0x01 0 []).wellFormed = false := by decide +kernel

/-- R182: a run of no period is no run. -/
theorem test_empty_run_refused : (Instr.alignRun 0).wellFormed = false := by decide +kernel

/-! ### Frames: section 10.4 -/

/-- R184: the CRC of the nine ASCII digits 1 to 9 is 0x29B1. -/
theorem test_crc_digits : crc16 [0x31, 0x32, 0x33, 0x34, 0x35, 0x36, 0x37, 0x38, 0x39] = 0x29B1#16 := by decide +kernel

/-- The example's IDENT frame is the encoding of IDENT with tag 0x11. -/
theorem test_ident_encoded : encodeRequest (.ident 0x11 []) = some identFrame := by decide +kernel

/-- And it decodes to it. -/
theorem test_ident_decoded : decodeRequestFrame identFrame = some (.ident 0x11 []) := by decide +kernel

/-- A flipped bit of the CRC decodes to nothing. -/
theorem test_ident_bad_crc : decodeRequestFrame [0xA5, 0x02, 0x01, 0x11, 0x93, 0xDC] = none := by decide +kernel

/-- The example's low run of 533 periods gives 115 200 bit/s. -/
theorem test_run_533 : rateOfRun 533 = some .r115200 := by decide +kernel

/-- R185: five character times in milliseconds, rounded up, at each rate (10 bits a character). -/
theorem test_gap_limits : allRates.map Rate.gapLimit = allRates.map fun r => (50000 + r.bitsPerSecond - 1) / r.bitsPerSecond := by
  decide +kernel

/-! ### The Echo Locator: sections 4.8 to 4.12 -/

/-- The distances of the worked cases. -/
theorem test_distances :
    [echoDistance 96 870 3, echoDistance 134 870 3, echoDistance 18 870 3, echoDistance 19 870 3, echoDistance 32 870 2,
      echoDistance 33 870 2, echoDistance 133 870 3] = [1528, 2133, 287, 302, 1019, 1051, 2117] := by decide +kernel

/-- The running positions of the worked cases. -/
theorem test_running_positions :
    [runningPosition 1122 1 1117, runningPosition 1100 20 1120, runningPosition 1140 4 1121, runningPosition 1110 1 1133] =
      [1120, 1101, 1136, 1122] := by decide +kernel

/-- The first report of section 4.8 opens a SUSPECT record at 1122 in slot 0. -/
def firstReport : State := (withReport (.burst 3 1041 96 48) .quiet mapped).dispatchHead

theorem test_first_report_opens :
    (firstReport.record 0).map (fun r => (r.state, r.echo?.map EchoPart.position)) = some (.suspect, some 1122) := by
  decide +kernel

/-- The second confirms it at 1120 with tap 1 and the spread [1117, 1122], and sets RECORD_CONFIRMED. -/
theorem test_second_report_confirms :
    let t := (withReport (.burst 3 1042 134 44) .quiet firstReport).dispatchHead
    (t.record 0).map (fun r => (r.state, r.score, r.severity, r.body)) =
        some (.confirmed, 40, 44, .echo
          { leg := 1, position := 1120, spreadMin := 1117, spreadMax := 1122, tap := some 1, stations := [1041, 1042]
            staleScale := false }) ∧
      t.flagSet flagConfirmed = true := by decide +kernel

/-- Section 4.9: at D = 18 the drop-echo mark is set; at D = 19 an observation at 2948 is made. -/
theorem test_edge_of_the_drop :
    ((withReport (.burst 3 1042 18 44) .quiet mapped).dispatchHead.locate 1042).map (fun x => x.station.dropEcho) =
        some (some 9) ∧
      (((withReport (.burst 3 1042 19 44) .quiet mapped).dispatchHead.record 0).bind Record.echo?).map EchoPart.position =
        some 2948 := by decide +kernel

/-- Section 4.10: one report is taken at position 0, the other is out of plant. -/
theorem test_node_port :
    (((withReport (.burst 2 1050 32 44) .quiet mapped).dispatchHead.record 0).bind Record.echo?).map EchoPart.position =
        some 0 ∧
      (withReport (.burst 2 1050 33 44) .quiet mapped).dispatchHead.record 0 = none := by decide +kernel

/-- Section 4.11: at 1120 both records are 20 away and the lower number is matched; at 1121 the nearer. Section 1.9's rule for
taps: of two equally near, the lower index. -/
theorem test_tie :
    let s := put 14 (echo .suspect 1 1140) (put 3 (echo .confirmed 1 1100) mapped)
    s.matchEcho { leg := 1, position := 1120, level := 44, handle := 1041, second := 9 } = some 3 ∧
      s.matchEcho { leg := 1, position := 1121, level := 44, handle := 1041, second := 9 } = some 14 ∧
      nearestTap [800, 1150, 1500] 1325 = some 1 ∧ nearestTap [] 1325 = none := by decide +kernel

/-! ### The table: sections 1.4 and 9.8 -/

/-- Three of the candidates of section 1.4: the CLEARED record with retention 12 goes before the one without. -/
theorem test_eviction_prefers_retention :
    ((put 19 { echo .cleared 0 10 with score := 0 } ready |> put 7 { echo .cleared 0 90 with score := 0, retention := some 12 })
      |> put 52 { echo .suspect 0 200 with score := 6 }).evictionChoice = some 7 := by decide +kernel

/-- Among SUSPECT records of one score the earlier first seen goes: 61 before 52. -/
theorem test_eviction_prefers_earlier :
    ((put 52 { echo .suspect 0 10 with score := 6, firstSeen := 91000 } ready)
      |> put 61 { echo .suspect 0 90 with score := 6, firstSeen := 90900 }).evictionChoice = some 61 := by decide +kernel

/-- Section 1.6's aging tick 1: a CONFIRMED record goes from 7 to 5; a DORMANT one at 2 is cleared with retention 3. -/
theorem test_aging :
    let t := ((put 12 { echo .confirmed 1 1120 with score := 7 } ready |> put 44 { ingress .dormant none with score := 2 }
      ).withSettings { Settings.default with retention := 3 }).ageTable
    (t.record 12).map Record.score = some 5 ∧
      (t.record 44).map (fun r => (r.state, r.score, r.retention)) = some (.cleared, 0, some 3) ∧
      t.flagSet flagCleared = true := by decide +kernel

/-- Section 9.8: the position of the merged record. -/
theorem test_merge_position :
    (mergedEcho { leg := 1, position := 1101, spreadMin := 1080, spreadMax := 1125, tap := some 1
                  stations := [1041, 1042, 1047], staleScale := false }
      { leg := 1, position := 1136, spreadMin := 1121, spreadMax := 1150, tap := none, stations := [1042, 1060]
        staleScale := false } 21 5) =
      { leg := 1, position := 1110, spreadMin := 1080, spreadMax := 1150, tap := some 1
        stations := [1041, 1042, 1047, 1060], staleScale := false } := by decide +kernel

/-! ### Rounds: sections 7.2 and 7.11 -/

/-- Section 7.2: record 17 joins at the head. -/
theorem test_queue_order :
    (insertEntry { name := ⟨17, 1⟩, excess := 96, second := 500002 }
      [{ name := ⟨41, 2⟩, excess := 96, second := 500002 }, { name := ⟨70, 9⟩, excess := 96, second := 500002 },
        { name := ⟨58, 3⟩, excess := 96, second := 500010 }, { name := ⟨9, 14⟩, excess := 60, second := 499990 }]).map
      (fun e => e.name.num) = [17, 41, 70, 58, 9] := by decide +kernel

/-- The sums of the worked round. -/
def workedRound : Round :=
  { roundFive with
    marks := ⟨.visited, .visited, .visited, .skipped⟩
    refSum := { count := 3, total := -124 }
    legSums := ⟨{ count := 2, total := -86 }, { count := 3, total := -190 }, { count := 2, total := -85 }, DwellSum.zero⟩ }

/-- The worked round is LOCATED on leg 1, with the drops 1, 22, 1 and none. -/
theorem test_worked_round :
    workedRound.judge (voidThreshold (-100) 40) = (.located, some 1) ∧
      PerLeg.ofFn workedRound.drop = ⟨some 1, some 22, some 1, none⟩ := by decide +kernel

/-! ### The queue and the bands: sections 3.8 and 6.11 -/

/-- HOLD is driven by the arrival that brings the count to 56, and released by the dispatch that brings it to 48. -/
theorem test_hold :
    holdAfterArrival false 55 = false ∧ holdAfterArrival false 56 = true ∧ holdAfterDispatch true 49 = true ∧
      holdAfterDispatch true 48 = false := by decide +kernel

/-- R182 and R181: 0x3C on the line is a start bit, two low, four high and two low data bits and a stop bit; then it rests high. -/
theorem test_alignment_character :
    (List.range 12).map (fun k => ((State.reset.withPhase (.sendingAlign .r19200)).transmitLine k)) =
      [false, false, false, true, true, true, true, false, false, true, true, true] := by decide +kernel

/-- Section 8.5's worked hold: at the tick of the window start the charge is made and then zeroed, and the hold goes on; where that
tick exhausts the hold the window start is taken first (log entry 19), and elsewhere the hold ends. -/
theorem test_hold_at_a_window_start :
    let run := fun (charge windowCount : Nat) =>
      let s := ((held .paused charge ready).withClock { ms := 999, seconds := 0, agingCount := 0, windowCount := windowCount })
      let t := (s.millisecond (senseOne ⟨false, true⟩)).caughtUp
      ((t.switch 1).charge, decide (t.mode = .paused))
    [run 1699 59, run 1999 59, run 1999 58] = [(0, false), (1, false), (2000, true)] := by decide +kernel

/-- R59 and R68: after a 65th bit the round's report is still pending, and goes with the select at its release. -/
theorem test_spoilt_select_is_pending :
    let s := (probing (.closing partRound)).withPort
      { counting := true, count := 64, bits := 0, pending := some { second := 0, tag := .refDwell 1 } }
    (s.receiveBit true).evaluationDue = false ∧ (s.receiveBit true).releaseSelect.evaluationDue = true := by decide +kernel

/-- The baseline of section 6.11: -120, then -120, -118 and -120 again. -/
theorem test_baseline :
    let after := fun (s : State) (p : Int) => s.quietBand 6 p 0
    let one := after ready (-120)
    let two := after one (-112)
    let three := after two (-88)
    let four := after three (-150)
    [one, two, three, four].map (fun s => (s.band 6).baseline) = [some (-120), some (-120), some (-118), some (-120)] := by
  decide +kernel

/-! ### The hypotheses of the statements can be met -/

theorem witness_StepTakesTheFrontCommand :
    State.reset.pending = [] ∧ (State.reset.withPending [.secondTick, .dispatch]).pending = .secondTick :: [.dispatch] :=
  ⟨rfl, rfl⟩

/-- Just before every clock step: 999 ms, counts one short of their limits. -/
def before : State := ready.withClock { ms := 999, seconds := 59, agingCount := 59, windowCount := 59 }

theorem witness_CommandsFindEveryDueStepTaken :
    ((before.withClock { ms := 1000, seconds := 59, agingCount := 59, windowCount := 59 }).settingsSound = true ∧
      isOwnStep .lineReset = false ∧ isOwnStep (.millisecondTick (senseOne ⟨false, false⟩)) = false) ∧
      before.secondDue = false ∧ before.agingDue = false ∧ before.windowDue = false ∧ (∀ l, before.settleDue l = false) ∧
      before.dwellDue = false ∧ before.holdExhausted = false ∧ before.roundStartDue = false ∧
      before.evaluationDue = false ∧ before.timeoutDue = false := by decide +kernel

theorem witness_LineResetDropsAndKeeps :
    ((ready.withResetLine true).nothingDue = true ∧ (ready.withResetLine true).resetLine = true) ∧
      (∀ s ∈ [ready, ready.withMode .paused, (ready.withMode .locked).withLockout true, (charged 1891).withMode .waitBudget,
          held .idle 0 ready, held .paused 0 ready, legOut partRound (.probe 1), legOut partRound (.settleIn 1),
          probing (.active partRound .ref 3)], s.nothingDue = true ∧ s.resetLine = false) ∧
      (((charged 1891).withMode .waitBudget).mode = .waitBudget ∧ (held .paused 0 ready).mode = .manual 1 .atten .paused ∧
        ((held .paused 0 ready).switch 1).commanded ≠ .through) ∧
      (holdsProbing (legOut partRound (.probe 1)) partRound = true ∧ ((legOut partRound (.probe 1)).switch 1).commanded ≠ .through) ∧
      (let r := { partRound with record := named 6 };
        (probing (.active r .ref 3)).round = some r ∧ (probing (.active r .ref 3)).named r.record = none) := by
  decide +kernel

/-- The window start is due, with record 5 waiting. -/
def windowAt (m : Mode) : State := (waiting.withMode m).withClock { ms := 0, seconds := 60, agingCount := 0, windowCount := 60 }

/-- A hold with this charge, its allowance 2000, at this clock. -/
def holdAt (charge ms windowCount : Nat) : State :=
  (held .idle charge ready).withClock { ms := ms, seconds := 0, agingCount := 0, windowCount := windowCount }

theorem witness_SecondTicksAndWindowStartsCount :
    1000 ≤ (ready.withClock { ms := 1000, seconds := 59, agingCount := 59, windowCount := 59 }).clock.ms ∧
      ((holdAt 2000 1000 58).holdExhausted = true ∧ (holdAt 1999 1000 58).holdExhausted = false ∧
        ∃ t, exec .holdExhausted (holdAt 2000 1000 58) = .next t) ∧
      ((holdAt 2000 1000 59).mode = .manual 1 .atten .idle ∧
        (holdAt 2000 1000 59).safety.budgetWindow ≤ (holdAt 2000 1000 59).clock.windowCount + 1) ∧
      ((holdAt 2000 0 60).windowDue = true ∧ (holdAt 2000 0 60).allowance 1 ≤ ((holdAt 2000 0 60).switch 1).charge) ∧
      ((holdAt 1999 0 60).windowDue = true ∧ ((holdAt 1999 0 60).switch 1).charge < (holdAt 1999 0 60).allowance 1) ∧
      ((windowAt .waitBudget).windowDue = true ∧ (windowAt .waitBudget).waitQueue ≠ [] ∧
        (windowAt .waitBudget).anySettle = false ∧ ∃ l, (windowAt .waitBudget).eligible l = true) ∧
      (windowAt .idle).windowDue = true ∧ ((windowAt .paused).windowDue = true ∧ (windowAt .paused).mode = .paused) := by
  refine ⟨by decide +kernel, ⟨by decide +kernel, by decide +kernel, ⟨_, rfl⟩⟩, ?_⟩
  decide +kernel

/-- A hold one millisecond short of its allowance, its settle about to expire. -/
def lastMillisecond : State :=
  ready.setSwitch 1 { commanded := .atten, sensed := .through, settle := some 1, faultLatch := false, charge := 1999 }
    |>.withMode (.manual 1 .atten .idle)

theorem witness_MillisecondTickCounts :
    lastMillisecond.nothingDue = true ∧ (∀ l, ¬ lastMillisecond.sensesMismatch (senseOne ⟨false, true⟩) l) ∧
      ∀ l, (lastMillisecond.switch l).settle = some 1 →
        (sensedOf ((senseOne ⟨false, true⟩).get l)).agrees (lastMillisecond.switch l).commanded = true := by
  unfold State.sensesMismatch
  decide +kernel

theorem witness_SenseMismatchLocksOut :
    (ready.nothingDue = true ∧ ready.sensesMismatch (senseOne ⟨true, false⟩) 1 ∧ ready.lockout = false ∧ ready.round = none ∧
      ∀ k, k < 1 → ¬ ready.sensesMismatch (senseOne ⟨true, false⟩) k) ∧
      ((legOut partRound (.probe 1)).nothingDue = true ∧ (legOut partRound (.probe 1)).sensesMismatch (senseOne ⟨true, true⟩) 1 ∧
        (legOut partRound (.probe 1)).lockout = false ∧ holdsProbing (legOut partRound (.probe 1)) partRound = true ∧
        ((legOut partRound (.probe 1)).switch 1).commanded ≠ .through ∧
        ∀ k, k < 1 → ¬ (legOut partRound (.probe 1)).sensesMismatch (senseOne ⟨true, true⟩) k) ∧
      (((ready.withLockout true).withMode .locked).nothingDue = true ∧
        ((ready.withLockout true).withMode .locked).sensesMismatch (senseOne ⟨true, true⟩) 1 ∧
        ((ready.withLockout true).withMode .locked).lockout = true ∧
        ((ready.withLockout true).withMode .locked).mode = .locked) := by
  unfold State.sensesMismatch
  decide +kernel

/-- One record for every clause of the aging statement, at the scores and retentions where the clauses meet. -/
def agingCases : List (SlotNo × Record) :=
  [(0, { echo .confirmed 0 10 with frozen := true }), (1, ingress .probeWait none), (2, ingress .probing none),
    (3, { echo .suspect 0 10 with score := 3 }), (4, { echo .suspect 0 10 with score := 2, pinned := true }),
    (5, { echo .suspect 0 10 with score := 2 }), (6, { ingress .dormant none with score := 3 }),
    (7, { ingress .confirmed (some 1) with score := 2 }), (8, { ingress .unresolved none with score := 1 }),
    (9, echo .cleared 0 10), (10, { echo .cleared 0 10 with retention := some 2 }),
    (11, { echo .cleared 0 10 with retention := some 1, pinned := true }),
    (12, { echo .cleared 0 10 with retention := some 1 })]

/-- The aging tick is due over those records. -/
def agingState : State :=
  (agingCases.foldl (fun s p => put p.1 p.2 s) ready).withClock { ms := 0, seconds := 60, agingCount := 60, windowCount := 0 }

theorem witness_AgingTickStepsEverySlot :
    (∀ k ∈ [0, 1, 2, 3], (ready.withSettings { Settings.default with agingCode := k }).settings.agingCode = k) ∧
      agingState.agingDue = true ∧ agingState.settings.agingStep = 2 ∧ agingState.record 95 = none ∧
      ∀ p ∈ agingCases, agingState.record p.1 = some p.2 := by decide +kernel

/-- Leg 1's settle has expired. -/
def settled (p : SwitchState) (x : Sensed) (s : State) : State :=
  s.setSwitch 1 { commanded := p, sensed := x, settle := some 0, faultLatch := false, charge := 0 }

theorem witness_SettleChecksPassOrFail_agree :
    (∀ m ∈ ([.active roundFive (.settleIn 1) 10, .active roundFive (.settleOut 1) 10, .idle, .waitBudget, .paused,
        .closing roundFive, .manual 1 .atten .idle] : List Mode),
      (settled .atten .atten (probing m)).settleDue 1 = true ∧
        ((settled .atten .atten (probing m)).switch 1).sensed.agrees
          ((settled .atten .atten (probing m)).switch 1).commanded = true ∧
        (settled .atten .atten (probing m)).mode = m) ∧
      let last : Round := { roundFive with marks := ⟨.visited, .visited, .skipped, .notInSnapshot⟩ }
      ∀ k, 1 < k → last.marks.get k ≠ .notYetVisited := by decide +kernel

/-- Leg 1's SETTLE_OUT ends with two legs left, at these charges. -/
def settledOut (two three : Nat) : State :=
  (((settled .through .through (probing (.active roundFive (.settleOut 1) 10))).setSwitch 2
    { LegSwitch.initial with charge := two }).setSwitch 3 { LegSwitch.initial with charge := three })

/-- The next leg's visit of 110 ms just fits; it is refused and the one after it fits; both are refused. -/
theorem witness_SettleChecksPassOrFail_next :
    (∀ s ∈ [settledOut 1890 0, settledOut 1891 1890, settledOut 1891 1891],
      s.settleDue 1 = true ∧ (s.switch 1).sensed.agrees (s.switch 1).commanded = true ∧ s.lockout = false ∧
        (∀ k, (s.switch k).commanded = .through) ∧ s.mode = .active roundFive (.settleOut 1) 10) ∧
      (roundFive.marks.get 2 = .notYetVisited ∧ roundFive.marks.get 3 = .notYetVisited ∧ roundFive.snap.visitCost = 110) ∧
      ¬ (settledOut 1890 0).allowance 2 < ((settledOut 1890 0).switch 2).charge + 110 ∧
      ((settledOut 1891 1890).allowance 2 < ((settledOut 1891 1890).switch 2).charge + 110 ∧
        ¬ (settledOut 1891 1890).allowance 3 < ((settledOut 1891 1890).switch 3).charge + 110) ∧
      (settledOut 1891 1891).allowance 3 < ((settledOut 1891 1891).switch 3).charge + 110 := by decide +kernel

theorem witness_SettleChecksPassOrFail_disagree :
    (∀ lockout : Bool,
      ((settled .through .atten (probing .idle)).withLockout lockout).settleDue 1 = true ∧
        (((settled .through .atten (probing .idle)).withLockout lockout).switch 1).sensed.agrees
          (((settled .through .atten (probing .idle)).withLockout lockout).switch 1).commanded = false ∧
        ((settled .through .atten (probing .idle)).withLockout lockout).lockout = lockout) ∧
      let s := settled .atten .through (probing (.active partRound (.settleIn 1) 10))
      s.settleDue 1 = true ∧ (s.switch 1).sensed.agrees (s.switch 1).commanded = false ∧ s.lockout = false ∧
        holdsProbing s partRound = true := by decide +kernel

/-- The end of a dwell of 100 ms, with leg 1's charge. -/
def dwellEnd (step : ProbeStep) (position : SwitchState) (charge : Nat) : State :=
  (probing (.active { roundFive with marks := ⟨.skipped, .notYetVisited, .notYetVisited, .notYetVisited⟩ } step 100)).setSwitch 1
    { commanded := position, sensed := .through, settle := none, faultLatch := false, charge := charge }

/-- At a charge of 1890 a visit of 110 ms just fits the allowance of 2000 ms. -/
theorem witness_DwellExpiryMovesTheRoundOn :
    ((dwellEnd (.probe 1) .atten 1890).dwellDue = true ∧ ((dwellEnd (.probe 1) .atten 1890).switch 1).commanded ≠ .through) ∧
      ((dwellEnd .ref .through 1890).dwellDue = true ∧ (dwellEnd .ref .through 1890).lockout = false ∧
        (∀ k, ((dwellEnd .ref .through 1890).switch k).commanded = .through) ∧
        ((dwellEnd .ref .through 1890).switch 1).charge + roundFive.snap.visitCost ≤
          (dwellEnd .ref .through 1890).allowance 1) ∧
      ((dwellEnd .ref .through 1891).dwellDue = true ∧ (dwellEnd .ref .through 1891).lockout = false ∧
        (∀ k, ((dwellEnd .ref .through 1891).switch k).commanded = .through) ∧
        (dwellEnd .ref .through 1891).allowance 1 < ((dwellEnd .ref .through 1891).switch 1).charge + roundFive.snap.visitCost ∧
        ((dwellEnd .ref .through 1891).switch 2).charge + roundFive.snap.visitCost ≤
          (dwellEnd .ref .through 1891).allowance 2) ∧
      (roundFive.snap.maxIsolateDwell = none ∧ isolateRound.snap.maxIsolateDwell = some 200) ∧
      (let r : Round := { roundFive with marks := ⟨.skipped, .notYetVisited, .skipped, .notInSnapshot⟩ }
        let s := (dwellEnd .ref .through 1891).withMode (.active r .ref 100)
        s.dwellDue = true ∧ s.mode = .active r .ref 100 ∧
          ∀ l, r.marks.get l = .notYetVisited → s.allowance l < (s.switch l).charge + r.snap.visitCost) := by
  decide +kernel

/-- The rows of the start test, at the charges where a visit of 110 ms just fits and just does not. -/
theorem witness_StartTestTakesTheFirstRow :
    (ready.mode = .idle ∧ ready.waitQueue = []) ∧
      ((settled .through .through waiting).waitQueue ≠ [] ∧ ∃ l, ((settled .through .through waiting).switch l).settle ≠ none) ∧
      (let s := waiting.withSafety { Safety.default with allowance := ⟨109, 109, 109, 109⟩ };
        s.waitQueue ≠ [] ∧ (∀ l, (s.switch l).settle = none) ∧ ∀ l, s.eligible l = false) ∧
      ((charged 1891).mode = .idle ∧ (charged 1891).waitQueue ≠ [] ∧ (∀ l, ((charged 1891).switch l).settle = none) ∧
        ∃ l, (charged 1891).eligible l = true ∧
          (charged 1891).allowance l < ((charged 1891).switch l).charge + (charged 1891).snapshotNow.visitCost) ∧
      ((charged 1890).waitQueue ≠ [] ∧ (∀ l, ((charged 1890).switch l).settle = none) ∧
        (∃ l, (charged 1890).eligible l = true) ∧
        ∀ l, (charged 1890).eligible l = true →
          ((charged 1890).switch l).charge + (charged 1890).snapshotNow.visitCost ≤ (charged 1890).allowance l) := by
  decide +kernel

theorem witness_RoundStartLatchesTheRound :
    waiting.roundStartDue = true ∧ waiting.waitQueue = entryFive :: [] ∧
      waiting.named entryFive.name = some (ingress .probeWait none) ∧ (ingress .probeWait none).state = .probeWait ∧
      waiting.recordsSound = true := by
  decide +kernel

/-- A round of four visited legs with these counts and drops against a REF sum of two reports at 0. -/
def judged (ref : DwellSum) (count : Nat) (drops : PerLeg Int) : Round :=
  { roundFive with
    marks := ⟨.visited, .visited, .visited, .visited⟩, refSum := ref
    legSums := PerLeg.ofFn fun l => { count := count, total := -(count * drops.get l) } }

/-- The sums, and the drop of each clause. -/
theorem witness_RoundsAreJudged_figures :
    DwellSum.zero.count = 0 ∧ ({ count := 3, total := -124 } : DwellSum).count ≠ 0 ∧
      roundFive.marks.get 0 ≠ .visited ∧ (judged DwellSum.zero 2 ⟨0, 0, 0, 0⟩).refSum.count = 0 ∧
      (let r := judged { count := 2, total := 0 } 2 ⟨12, 0, 0, 0⟩;
        r.marks.get 0 = .visited ∧ r.dropAbsent.get 0 = false ∧ r.refSum.mean = some 0 ∧
          (r.legSums.get 0).mean = some (-12)) := by decide +kernel

/-- The five outcomes, each at the edge of its condition: a REF mean one below the threshold, one report too few, drops of 12
and 4, two of 12, and one of 12 beside one of 5. -/
theorem witness_RoundsAreJudged_outcomes :
    (let r := judged { count := 1, total := -81 } 0 ⟨0, 0, 0, 0⟩;
      ∃ m, r.refSum.mean = some m ∧ m < -80) ∧
      (let r := judged { count := 1, total := -80 } 2 ⟨12, 4, 4, 4⟩;
        r.refSum.mean = some (-80) ∧ r.refSum.count < r.snap.minSamples) ∧
      (let r := judged { count := 2, total := 0 } 2 ⟨12, 4, 4, 4⟩;
        r.refSum.mean = some 0 ∧ ¬ r.refSum.count < r.snap.minSamples ∧
          (∀ l, r.probed l = true ∧ ¬ (r.legSums.get l).count < r.snap.minSamples) ∧
          PerLeg.ofFn r.drop = ⟨some 12, some 4, some 4, some 4⟩ ∧ r.snap.dropHigh = 12 ∧ r.snap.dropLow = 4) ∧
      PerLeg.ofFn (judged { count := 2, total := 0 } 2 ⟨12, 12, 4, 4⟩).drop = ⟨some 12, some 12, some 4, some 4⟩ ∧
      PerLeg.ofFn (judged { count := 2, total := 0 } 2 ⟨12, 5, 4, 4⟩).drop = ⟨some 12, some 5, some 4, some 4⟩ := by
  refine ⟨⟨-81, by decide +kernel, by decide⟩, ?_⟩
  decide +kernel

/-- A drained round of record 5 to be evaluated, the record with this void streak and these attempts. -/
def closing (r : Round) (attempts voids : Nat) : State :=
  put 5
    { ingress .probing none with
      body := .ingress { leg := none, band := 3, attempts := attempts, voidStreak := voids, lastRound := none, link := none } }
    (probing (.closing r))

/-- VOID with a third and a fourth void round, THIN, MULTI and WEAK below and at the last attempt, and LOCATED. -/
theorem witness_EvaluationUpdatesTheRecord :
    ∀ p ∈ ([(judged { count := 1, total := -81 } 0 ⟨0, 0, 0, 0⟩, 0, 2, .void), (judged { count := 1, total := -81 } 0 ⟨0, 0, 0, 0⟩, 0, 3, .void),
        (judged { count := 1, total := 0 } 2 ⟨0, 0, 0, 0⟩, 6, 0, .thin), (judged { count := 1, total := 0 } 2 ⟨0, 0, 0, 0⟩, 7, 3, .thin),
        (judged { count := 2, total := 0 } 2 ⟨12, 12, 4, 4⟩, 7, 0, .multi), (judged { count := 2, total := 0 } 2 ⟨12, 5, 4, 4⟩, 0, 0, .weak),
        (workedRound, 2, 0, .located)] : List (Round × Nat × Nat × RoundOutcome)),
      (closing p.1 p.2.1 p.2.2.1).mode = .closing p.1 ∧ (closing p.1 p.2.1 p.2.2.1).evaluationDue = true ∧
        (closing p.1 p.2.1 p.2.2.1).recordsSound = true ∧
        ((closing p.1 p.2.1 p.2.2.1).named p.1.record).map Record.state = some .probing ∧
        (((closing p.1 p.2.1 p.2.2.1).named p.1.record).bind Record.ingress?).map IngressPart.band = some 3 ∧
        (p.1.judge (voidThreshold ((closing p.1 p.2.1 p.2.2.1).baselineOf 3) 40)).1 = p.2.2.2 := by decide +kernel

/-- A select with this many bits counted. -/
def counted (count : Nat) (s : State) : State :=
  s.withPort { counting := true, count := count, bits := 0, pending := if 64 ≤ count then some { second := 0, tag := .quiet } else none }

/-- A queue of so many reports. -/
def full (n : Nat) (s : State) : State := s.withQueue (List.replicate n (queued (.other 0) .quiet))

theorem witness_SelectsAreCountedAndJudged :
    (ready.nothingDue = true ∧ ready.port.counting = false) ∧
      (∀ n ∈ [0, 62, 63, 64, 65], (counted n ready).nothingDue = true ∧ (counted n ready).port.counting = true ∧
        (counted n ready).port.count = n) ∧ (counted 65 ready).port.pending ≠ none ∧
      ((counted 64 (full 63 ready)).nothingDue = true ∧ (counted 64 (full 63 ready)).port.pending = some { second := 0, tag := .quiet } ∧
        (counted 64 (full 63 ready)).queue.length < 64) ∧
      (counted 64 (full 64 ready)).nothingDue = true ∧ 64 ≤ (counted 64 (full 64 ready)).queue.length := by decide +kernel

theorem witness_SelectOfSixtyFourBitsIsQueued :
    (full 63 ready).nothingDue = true ∧ (full 63 ready).port.pending = none ∧ (full 63 ready).queue.length < 64 := by
  decide +kernel

/-- The bytes of a burst report, of a band report and of another kind; and the modes of the step tags. -/
theorem witness_ReportsAreReadAndTagged :
    ((0x13#8).toNat / 16 = 1 ∧ (0x20#8).toNat / 16 = 2 ∧ (0x30#8).toNat / 16 ≠ 1 ∧ (0x30#8).toNat / 16 ≠ 2) ∧
      (∀ m ∈ ([.active roundFive .ref 0, .active roundFive (.probe 1) 0, .active roundFive (.settleIn 1) 0,
        .active roundFive (.settleOut 1) 0, .closing roundFive, .manual 1 .atten .idle, .idle, .waitBudget, .paused, .locked] : List Mode),
        (probing m).mode = m ∧ ∀ l, ((probing m).switch l).settle = none) ∧
      ∃ l, ((settled .through .through ready).switch l).settle ≠ none := by decide +kernel

/-- The reports that have no effect, at the edges: rate 4, delay 384, band 16, delay 15, a level above ECHO_FLOOR. -/
theorem witness_DispatchTakesTheHead :
    (ready.nothingDue = true ∧ ready.queue = []) ∧
      (∀ x ∈ [queued (.other 0) .quiet, queued (.burst 4 1041 96 48) .quiet, queued (.burst 3 1041 384 48) .quiet,
          queued (.band 16 0) .quiet, queued (.burst 3 0 96 48) .quiet, queued (.burst 3 7 96 48) .quiet,
          queued (.burst 3 1041 15 48) (.legDwell 1 0 .atten), queued (.burst 3 1041 16 61) .quiet,
          queued (.band 3 0) .settle],
        (mapped.withQueue [x]).nothingDue = true ∧ (mapped.withQueue [x]).queue = x :: []) ∧
      (∀ l, ∀ y ∈ (mapped.plant.get l).stations, y.handle ≠ 7) ∧ mapped.settings.echoFloor < max 20 61 := by decide +kernel

theorem witness_EchoArithmeticRoundsHalfUp :
    ∀ p ∈ [(16, 600, 3), (383, 990, 0)], 16 ≤ p.1 ∧ p.1 ≤ 383 ∧ 600 ≤ p.2.1 ∧ p.2.1 ≤ 990 ∧ p.2.2 ≤ 3 := by decide

/-- A map of leg 1 in which station 1042 is marked misplaced and the leg has a work zone. -/
def zoned : State :=
  ready.withPlant (State.reset.plant.set 1
    { legOne with
      stations := legOne.stations.map fun x => { x with misplaced := if x.handle = 1042 then some 4 else none }
      zone := some { first := 1115, last := 1130 } })

/-- What every burst clause asks of the map and the queue. -/
def reportsFrom (s : State) (rate handle delay level : Nat) (tag : StepTag) (tap drop : Nat) : Bool :=
  s.nothingDue && s.queue == [queued (.burst rate handle delay level) tag] && rate ≤ 3 && delay ≤ 383 &&
    match s.locate handle with
    | none => false
    | some y => y.leg == 1 && y.vf == 870 && y.station.drop == drop && (s.plant.get y.leg).taps[y.station.tap]? == some tap

/-- A report in an ISOLATE dwell of its own leg, with the mark absent and present. -/
theorem witness_EchoReportsAreJudgedInOrder_misplaced :
    ∀ m ∈ [mapped, zoned],
      let s := withReport (.burst 3 1042 0 255) (.legDwell 1 1 .isolate) ((m.withRoundNumber 1).withMode (.closing roundFive))
      reportsFrom s 3 1042 0 255 (.legDwell 1 1 .isolate) 2950 300 = true ∧ s.roundNumber = 1 ∧ s.round ≠ none := by decide +kernel

/-- The clauses of an echo: within the drop (287 of 300), beyond the node (-51), clamped at the node (-19), in the work zone, at
its two edges and beside it. -/
theorem witness_EchoReportsAreJudgedInOrder_echo :
    (reportsFrom (withReport (.burst 3 1042 18 60) .quiet mapped) 3 1042 18 60 .quiet 2950 300 = true ∧
      echoDistance 18 870 3 ≤ 300 ∧ max 20 60 ≤ mapped.settings.echoFloor) ∧
      (reportsFrom (withReport (.burst 2 1050 33 44) .quiet mapped) 2 1050 33 44 .quiet 800 200 = true ∧
        200 < echoDistance 33 870 2 ∧ ((800 : Nat) : Int) + 200 - echoDistance 33 870 2 < -(mapped.settings.matchWindow : Int)) ∧
      (reportsFrom (withReport (.burst 2 1050 32 44) .quiet mapped) 2 1050 32 44 .quiet 800 200 = true ∧
        -(mapped.settings.matchWindow : Int) ≤ ((800 : Nat) : Int) + 200 - echoDistance 32 870 2 ∧
        (mapped.plant.get 1).zone = none) ∧
      (reportsFrom (withReport (.burst 3 1041 96 48) .quiet zoned) 3 1041 96 48 .quiet 2400 250 = true ∧
        (zoned.plant.get 1).zone = some { first := 1115, last := 1130 } ∧ 1115 ≤ 2400 + 250 - echoDistance 96 870 3 ∧
        2400 + 250 - echoDistance 96 870 3 ≤ 1130) ∧
      reportsFrom (withReport (.burst 3 1042 133 44) .quiet zoned) 3 1042 133 44 .quiet 2950 300 = true ∧
        1130 < 2950 + 300 - echoDistance 133 870 3 := by decide +kernel

/-- An observation on leg 0 by station 7. -/
def seenAt (position : Nat) : Observation := { leg := 0, position := position, level := 44, handle := 7, second := 9 }

/-- A table whose every slot holds a record that cannot be evicted. -/
def fullTable : State := ready.withTable (Vector.replicate 96 { gen := 1, changed := false, record := some (echo .confirmed 2 10) })

/-- That table with one CLEARED record among them, which can be evicted. -/
def evictable : State := put 7 (echo .cleared 2 10) fullTable

theorem witness_UnmatchedObservationOpensARecord :
    (ready.matchEcho (seenAt 100) = none ∧ (ready.plant.get 0).zone = none ∧ ready.isLowestFree 0 ∧
      2 ≤ ready.settings.confirmStations) ∧
      (let s := put 0 (echo .suspect 0 151) (ready.withSettings { Settings.default with confirmStations := 1 });
        s.matchEcho (seenAt 100) = none ∧ s.isLowestFree 1 ∧ s.settings.confirmStations = 1) ∧
      (fullTable.matchEcho (seenAt 100) = none ∧ (∀ n, fullTable.record n ≠ none) ∧ fullTable.evictionChoice = none) ∧
      (evictable.matchEcho (seenAt 100) = none ∧ (∀ n, evictable.record n ≠ none) ∧ evictable.evictionChoice = some 7 ∧
        2 ≤ evictable.settings.confirmStations) := by
  unfold State.isLowestFree
  decide +kernel

/-- A table with a CLEARED record to evict, and one with none but a SUSPECT one. -/
theorem witness_EvictionFollowsTheTwoClasses :
    (∃ m q, (put 7 (echo .cleared 0 10) ready).record m = some q ∧ q.state = .cleared ∧ q.pinned = false ∧ q.frozen = false) ∧
      ∀ m, ∀ q ∈ (put 7 (echo .suspect 0 10) ready).record m, ¬ (q.state = .cleared ∧ q.pinned = false ∧ q.frozen = false) := by
  refine ⟨⟨7, echo .cleared 0 10, by decide +kernel⟩, by decide +kernel⟩

/-- A record that stays SUSPECT on its own station's second report; one that a second station confirms; one CONFIRMED; one CLEARED. -/
theorem witness_MatchedObservationFeedsTheRecord :
    ∀ r ∈ [echo .suspect 0 100, { echo .suspect 0 100 with
          body := .echo { leg := 0, position := 100, spreadMin := 100, spreadMax := 100, tap := none, stations := [6], staleScale := false } },
        echo .confirmed 0 100, echo .cleared 0 100],
      (put 4 r ready).matchEcho (seenAt 150) = some 4 ∧ (put 4 r ready).record 4 = some r ∧ r.echo?.isSome = true := by decide +kernel

/-- An ingress record CONFIRMED on leg 1 beside an echo record there, and one of another leg. -/
theorem witness_LinksNameTheStrongestEcho :
    let s := put 9 (ingress .confirmed (some 2)) (put 5 (ingress .confirmed (some 1)) (put 3 (echo .confirmed 1 100) ready))
    s.strongestEcho 1 = some (named 3) ∧ s.record 5 = some (ingress .confirmed (some 1)) ∧
      s.record 9 = some (ingress .confirmed (some 2)) := by decide +kernel

/-- A quiet report of band 3 queued, over this baseline and streak. -/
def quietAt (base : Option Int) (streak : Nat) (power : Int) (s : State) : State :=
  withReport (.band 3 power) .quiet (s.setBand 3 { baseline := base, streak := streak })

/-- What every quiet clause asks: nothing due, the report at the head, the band's entry. -/
def quietWith (base : Option Int) (power : Int) (s : State) : Bool :=
  s.nothingDue && s.queue == [queued (.band (3 : Band).val power) .quiet] && (s.band 3).baseline == base

/-- A first report; the excesses 39, 16, 15, -15, -16 and -31 over a baseline, and a baseline at each end of its range. -/
theorem witness_QuietReportsMoveTheBaseline :
    quietWith none 300 (quietAt none 0 300 ready) = true ∧
      (∀ p ∈ ([39, 31, 16, 15, -15, -16, -31] : List Int), quietWith (some 0) p (quietAt (some 0) 2 p ready) = true ∧
        max (-240) (min p 240) - 0 < ready.settings.ingressExcess) ∧
      (quietWith (some 240) (-300) (quietAt (some 240) 2 (-300) ready) = true ∧
        max (-240) (min (-300) 240) - 240 < (ready.settings.ingressExcess : Int)) := by decide +kernel

/-- An excess of exactly INGRESS_EXCESS, at a streak one short of the limit and just at it; and a full table. -/
theorem witness_DetectionOpensAnIngressRecord :
    (quietWith (some 0) 40 (quietAt (some 0) 1 40 ready) = true ∧ quietWith (some 0) 40 (quietAt (some 0) 2 40 ready) = true ∧
      (ready.settings.ingressExcess : Int) ≤ max (-240) (min 40 240) - 0 ∧ min 8 (1 + 1) < ready.settings.ingressStreak ∧
      ready.settings.ingressStreak ≤ min 8 (2 + 1) ∧ (quietAt (some 0) 2 40 ready).isLowestFree 0 ∧
      ∀ n, (quietAt (some 0) 2 40 ready).record n = none) ∧
      (quietWith (some 0) 40 (quietAt (some 0) 2 40 fullTable) = true ∧
        (∀ n, (quietAt (some 0) 2 40 fullTable).record n ≠ none) ∧ (quietAt (some 0) 2 40 fullTable).evictionChoice = none ∧
        ∀ n, ∀ r ∈ (quietAt (some 0) 2 40 fullTable).record n, r.ingressOf 3 = false) ∧
      (quietWith (some 0) 40 (quietAt (some 0) 2 40 evictable) = true ∧
        (∀ n, (quietAt (some 0) 2 40 evictable).record n ≠ none) ∧
        (quietAt (some 0) 2 40 evictable).evictionChoice = some 7 ∧
        ∀ n, ∀ r ∈ (quietAt (some 0) 2 40 evictable).record n, r.ingressOf 3 = false) := by
  unfold State.isLowestFree
  decide +kernel

/-- A CONFIRMED, a DORMANT and a CLEARED record of the band, at a streak one short of the limit and just at it. -/
theorem witness_DetectionFeedsTheIngressRecord :
    ∀ r ∈ [ingress .confirmed (some 1), ingress .dormant none, ingress .cleared none], ∀ streak ∈ [1, 2],
      let s := quietAt (some 0) streak 40 (put 5 r ready)
      quietWith (some 0) 40 s = true ∧ s.record 5 = some r ∧ r.ingress?.map IngressPart.band = some 3 ∧
        (∀ m, ∀ q ∈ s.record m, m < 5 → q.ingressOf 3 = false) ∧ s.recordsSound = true ∧
        (s.settings.ingressExcess : Int) ≤ max (-240) (min 40 240) - 0 := by decide +kernel

/-- Reports of the round in ACTIVE and in CLOSING; and ignored ones: no round, an earlier round, another band. -/
theorem witness_DwellReportsAreSummed :
    (∀ m ∈ ([.active partRound (.probe 1) 3, .closing partRound] : List Mode), ∀ tag ∈ [StepTag.refDwell 1, .legDwell 1 1 .atten],
      (withReport (.band 3 (-300)) tag (probing m)).nothingDue = true ∧
        (withReport (.band 3 (-300)) tag (probing m)).queue = [queued (.band (3 : Band).val (-300)) tag] ∧
        (withReport (.band 3 (-300)) tag (probing m)).round = some partRound ∧
        (withReport (.band 3 (-300)) tag (probing m)).probedBand partRound = some 3 ∧
        (withReport (.band 3 (-300)) tag (probing m)).roundNumber = 1 ∧ partRound.marks.get 1 ≠ .notInSnapshot) ∧
      (ready.round = none ∧ (withReport (.band 3 0) (.refDwell 1) ready).nothingDue = true) ∧
      (withReport (.band 3 0) (.refDwell 0) (probing (.active partRound .ref 3))).roundNumber ≠ 0 ∧
      (withReport (.band 4 0) (.refDwell 1) (probing (.active partRound .ref 3))).probedBand partRound ≠ some 4 := by decide +kernel

/-- The link in a phase. -/
def inPhase (p : LinkPhase) : State := State.reset.withLink { Link.initial with phase := p }

/-- Runs at and beyond the edges of 4 % about 115 200: 513 and 555 periods are taken, 512 and 556 are not. -/
theorem witness_LinkAligns :
    (State.reset.nothingDue = true ∧ State.reset.link.phase = .measuring ∧ State.reset.resetLine = false ∧
      [512, 513, 555, 556, 0].map rateOfRun = [none, some .r115200, some .r115200, none, none]) ∧
      (ready.nothingDue = true ∧ ready.link.phase ≠ .measuring) ∧ (State.reset.withResetLine true).nothingDue = true ∧
      ∀ p ∈ [LinkPhase.rateTaken .r19200, .sendingAlign .r460800, .measuring],
        (inPhase p).nothingDue = true ∧ (inPhase p).link.phase = p ∧
      ((inPhase (.sendingAlign .r19200)).sending[0]? = some 0x3C#8 ∧
        (ready.replied 0x01#8 1 .ok []).link.phase = .ready .r115200 ∧
        (ready.replied 0x01#8 1 .ok []).link.reply.map Reply.frame = some (0x5A#8 :: framed [0x81#8, 1#8, 0#8])) := by
  decide +kernel

/-- A frame in reception: its bytes after the sync, and its inter-byte count. -/
def receiving (bytes : List Byte) (gap : Nat) (r : Rate) : State :=
  State.reset.withLink { phase := .ready r, frame := some { bytes := bytes, gap := gap }, reply := none }

/-- A reply in progress. -/
def replying (restart : Bool) : State :=
  State.reset.withLink { phase := .ready .r115200, frame := none, reply := some { frame := [], restart := restart } }

/-- Each limit of R185: the last count at which the frame stands, and the first at which it goes. -/
theorem witness_BreaksErrorsAndTimeoutsDropTheFrame :
    (∀ s ∈ [ready, replying false, receiving [2] 1 .r115200], s.nothingDue = true ∧ s.link.phase = .ready .r115200 ∧
      ∀ reply ∈ s.link.reply, reply.restart = false) ∧
      (State.reset.nothingDue = true ∧ State.reset.link.phase = .measuring) ∧
      ∀ p ∈ [(Rate.r19200, 3), (.r38400, 2), (.r57600, 1), (.r115200, 1), (.r230400, 1), (.r460800, 1)],
        (receiving [] p.2 p.1).link.phase = .ready p.1 ∧ (receiving [] p.2 p.1).timeoutDue = false ∧
          (receiving [] (p.2 + 1) p.1).timeoutDue = true := by decide +kernel

/-- The hunt, a LEN of 1, 2, 250 and 251, a byte in the body, the last byte of a frame that is bad. -/
theorem witness_BytesAreTakenByTheHunt :
    ((replying false).nothingDue = true ∧ (replying false).receives = false) ∧
      (ready.nothingDue = true ∧ ready.receives = true ∧ ready.link.frame = none ∧ (0xA5#8 : Byte) = 0xA5#8 ∧
        (0xA4#8 : Byte) ≠ 0xA5#8) ∧
      (∀ bytes ∈ ([[], [2], [2, 1, 0x11, 0x93], [250]] : List (List Byte)),
        (receiving bytes 1 .r115200).nothingDue = true ∧ (receiving bytes 1 .r115200).receives = true ∧
          (receiving bytes 1 .r115200).link.frame = some { bytes := bytes, gap := 1 }) ∧
      ((1#8).toNat < 2 ∧ 2 ≤ (2#8).toNat ∧ (250#8).toNat ≤ 250 ∧ 250 < (251#8).toNat) ∧
      (([2] : List Byte).length < (2#8).toNat + 2 ∧ ([2, 1, 0x11, 0x93] : List Byte).length = (2#8).toNat + 2 ∧
        ([2, 1, 0x11, 0x93] ++ [0xDC] : List Byte).drop ((2#8).toNat + 1) ≠
          crcBytes (([2, 1, 0x11, 0x93] : List Byte).take ((2#8).toNat + 1))) := by decide +kernel

/-- The frames of the shortest and of a longer request. -/
theorem witness_RequestFramesDecode :
    (Instr.ident 0x11 []).wellFormed = true ∧ encodeRequest (.ident 0x11 []) = some identFrame ∧
      decodeRequestFrame identFrame = some (.ident 0x11 []) ∧
      (Instr.unknownRequest 0x7F 1 [2, 3]).wellFormed = true ∧ (encodeRequest (.unknownRequest 0x7F 1 [2, 3])).isSome = true := by
  decide +kernel

theorem witness_FramesArriveByteByByte :
    (Instr.ident 0x11 []).wellFormed = true ∧ encodeRequest (.ident 0x11 []) = some identFrame ∧ ready.hears = true ∧
      ready.link.frame = none := by decide +kernel

theorem witness_IdentAndRestartAnswer :
    ready.hears = true ∧ (ready.nothingDue = true ∧ ready.link.reply = none) ∧
      ∀ b : Bool, (replying b).nothingDue = true ∧ (replying b).link.reply = some { frame := [], restart := b } ∧
        (replying b).link.phase = .ready .r115200 := by decide +kernel

/-- Arguments one short and one long of what fits, for each length of the catalogue. -/
theorem witness_UnfitRequestsChangeNothing :
    (ready.hears = true ∧ namesRequest 0x00 = false ∧ namesRequest 0x4B = false) ∧
      (∀ i ∈ [Instr.ident 1 [0], .readLeg 1 [], .readLeg 1 [0, 0], .lookup 1 [0], .lookup 1 [0, 0, 0], .mapOpen 1 [0, 0],
          .setClock 1 [0, 0, 0], .setZone 1 [0, 0, 0, 0], .annotate 1 [0, 0, 0, 0, 0], .find 1 (List.replicate 9 0),
          .configure 1 (List.replicate 16 0), .configure 1 (List.replicate 18 0), .setSafety 1 (List.replicate 20 0),
          .mapTaps 1 [0], .mapTaps 1 (List.replicate 130 0), .mapStations 1 (List.replicate 4 0), .merge 1 [0, 0, 0]],
        (codeAndTag i).map Prod.snd = some 1 ∧ (codeAndTag i).any (fun p => namesRequest p.1) = true ∧ lengthFits i = false ∧
          i.wellFormed = true) ∧
      ((codeAndTag (.ident 1 [])).isSome = true ∧ (replying false).nothingDue = true ∧ (replying false).receives = false ∧
        State.reset.receives = false) := by decide +kernel

theorem witness_ClockAndEventRequests : ready.hears = true := by decide +kernel

theorem witness_SettingsRequestsClampAndAnswer :
    ready.hears = true ∧ Settings.default.inRange = true ∧
      (List.replicate 17 (0xFF#8 : Byte)).length = 17 ∧ (List.replicate 17 (0#8 : Byte)).length = 17 ∧
      (waiting.withMode .paused).hears = true := by decide +kernel

/-- The lock, and the states that SET_SAFETY finds: at rest, waiting, in a round at each depth, and holding a leg. -/
theorem witness_SafetyRequestsKeepTheirRules :
    ((ready.withSafetyLock true).hears = true ∧ (ready.withSafetyLock true).safetyLock = true) ∧
      (List.replicate 21 (0#8 : Byte)).length = 21 ∧
      (∀ s ∈ [ready, ready.withMode .paused, (charged 1891).withMode .waitBudget, probing (.closing roundFive) |> counted 64
          |> fun s => s.withPort { s.port with pending := some { second := 0, tag := .refDwell 1 } },
          probing (.active isolateRound .ref 3), legOut isolateRound (.probe 1), held .idle 0 ready, held .paused 0 ready,
          (held .idle 0 ready).withMode (.manual 1 .isolate .idle)], s.hears = true ∧ s.safetyLock = false) ∧
      (holdsProbing (legOut isolateRound (.probe 1)) isolateRound = true ∧ isolateRound.snap.depth = .isolate ∧
        ((legOut isolateRound (.probe 1)).switch 1).commanded ≠ .through) ∧ Safety.default.inRange = true ∧
      (let c := (readSafety (List.replicate 21 (0#8 : Byte))).getD Safety.default;
        c.isolatePermitted = false ∧ c.allowance.get 1 = 0 ∧ c.budgetWindow = 10) := by decide +kernel

/-- An open staging area of leg 0. -/
def staged (taps : List Nat) (stations : List Station) (s : State) : State :=
  s.withStaging (some { leg := 0, vf := 700, taps := taps, stations := stations })

/-- A station entry. -/
def station (handle tap : Nat) : Station := { handle := handle, tap := tap, drop := 40, misplaced := none, dropEcho := none }

/-- Each case of staging: closed, a distance that does not rise, one that is too great, a list that overruns. -/
theorem witness_StagingRequestsTakeTheFirstCase :
    (ready.hears = true ∧ ready.staging = none ∧ (staged [100] [] ready).hears = true ∧ (staged [100] [] ready).staging ≠ none) ∧
      (4 ≤ (4#8).toNat ∧ (3#8).toNat = (3 : Leg).val) ∧
      (let fits := fun (old new : List Nat) =>
          decide ((∀ d ∈ new, d ≤ 20000) ∧ (old.getLast?.toList ++ new).Pairwise (fun a b => a < b));
        fits [100] [100] = false ∧ fits [] [20001] = false ∧ fits [100] [101, 20000] = true ∧
          64 < ((List.range 64) ++ [100]).length ∧ fits (List.range 64) [100] = true ∧ ((List.range 63) ++ [100]).length ≤ 64) ∧
      (let fits := fun (g : List Station) (new : List (Nat × Nat × Nat)) =>
          decide ((∀ x ∈ new, x.1 ≠ 0 ∧ x.2.1 < 1 ∧ (x.2.2 ≤ 1000 ∨ x.2.2 = 65535) ∧ ∀ y ∈ g, y.handle ≠ x.1) ∧
            (new.map Prod.fst).Nodup);
        fits [] [(0, 0, 0)] = false ∧ fits [] [(1, 1, 0)] = false ∧ fits [] [(1, 0, 1001)] = false ∧
          fits [station 1 0] [(1, 0, 0)] = false ∧ fits [] [(1, 0, 0), (1, 0, 0)] = false ∧
          fits [station 1 0] [(65535, 0, 1000), (2, 0, 65535)] = true ∧ 512 < (List.replicate 512 (station 1 0)).length + 1) := by
  decide +kernel

/-- Leg 0 is to be activated over the map of leg 1: with a handle that is active there, and without; and with its velocity factor
unchanged and changed. -/
theorem witness_ActivationReplacesTheLeg :
    (ready.hears = true ∧ ready.staging = none) ∧
      (let s := staged [100] [station 9 0, station 1042 0] mapped;
        s.hears = true ∧ (∃ y ∈ (s.plant.get 1).stations, y.handle = 1042) ∧
          (∀ y ∈ (s.plant.get 0).stations, y.handle ≠ 1042) ∧ ∀ l : Leg, ∀ y ∈ (s.plant.get l).stations, y.handle ≠ 9) ∧
      (let s := staged [100] [station 9 0] (put 4 { echo .confirmed 0 100 with pinned := true } (put 3 (echo .confirmed 0 10) mapped));
        s.hears = true ∧ (∀ l : Leg, ∀ y ∈ (s.plant.get l).stations, y.handle ≠ 9) ∧ 1 + 3 ≤ 1024 ∧ s.recordsSound = true ∧
          s.record 3 = some (echo .confirmed 0 10)) ∧
      (let s := staged [100] (List.replicate 512 (station 9 0)) (ready.withPlant
          ⟨LegMap.initial, { legOne with stations := List.replicate 512 (station 1 0) }, { legOne with stations := [station 2 0] },
            LegMap.initial⟩);
        s.hears = true ∧ (∀ l : Leg, ∀ y ∈ (s.plant.get l).stations, y.handle ≠ 9) ∧ 1024 < 512 + s.stationsInAll) := by
  decide +kernel

/-- The refusals at their edges, and the states that a zone finds. -/
theorem witness_ZoneRequestsFreezeAndSkip :
    ready.hears = true ∧ 4 ≤ (4#8).toNat ∧ (20001 : Nat) = (0x4E#8).toNat * 256 + (0x21#8).toNat ∧
      (0x4E#8).toNat * 256 + (0x20#8).toNat ≤ 20000 ∧ (3#8).toNat = (3 : Leg).val ∧
      (probing (.active partRound (.settleIn 1) 3)).hears = true ∧
      (probing (.active partRound (.settleIn 1) 3)).round = some partRound ∧ (ready.withMode .paused).round = none ∧
      (put 3 (echo .confirmed 1 1120) ready).record 3 = some (echo .confirmed 1 1120) := by decide +kernel

theorem witness_MapAndProbeReadsChangeNothing :
    mapped.hears = true ∧ 4 ≤ (4#8).toNat ∧ (1#8).toNat = (1 : Leg).val ∧
      (∀ step ∈ [ProbeStep.ref, .settleIn 1, .probe 1, .settleOut 1], (legOut partRound step).hears = true ∧
        (legOut partRound step).round = some partRound) ∧
      (ready.round = none ∧ (held .paused 0 ready).hears = true ∧ (held .paused 0 ready).mode = .manual 1 .atten .paused) := by
  decide +kernel

/-- A table with an echo record in slot 3 and an ingress record in slot 5. -/
def twoRecords : State := put 5 (ingress .dormant none) (put 3 (echo .confirmed 1 1120) ready)

/-- A name picked, one out of range, a FREE slot, another generation; a filter refused and one accepted. -/
theorem witness_RecordReadsListWhatTheyAsk :
    (twoRecords.hears = true ∧ twoRecords.namesNothing 96 1 .badArgument ∧ twoRecords.namesNothing 95 1 .noRecord ∧
      twoRecords.namesNothing 3 2 .noRecord ∧ twoRecords.picks 3 1 3 (echo .confirmed 1 1120) ∧
      twoRecords.picks 5 1 5 (ingress .dormant none)) ∧
      ((mapped.plant.get 1).taps[1]? = some 1150 ∧ mapped.plantSound = true ∧ (mapped.locate 1042).isSome = true) ∧
      (let s := put 6
          { ingress .confirmed (some 1) with
            body := .ingress { leg := some 1, band := 3, attempts := 1, voidStreak := 0
                               lastRound := some { outcome := .located, drops := ⟨none, some 12, some (-3), none⟩ }
                               link := some (named 3) } } (twoRecords.setBand 3 { baseline := some (-100), streak := 2 });
        s.hears = true ∧ (s.band 3).baseline = some (-100) ∧ (s.record 6).isSome = true ∧
          (s.named (named 3)).isSome = true) ∧
      ((0x02#8).getLsbD 1 = true ∧ (1#8).toNat < 2 ∧ ¬ (2#8).toNat < 2) := by
  unfold State.namesNothing State.picks
  decide +kernel

theorem witness_FlagRequestsWriteOneField :
    twoRecords.hears = true ∧ twoRecords.namesNothing 96 1 .badArgument ∧ twoRecords.picks 3 1 3 (echo .confirmed 1 1120) := by
  unfold State.namesNothing State.picks
  decide +kernel

/-- A record of each kind of retirement: at rest, CONFIRMED of either kind, PROBE_WAIT, PROBING with a leg held out. -/
theorem witness_RetireFreesTheSlot :
    (twoRecords.hears = true ∧ twoRecords.picks 3 1 3 (echo .confirmed 1 1120) ∧ twoRecords.picks 5 1 5 (ingress .dormant none)) ∧
      ((put 5 (ingress .confirmed (some 1)) ready).hears = true ∧
        (put 5 (ingress .confirmed (some 1)) ready).picks 5 1 5 (ingress .confirmed (some 1)) ∧
        (put 5 (ingress .confirmed (some 1)) ready).confirmedNow ≠ some (named 5)) ∧
      (let s := (put 5 (ingress .confirmed (some 1)) ready).withConfirmedNow (some (named 5));
        s.hears = true ∧ s.picks 5 1 5 (ingress .confirmed (some 1)) ∧ s.confirmedNow = some (named 5)) ∧
      ((waiting.withMode .paused).hears = true ∧ (waiting.withMode .paused).picks 5 1 5 (ingress .probeWait none)) ∧
      (let s := (charged 1891).withMode .waitBudget;
        s.hears = true ∧ s.picks 5 1 5 (ingress .probeWait none) ∧ s.mode = .waitBudget ∧
          (s.waitQueue.filter fun x => x.name != named 5) = []) ∧
      (let s := (probing (.active partRound (.probe 1) 3)).setSwitch 1
          { commanded := .atten, sensed := .atten, settle := none, faultLatch := false, charge := 110 };
        s.hears = true ∧ s.picks 5 1 5 (ingress .probing none) ∧ s.round = some partRound ∧ partRound.record = named 5 ∧
          (s.switch 1).commanded ≠ .through) := by
  unfold State.picks
  decide +kernel

/-- R139: a RETIRE finds the evaluation of a round due; the evaluation comes first and confirms record 5 on leg 1. The link of
record 6 there, left behind by a change of severity, moves then; it stays where a millisecond tick lies between (R20, log entry
21). -/
theorem test_retire_with_the_evaluation :
    let other := { ingress .confirmed (some 1) with
      body := .ingress { leg := some 1, band := 4, attempts := 0, voidStreak := 0, lastRound := none, link := some (named 3) } }
    let s := put 6 other (put 4 { echo .confirmed 1 1136 with severity := 40 } (put 3 (echo .confirmed 1 1120) (closing workedRound 2 0)))
    let link := fun (t : State) => ((t.record 6).bind Record.ingress?).bind IngressPart.link
    let later := s.caughtUp.millisecond (PerLeg.ofFn fun _ => ⟨false, false⟩)
    [s.caughtUp.retire 5, later.retire 5].map (fun t => (link t, t.record 5, t.flagSet flagConfirmed)) =
      [(some (named 4), none, true), (some (named 3), none, true)] := by decide +kernel

/-- R127: the retirement that empties the wait queue of a sequencer in WAIT_BUDGET takes it to IDLE. -/
theorem test_retire_ends_the_wait :
    let s := (charged 1891).withMode .waitBudget
    s.startTest.mode = .waitBudget ∧ (s.retire 5).mode = .idle := by decide +kernel

/-- Two echo records of one leg, one of another leg, an ingress record. -/
theorem witness_MergeJoinsTwoEchoRecords :
    let s := put 9 (echo .suspect 2 10) (put 4 (echo .suspect 1 1136) twoRecords)
    s.hears = true ∧ s.namesNothing 96 1 .badArgument ∧ s.picks 3 1 3 (echo .confirmed 1 1120) ∧
      s.picks 4 1 4 (echo .suspect 1 1136) ∧ s.picks 5 1 5 (ingress .dormant none) ∧ s.picks 9 1 9 (echo .suspect 2 10) ∧
      s.recordsSound = true := by
  unfold State.namesNothing State.picks
  decide +kernel

/-- An echo record, a PROBE_WAIT record and each state from which a record is probed anew. -/
theorem witness_ReprobeQueuesTheRecord :
    (twoRecords.hears = true ∧ twoRecords.picks 3 1 3 (echo .confirmed 1 1120)) ∧
      ((waiting.withMode .paused).hears = true ∧ (waiting.withMode .paused).picks 5 1 5 (ingress .probeWait none)) ∧
      ∀ r ∈ [ingress .confirmed (some 1), ingress .unresolved none, ingress .dormant none, ingress .cleared (some 1)],
        (put 5 r ready).hears = true ∧ (put 5 r ready).picks 5 1 5 r ∧ (put 5 r ready).recordsSound = true := by
  unfold State.picks
  decide +kernel

/-- Each row of LEG_MANUAL, the charge one below the allowance and at it; and a hold to be ended. -/
theorem witness_ManualHoldsBeginAndEnd :
    (ready.hears = true ∧ 4 ≤ (4#8).toNat ∧ 2 ≤ (2#8).toNat ∧ (1#8).toNat = (1 : Leg).val) ∧
      ((ready.withMode .locked).hears = true ∧ ((charged 1891).withMode .waitBudget).hears = true ∧
        (probing (.active partRound .ref 3)).hears = true ∧ (probing (.active partRound .ref 3)).round ≠ none ∧
        (held .idle 0 ready).hears = true ∧ (held .idle 0 ready).mode = .manual 1 .atten .idle) ∧
      (ready.mode = .idle ∧ ready.safety.isolatePermitted = false ∧ (ready.withMode .paused).hears = true) ∧
      (let s := fun charge => ready.setSwitch 1
          { commanded := .through, sensed := .through, settle := none, faultLatch := false, charge := charge };
        (s 2000).hears = true ∧ (s 2000).allowance 1 ≤ ((s 2000).switch 1).charge ∧
          ((s 1999).switch 1).charge < (s 1999).allowance 1 ∧ (s 1999).legsSound = true) ∧
      (∀ l d o, ready.mode ≠ .manual l d o) ∧
      (((held .paused 1999 ready).switch 1).commanded ≠ .through ∧ (held .paused 1999 ready).hears = true ∧
        (held .paused 2000 ready).allowance 1 ≤ ((held .paused 2000 ready).switch 1).charge ∧
        (held .paused 2000 ready).clock.windowCount + 0 < (held .paused 2000 ready).safety.budgetWindow) := by
  refine ⟨by decide +kernel, by decide +kernel, by decide +kernel, by decide +kernel, fun l d o h => ?_, by decide +kernel⟩
  exact absurd h (by rw [show ready.mode = .idle from rfl]; exact fun e => nomatch e)

/-- Each state of the sequencer, and a lockout with its switches agreeing and not. -/
theorem witness_SequencerRequestsFollowTheState :
    (∀ s ∈ [ready, ready.withMode .paused, (charged 1891).withMode .waitBudget, ready.withMode .locked, held .idle 0 ready],
      s.hears = true) ∧
      (let s := (probing (.active partRound (.settleIn 1) 3)).setSwitch 1
          { commanded := .atten, sensed := .through, settle := some 7, faultLatch := false, charge := 110 };
        s.hears = true ∧ s.round = some partRound ∧ (s.switch 1).commanded ≠ .through ∧
          s.named partRound.record = some (ingress .probing none)) ∧
      (probing (.active { partRound with record := named 6 } .ref 3)).named (named 6) = none ∧
      (let s := (ready.withMode .locked).withLockout true;
        s.hears = true ∧ s.lockout = true ∧ (∀ l, (s.switch l).sensed = .through)) ∧
      (let s := ((ready.withMode .locked).withLockout true).setSwitch 1
          { commanded := .through, sensed := .invalid, settle := none, faultLatch := true, charge := 0 };
        s.hears = true ∧ s.lockout = true ∧ ∃ l, (s.switch l).sensed ≠ .through) := by decide +kernel

/-- A sound state at work: a map with a zone, a staging area, an echo record CONFIRMED that an ingress record links to, a record
waiting and one in a round, a leg held out by it, a report queued, a reply in progress and a command that waits. -/
def atWork : State :=
  let linked := { ingress .confirmed (some 1) with
    body := .ingress { leg := some 1, band := 4, attempts := 1, voidStreak := 0
                       lastRound := some { outcome := .located, drops := ⟨none, some 12, some 0, none⟩ }, link := some (named 3) } }
  let wait := { ingress .probeWait none with
    body := .ingress { leg := none, band := 5, attempts := 0, voidStreak := 3, lastRound := none, link := none } }
  let records := put 7 wait (put 6 linked (put 3 (echo .confirmed 1 1120) (probing (.active partRound (.probe 1) 3))))
  (((((((records.setBand 4 { baseline := some 240, streak := 8 }).setBand 5 { baseline := some (-240), streak := 0 }).setSwitch 1
    { commanded := .atten, sensed := .atten, settle := none, faultLatch := false, charge := 2000 }).withPlant
      (State.reset.plant.set 1 legOne)).withWaitQueue [{ name := named 7, excess := 255, second := 9 }]).withQueue
        [queued (.band 3 (-40)) (.refDwell 1)]).withStaging
          (some { leg := 0, vf := 600, taps := [0, 20000], stations := [station 65535 1] })).withPending [.dispatch]

theorem witness_AtMostOneLegIsOut :
    atWork.legsSound = true ∧ atWork.isOut 1 = true ∧ ∃ t, step atWork = .next t := ⟨by decide +kernel, by decide +kernel, _, rfl⟩

theorem witness_ChargesStayWithinTheAllowance :
    atWork.chargesSound = true ∧ (atWork.switch 1).charge = atWork.allowance 1 ∧ ∃ t, step atWork = .next t :=
  ⟨by decide +kernel, by decide +kernel, _, rfl⟩

theorem witness_QueueBandsAndLinkStaySound :
    (∃ t, step atWork = .next t) ∧ atWork.queueSound = true ∧ atWork.bandsSound = true ∧ atWork.linkSound = true :=
  ⟨⟨_, rfl⟩, by decide +kernel⟩

theorem witness_SettingsAndClockStaySound :
    atWork.settingsSound = true ∧ atWork.clockSound = true ∧ ∃ t, step atWork = .next t :=
  ⟨by decide +kernel, by decide +kernel, _, rfl⟩

theorem witness_TheMapStaysSound : atWork.plantSound = true ∧ ∃ t, step atWork = .next t := ⟨by decide +kernel, _, rfl⟩

theorem witness_RecordsAndLinksStaySound : atWork.sound = true ∧ ∃ t, step atWork = .next t := ⟨by decide +kernel, _, rfl⟩

theorem witness_WaitQueueAndRoundStaySound :
    atWork.sound = true ∧ (∃ t, step atWork = .next t) ∧ atWork.waitQueue ≠ [] ∧ atWork.round ≠ none :=
  ⟨by decide +kernel, ⟨_, rfl⟩, by decide +kernel, by decide +kernel⟩

end Sys2Proof.Tests
end

section
/-! Proofs, family 1, first part: the least of a list, the records in order, the links, and what power-on leaves. -/

namespace Sys2Proof

/-- For a strict weak order, nothing in the list comes before its least, and over a list in ascending order of `R` every other
item either comes after it by the order or stands after it in the list. -/
theorem least_spec {α : Type} {lt : α → α → Bool} {R : α → α → Prop}
    (asymm : ∀ a b, lt a b = true → lt b a = false)
    (negTrans : ∀ a b c, lt a b = false → lt b c = false → lt a c = false)
    {xs : List α} (sorted : xs.Pairwise R) {x : α} (h : least lt xs = some x) :
    ∀ y ∈ xs, lt y x = false ∧ (y = x ∨ lt x y = true ∨ R x y) := by
  have irrefl : ∀ a, lt a a = false := fun a => by
    cases ha : lt a a with
    | false => rfl
    | true => exact ha.symm.trans (asymm a a ha)
  induction xs generalizing x with
  | nil => simp
  | cons head tail ih =>
    obtain ⟨headR, tailSorted⟩ := List.pairwise_cons.mp sorted
    cases ht : least lt tail with
    | none =>
      have hnil : tail = [] := by
        by_contra hne
        simpa [ht] using least_isSome lt hne
      obtain rfl : head = x := by simpa [least, ht] using h
      simp [hnil, irrefl]
    | some z =>
      cases hz : lt z head with
      | true =>
        obtain rfl : z = x := by simpa [least, ht, hz] using h
        intro y hy
        obtain rfl | hy := List.mem_cons.mp hy
        · exact ⟨asymm _ _ hz, .inr (.inl hz)⟩
        · exact ih tailSorted ht y hy
      | false =>
        obtain rfl : head = x := by simpa [least, ht, hz] using h
        intro y hy
        obtain rfl | hy := List.mem_cons.mp hy
        · exact ⟨irrefl _, .inl rfl⟩
        · exact ⟨negTrans _ _ _ (ih tailSorted ht y hy).1 hz, .inr (.inr (headR y hy))⟩

/-- A list has no least exactly where it is empty. -/
theorem least_eq_none_iff {α : Type} (lt : α → α → Bool) {xs : List α} : least lt xs = none ↔ xs = [] := by
  constructor
  · intro h
    by_contra hne
    simpa [h] using least_isSome lt hne
  · rintro rfl
    rfl

namespace Machine

/-! ### The records in ascending number -/

theorem State.mem_records {s : State} {p : SlotNo × Record} : p ∈ s.records ↔ s.record p.1 = some p.2 := by
  obtain ⟨n, r⟩ := p
  simp [State.records, allSlots]

theorem State.records_sorted (s : State) : s.records.Pairwise fun p q => p.1 < q.1 := by
  refine List.Pairwise.filterMap _ (fun m n hmn p hp q hq => ?_) (List.pairwise_lt_finRange 96)
  obtain ⟨_, _, rfl⟩ := Option.map_eq_some_iff.mp hp
  obtain ⟨_, _, rfl⟩ := Option.map_eq_some_iff.mp hq
  exact hmn

/-! ### The strongest echo (R27) -/

theorem State.mem_confirmedEchoes {s : State} {leg : Leg} {p : SlotNo × Record} :
    p ∈ s.records.filter (fun p => p.2.confirmedEchoOn leg) ↔
      s.record p.1 = some p.2 ∧ p.2.confirmedEchoOn leg = true := by
  rw [List.mem_filter, State.mem_records]

theorem State.strongestEcho_eq_none_iff (s : State) (leg : Leg) :
    s.strongestEcho leg = none ↔ ∀ n r, ¬ (s.record n = some r ∧ r.confirmedEchoOn leg = true) := by
  rw [State.strongestEcho, Option.map_eq_none_iff, least_eq_none_iff, List.eq_nil_iff_forall_not_mem]
  simp only [State.mem_confirmedEchoes, Prod.forall]

/-- The strongest echo is the present name of an echo record CONFIRMED on the leg, and every other one there is weaker, or as
strong and of a higher number. -/
theorem State.strongestEcho_eq_some {s : State} {leg : Leg} {name : RecordName} (h : s.strongestEcho leg = some name) :
    ∃ r, (s.record name.num = some r ∧ r.confirmedEchoOn leg = true) ∧ name.gen = (s.slot name.num).gen ∧
      ∀ m q, (s.record m = some q ∧ q.confirmedEchoOn leg = true) → m ≠ name.num →
        r.severity < q.severity ∨ (r.severity = q.severity ∧ name.num < m) := by
  obtain ⟨⟨n, r⟩, hleast, rfl⟩ := Option.map_eq_some_iff.mp h
  refine ⟨r, State.mem_confirmedEchoes.mp (least_mem _ hleast), rfl, fun m q hq hne => ?_⟩
  obtain ⟨hge, hcase⟩ := least_spec (R := fun p q : SlotNo × Record => p.1 < q.1)
    (fun a b hab => by simp only [decide_eq_true_eq, decide_eq_false_iff_not] at *; omega)
    (fun a b c hab hbc => by simp only [decide_eq_false_iff_not] at *; omega)
    (s.records_sorted.filter _) hleast (m, q) (State.mem_confirmedEchoes.mpr hq)
  have hle : r.severity ≤ q.severity := by simpa using hge
  obtain heq | hlt | hnum := hcase
  · exact absurd (congrArg Prod.fst heq) hne
  · exact .inl (by simpa using hlt)
  · obtain hlt | heq := Nat.lt_or_eq_of_le hle
    · exact .inl hlt
    · exact .inr ⟨heq, hnum⟩

/-! ### The evaluation of links (R27) -/

/-- A change made to every slot is made to each one. -/
theorem State.slot_map (s : State) (f : Slot → Slot) (n : SlotNo) : (s.withTable (s.table.map f)).slot n = f (s.slot n) := by
  simp [State.slot]

theorem State.slot_evaluateLinks (s : State) (leg : Leg) (n : SlotNo) :
    (s.evaluateLinks leg).slot n = (s.slot n).relink leg (s.strongestEcho leg) :=
  s.slot_map _ n

theorem State.evaluateLinks_eq_withTable (s : State) (leg : Leg) :
    s.evaluateLinks leg = s.withTable (s.evaluateLinks leg).table := rfl

/-- An ingress record CONFIRMED on the leg takes the target, and the changed flag is set if its link was another. -/
theorem Slot.relink_of_confirmed {x : Slot} {r : Record} {g : IngressPart} {leg : Leg} (target : Option RecordName)
    (hx : x.record = some r) (hr : r.body = .ingress g) (hs : r.state = .confirmed) (hl : g.leg = some leg) :
    x.relink leg target =
      { gen := x.gen, changed := x.changed || decide (g.link ≠ target)
        record := some { r with body := .ingress { g with link := target } } } := by
  by_cases ht : g.link = target
  · subst ht
    simp only [Slot.relink, hx, hr, ne_eq, not_true_eq_false, and_false, if_false, decide_false, Bool.or_false]
    rw [← hr, ← hx]
  · simp [Slot.relink, hx, hr, hs, hl, ht]

/-- A slot that holds no ingress record CONFIRMED on the leg stands. -/
theorem Slot.relink_of_not_confirmed {x : Slot} {leg : Leg} (target : Option RecordName)
    (h : ∀ r g, x.record = some r → r.body = .ingress g → r.state = .confirmed → g.leg ≠ some leg) :
    x.relink leg target = x := by
  cases hx : x.record with
  | none => simp [Slot.relink, hx]
  | some r =>
    cases hr : r.body with
    | echo e => simp [Slot.relink, hx, hr]
    | ingress g =>
      have hg : ¬ (r.state = .confirmed ∧ g.leg = some leg ∧ g.link ≠ target) :=
        fun ⟨hs, hl, _⟩ => h r g hx hr hs hl
      simp only [Slot.relink, hx, hr, if_neg hg]

/-- Settles O27: the strongest echo is the least of the records in ascending number, and a link evaluation acts slot by slot. -/
theorem linksNameTheStrongestEcho : Obligations.LinksNameTheStrongestEcho := by
  unfold Obligations.LinksNameTheStrongestEcho
  intro s leg
  refine ⟨s.strongestEcho_eq_none_iff leg, fun _ => State.strongestEcho_eq_some, s.evaluateLinks_eq_withTable leg,
    fun n => ⟨fun r g hrec hr hs hl => ?_, fun h => ?_⟩⟩
  · rw [s.slot_evaluateLinks, Slot.relink_of_confirmed _ hrec hr hs hl]
  · rw [s.slot_evaluateLinks, Slot.relink_of_not_confirmed _ h]

/-! ### Power-on (R33, R55) -/

theorem State.slot_reset (n : SlotNo) : State.reset.slot n = Slot.initial := by
  simp [State.slot, State.reset]

theorem State.band_reset (b : Band) : State.reset.band b = { baseline := none, streak := 0 } := by
  simp [State.band, State.reset]

theorem State.plant_reset (l : Leg) : State.reset.plant.get l = LegMap.initial := by
  fin_cases l <;> rfl

theorem State.switch_reset (l : Leg) : State.reset.switch l = LegSwitch.initial := by
  fin_cases l <;> rfl

/-- The empty map holds no handle. -/
theorem State.locate_reset (handle : Nat) : State.reset.locate handle = none := by
  have hleg : ∀ l, stationOn State.reset.plant handle l = none := fun l => by
    simp [stationOn, State.plant_reset, LegMap.initial]
  simp [State.locate, hleg]

/-- On a table of FREE slots the first allocation takes slot 0. -/
theorem State.allocationSlot_reset : State.reset.allocationSlot = some 0 := by
  have hfree : State.reset.lowestFree = some 0 := by
    have hslots : allSlots = 0 :: (List.finRange 95).map Fin.succ := List.finRange_succ
    rw [State.lowestFree, hslots]
    exact List.find?_cons_of_pos (by simp [State.record, State.slot_reset, Slot.initial])
  simp [State.allocationSlot, hfree]

theorem State.slot_allocateAt_self (s : State) (n : SlotNo) (r : Record) :
    (s.allocateAt n r).slot n = { gen := (s.slot n).gen + 1, changed := true, record := some r } :=
  s.slot_setSlot_self n _

/-- The first allocation gives slot 0 the generation 1. -/
theorem State.gen_allocateAt_reset (r : Record) : ((State.reset.allocateAt 0 r).slot 0).gen = 1 := by
  rw [State.slot_allocateAt_self, State.slot_reset]
  rfl

/-- Settles O4: the tables by their own lemmas, the other fields as the reset state writes them. -/
theorem powerOnLeaves : Obligations.PowerOnLeaves := by
  unfold Obligations.PowerOnLeaves
  have hswitch : ∀ l, (State.reset.switch l).commanded = .through ∧ (State.reset.switch l).settle = none ∧
      (State.reset.switch l).faultLatch = false ∧ (State.reset.switch l).charge = 0 := fun l => by
    simp [State.switch_reset, LegSwitch.initial]
  exact ⟨⟨State.slot_reset, State.allocationSlot_reset, State.gen_allocateAt_reset, rfl, rfl, rfl, rfl, rfl, rfl, rfl, rfl,
      rfl, rfl, rfl, rfl, rfl, rfl, rfl, rfl, rfl, rfl⟩,
    ⟨State.plant_reset, rfl, State.locate_reset⟩, ⟨rfl, rfl, rfl, rfl⟩, State.band_reset, ⟨rfl, rfl, rfl⟩,
    ⟨hswitch, rfl⟩, ⟨rfl, rfl⟩, ⟨rfl, rfl, rfl⟩⟩

end Machine
end Sys2Proof
end

section
/-! Proofs, family 1, second part: what an aging tick does to a record, to its slot, to the table, and then to the links. -/

namespace Sys2Proof.Machine

/-! ### One record and one slot at an aging tick (R14 to R17) -/

section Age
variable {c : Settings} {r : Record}

theorem Record.age_of_exempt (h : r.frozen = true ∨ r.state = .probeWait ∨ r.state = .probing) : r.age c = some r := by
  obtain h | h | h := h <;> simp [Record.age, h]

theorem Record.age_of_suspect (hf : r.frozen = false) (hs : r.state = .suspect) :
    r.age c =
      if r.score - c.agingStep = 0 ∧ r.pinned = false then none else some { r with score := r.score - c.agingStep } := by
  simp [Record.age, hf, hs]

theorem Record.age_of_decaying (hf : r.frozen = false)
    (hs : r.state = .confirmed ∨ r.state = .dormant ∨ r.state = .unresolved) :
    r.age c =
      if r.score - c.agingStep = 0 then some (r.clear c.retention) else some { r with score := r.score - c.agingStep } := by
  obtain hs | hs | hs := hs <;> simp [Record.age, hf, hs]

theorem Record.age_of_cleared_unretained (hf : r.frozen = false) (hs : r.state = .cleared) (hk : r.retention = none) :
    r.age c = some r := by
  simp [Record.age, hf, hs, hk]

theorem Record.age_of_cleared {k : Nat} (hf : r.frozen = false) (hs : r.state = .cleared) (hk : r.retention = some k) :
    r.age c = if k - 1 = 0 ∧ r.pinned = false then none else some { r with retention := some (k - 1) } := by
  simp [Record.age, hf, hs, hk]

theorem Record.state_ne_cleared_of_decaying (hs : r.state = .confirmed ∨ r.state = .dormant ∨ r.state = .unresolved) :
    r.state ≠ .cleared := by
  obtain hs | hs | hs := hs <;> simp [hs]

/-- What clearing writes, the link apart: R5 keeps the leg of an ingress record that goes to CLEARED from one of the three
decaying states, so that a record that is not frozen does not become so. -/
theorem Record.unlinked_clear (retention : Nat) (hf : r.frozen = false)
    (hs : r.state = .confirmed ∨ r.state = .dormant ∨ r.state = .unresolved) :
    (r.clear retention).unlinked =
      { r with
        state := .cleared, score := 0, acknowledged := false
        retention := if retention = 0 then none else some retention }.unlinked := by
  have hne := Record.state_ne_cleared_of_decaying hs
  cases hb : r.body with
  | echo e => simp [Record.clear, Record.enter, Record.unlinked, RecordBody.agree, RecordBody.stillFrozen, hne, hb, hf]
  | ingress g =>
    by_cases hc : r.state = .confirmed
    · simp [Record.clear, Record.enter, Record.unlinked, RecordBody.agree, RecordBody.stillFrozen, hb, hf, hc]
    · simp [Record.clear, Record.enter, Record.unlinked, RecordBody.agree, RecordBody.stillFrozen, hne, hb, hf, hc]

theorem Record.state_clear (retention : Nat) (r : Record) : (r.clear retention).state = .cleared := by
  by_cases h : r.state = .cleared
  · simp [Record.clear, Record.enter, h]
  · simp [Record.clear, Record.enter, h]

/-- A record that is cleared from CONFIRMED loses its link (R5). -/
theorem Record.link_clear_of_confirmed {retention : Nat} {g : IngressPart} (hs : r.state = .confirmed)
    (hb : (r.clear retention).body = .ingress g) : g.link = none := by
  cases hr : r.body with
  | echo e => simp [Record.clear, Record.enter, RecordBody.agree, hs, hr] at hb
  | ingress g₀ =>
    simp only [Record.clear, Record.enter, RecordBody.agree, hs, hr, reduceCtorEq, if_false, if_true,
      RecordBody.ingress.injEq] at hb
    rw [← hb]

theorem Slot.age_of_free {x : Slot} (hx : x.record = none) : x.age c = x := by
  simp [Slot.age, hx]

theorem Slot.age_of_retired {x : Slot} (hx : x.record = some r) (hr : r.age c = none) :
    x.age c = { x with changed := true, record := none } := by
  simp [Slot.age, hx, hr]

theorem Slot.age_of_kept {x : Slot} {r' : Record} (hx : x.record = some r) (hr : r.age c = some r') :
    x.age c = { x with changed := x.changed || r'.state != r.state, record := some r' } := by
  simp [Slot.age, hx, hr]

theorem Slot.gen_age (c : Settings) (x : Slot) : (x.age c).gen = x.gen := by
  cases hx : x.record with
  | none => rw [Slot.age_of_free hx]
  | some r =>
    cases hr : r.age c with
    | none => rw [Slot.age_of_retired hx hr]
    | some r' => rw [Slot.age_of_kept hx hr]

/-- A record that takes no other state keeps its slot's changed flag as it is. -/
theorem Slot.age_of_same_state {x : Slot} {r' : Record} (hx : x.record = some r) (hr : r.age c = some r')
    (hs : r'.state = r.state) : x.age c = { x with record := some r' } := by
  simp [Slot.age_of_kept hx hr, hs]

/-- A record that an aging tick leaves as it is leaves its slot so. -/
theorem Slot.age_of_unchanged {x : Slot} (hx : x.record = some r) (hr : r.age c = some r) : x.age c = x := by
  rw [Slot.age_of_same_state hx hr rfl, ← hx]

end Age

/-! ### What the link evaluations after it may move -/

/-- Two slots that differ at most in the link of an ingress record CONFIRMED in both and in the changed flag, which may only
be set. -/
def Slot.LinkMoved (x y : Slot) : Prop :=
  y = x ∨ ∃ r g target, x.record = some r ∧ r.body = .ingress g ∧ r.state = .confirmed ∧
    y = { x with changed := true, record := some { r with body := .ingress { g with link := target } } }

namespace Slot.LinkMoved
variable {x y z : Slot}

theorem trans (hxy : x.LinkMoved y) (hyz : y.LinkMoved z) : x.LinkMoved z := by
  obtain rfl | ⟨r, g, target, hx, hr, hs, rfl⟩ := hxy
  · exact hyz
  · obtain rfl | ⟨r', g', target', hy, hr', -, rfl⟩ := hyz
    · exact .inr ⟨r, g, target, hx, hr, hs, rfl⟩
    · obtain rfl := Option.some.inj hy
      obtain rfl := RecordBody.ingress.inj hr'
      exact .inr ⟨r, g, target', hx, hr, hs, rfl⟩

theorem of_relink (leg : Leg) (target : Option RecordName) (x : Slot) : x.LinkMoved (x.relink leg target) := by
  unfold Slot.relink
  split
  · exact .inl rfl
  next r hx =>
    split
    · exact .inl rfl
    next g hr =>
      split
      next h => exact .inr ⟨r, g, target, hx, hr, h.1, rfl⟩
      · exact .inl rfl

theorem gen_eq (h : x.LinkMoved y) : y.gen = x.gen := by
  obtain rfl | ⟨r, g, target, -, -, -, rfl⟩ := h <;> rfl

theorem eq_of_not_confirmed (h : x.LinkMoved y) (hx : ∀ r, x.record = some r → r.state ≠ .confirmed) : y = x := by
  obtain rfl | ⟨r, g, target, hr, -, hs, -⟩ := h
  · rfl
  · exact absurd hs (hx r hr)

theorem exists_unlinked_eq {r : Record} (h : x.LinkMoved y) (hx : x.record = some r) :
    ∃ r', y.record = some r' ∧ r'.unlinked = r.unlinked := by
  obtain rfl | ⟨r₀, g, target, hr, hb, -, rfl⟩ := h
  · exact ⟨r, hx, rfl⟩
  · obtain rfl := Option.some.inj (hx.symm.trans hr)
    exact ⟨_, rfl, by simp [Record.unlinked, hb]⟩

end Slot.LinkMoved

/-- A state that differs from another at most by the links of ingress records CONFIRMED in both and their changed flags. -/
def State.LinksMoved (s t : State) : Prop :=
  t = s.withTable t.table ∧ ∀ n, (s.slot n).LinkMoved (t.slot n)

namespace State.LinksMoved

theorem refl (s : State) : s.LinksMoved s := ⟨rfl, fun _ => .inl rfl⟩

theorem trans {s t u : State} (hst : s.LinksMoved t) (htu : t.LinksMoved u) : s.LinksMoved u := by
  obtain ⟨ht, hslot⟩ := hst
  obtain ⟨hu, hslot'⟩ := htu
  exact ⟨by rw [hu, ht]; rfl, fun n => (hslot n).trans (hslot' n)⟩

theorem of_evaluateLinks (s : State) (leg : Leg) : s.LinksMoved (s.evaluateLinks leg) :=
  ⟨s.evaluateLinks_eq_withTable leg, fun n => by rw [s.slot_evaluateLinks]; exact .of_relink leg _ _⟩

theorem of_relinkIfLeft (before : State) (leg : Leg) (s : State) : s.LinksMoved (before.relinkIfLeft leg s) := by
  unfold State.relinkIfLeft
  split
  · exact .of_evaluateLinks s leg
  · exact .refl s

theorem of_relinkIfLeft_foldl (before : State) (legs : List Leg) (s : State) :
    s.LinksMoved (legs.foldl (fun t leg => before.relinkIfLeft leg t) s) := by
  induction legs generalizing s with
  | nil => exact .refl s
  | cons leg legs ih => exact (of_relinkIfLeft before leg s).trans (ih _)

theorem flags_eq {s t : State} (h : s.LinksMoved t) : t.flags = s.flags := by rw [h.1]; rfl

end State.LinksMoved

/-! ### The table at an aging tick -/

theorem State.flagSet_raise_self {n : Nat} (hn : n < 7) (s : State) : (s.raise n).flagSet n = true := by
  simp [State.raise, State.flagSet, hn]

@[simp] theorem State.slot_raise (s : State) (m : Nat) (n : SlotNo) : (s.raise m).slot n = s.slot n := rfl

/-- The table of an aging tick before the links are evaluated: every slot has taken its own step, and RECORD_CLEARED is set
if a record was cleared. -/
def State.stepAges (s : State) : State :=
  let stepped := s.withTable (s.table.map (Slot.age s.settings))
  if allSlots.any fun n => enteredCleared (s.slot n) (stepped.slot n) then stepped.raise flagCleared else stepped

theorem State.linksMoved_ageTable (s : State) : s.stepAges.LinksMoved s.ageTable :=
  .of_relinkIfLeft_foldl s allLegs s.stepAges

theorem State.slot_stepAges (s : State) (n : SlotNo) : s.stepAges.slot n = (s.slot n).age s.settings := by
  unfold State.stepAges
  dsimp only
  split
  · rw [State.slot_raise, State.slot_map]
  · rw [State.slot_map]

theorem State.stepAges_frame (s : State) : s.stepAges = (s.withTable s.stepAges.table).withFlags s.stepAges.flags := by
  unfold State.stepAges
  dsimp only
  split <;> rfl

theorem State.flagSet_stepAges {s : State} {n : SlotNo} (h : enteredCleared (s.slot n) ((s.slot n).age s.settings) = true) :
    s.stepAges.flagSet flagCleared = true := by
  have hany : (allSlots.any fun n => enteredCleared (s.slot n) ((s.withTable (s.table.map (Slot.age s.settings))).slot n)) =
      true :=
    List.any_eq_true.mpr ⟨n, List.mem_finRange n, by rwa [State.slot_map]⟩
  rw [State.stepAges, if_pos hany]
  exact State.flagSet_raise_self (by decide) _

theorem State.slot_ageTable (s : State) (n : SlotNo) : ((s.slot n).age s.settings).LinkMoved (s.ageTable.slot n) := by
  rw [← State.slot_stepAges]
  exact s.linksMoved_ageTable.2 n

theorem State.ageTable_frame (s : State) : s.ageTable = (s.withTable s.ageTable.table).withFlags s.ageTable.flags := by
  obtain ⟨hframe, -⟩ := s.linksMoved_ageTable
  rw [s.linksMoved_ageTable.flags_eq, hframe, s.stepAges_frame]
  rfl

theorem State.flagSet_ageTable {s : State} {n : SlotNo} (h : enteredCleared (s.slot n) ((s.slot n).age s.settings) = true) :
    s.ageTable.flagSet flagCleared = true := by
  rw [State.flagSet, s.linksMoved_ageTable.flags_eq]
  exact State.flagSet_stepAges h

/-! ### The aging tick -/

theorem exec_agingTick_of_due {s : State} (h : s.agingDue = true) : exec .agingTick s = .next s.aging := by
  have harm : exec .agingTick s = .next s.takeAging := rfl
  rw [harm, State.takeAging, if_pos h]

theorem State.aging_frame (s : State) :
    s.aging = ((s.withClock { s.clock with agingCount := 0 }).withTable s.aging.table).withFlags s.aging.flags :=
  State.ageTable_frame _

theorem State.slot_aging (s : State) (n : SlotNo) : ((s.slot n).age s.settings).LinkMoved (s.aging.slot n) :=
  State.slot_ageTable (s.withClock { s.clock with agingCount := 0 }) n

theorem State.flagSet_aging {s : State} {n : SlotNo} (h : enteredCleared (s.slot n) ((s.slot n).age s.settings) = true) :
    s.aging.flagSet flagCleared = true :=
  State.flagSet_ageTable (s := s.withClock { s.clock with agingCount := 0 }) h

theorem State.gen_aging (s : State) (n : SlotNo) : (s.aging.slot n).gen = (s.slot n).gen :=
  (s.slot_aging n).gen_eq.trans (Slot.gen_age _ _)

theorem State.slot_aging_of_free {s : State} {n : SlotNo} (h : s.record n = none) : s.aging.slot n = s.slot n := by
  have hage : (s.slot n).age s.settings = s.slot n := Slot.age_of_free h
  have hmoved := s.slot_aging n
  rw [hage] at hmoved
  exact hmoved.eq_of_not_confirmed fun r hr => nomatch h.symm.trans hr

section AgingOfSlot
variable {s : State} {n : SlotNo} {r r' : Record}

/-- A slot whose record the tick retires is FREE after it, with its changed flag set (R19). -/
theorem State.slot_aging_of_retired (h : s.record n = some r) (hr : r.age s.settings = none) :
    s.aging.slot n = { s.slot n with changed := true, record := none } := by
  have hmoved := s.slot_aging n
  rw [Slot.age_of_retired h hr] at hmoved
  exact hmoved.eq_of_not_confirmed fun _ h => nomatch h

/-- A slot whose record keeps a state other than CONFIRMED holds what the tick makes of it. -/
theorem State.slot_aging_of_kept (h : s.record n = some r) (hr : r.age s.settings = some r')
    (hs : r'.state = r.state) (hc : r.state ≠ .confirmed) : s.aging.slot n = { s.slot n with record := some r' } := by
  have hmoved := s.slot_aging n
  rw [Slot.age_of_same_state h hr hs] at hmoved
  refine hmoved.eq_of_not_confirmed fun q hq => ?_
  obtain rfl := Option.some.inj hq
  rwa [hs]

/-- A record that the tick keeps is what the tick makes of it, its link apart. -/
theorem State.record_aging_of_kept (h : s.record n = some r) (hr : r.age s.settings = some r') :
    ∃ q, s.aging.record n = some q ∧ q.unlinked = r'.unlinked :=
  (s.slot_aging n).exists_unlinked_eq (by rw [Slot.age_of_kept h hr])

/-- A record that goes to CLEARED is what the clearing makes of it, with its changed flag and RECORD_CLEARED set. -/
theorem State.slot_aging_of_cleared (h : s.record n = some r) (hr : r.age s.settings = some r')
    (hs : r'.state = .cleared) (hne : r.state ≠ .cleared) :
    s.aging.slot n = { s.slot n with changed := true, record := some r' } ∧ s.aging.flagSet flagCleared = true := by
  have hage : (s.slot n).age s.settings = { s.slot n with changed := true, record := some r' } := by
    rw [Slot.age_of_kept h hr, bne_iff_ne.mpr (hs ▸ hne.symm), Bool.or_true]
  have hrec : (s.slot n).record = some r := h
  constructor
  · have hmoved := s.slot_aging n
    rw [hage] at hmoved
    refine hmoved.eq_of_not_confirmed fun q hq => ?_
    obtain rfl := Option.some.inj hq
    simp [hs]
  · exact State.flagSet_aging (n := n) (by simp [hage, enteredCleared, hrec, hs, hne])

end AgingOfSlot

theorem State.agingDue_iff (s : State) : s.agingDue = true ↔ agingInterval s.settings.agingCode ≤ s.clock.agingCount := by
  simp [State.agingDue]

/-- Settles O10: each slot takes its record's own step, and the link evaluations that follow touch CONFIRMED records only. -/
theorem agingTickStepsEverySlot : Obligations.AgingTickStepsEverySlot := by
  unfold Obligations.AgingTickStepsEverySlot
  refine ⟨fun s => ?_, fun s hdue => ⟨s.aging, exec_agingTick_of_due hdue, s.aging_frame, fun n =>
    ⟨s.gen_aging n, State.slot_aging_of_free, fun r hrec => ?_⟩⟩⟩
  · rw [s.agingDue_iff]
    exact ⟨fun h => by rw [h]; rfl, fun h => by rw [h]; rfl, fun h => by rw [h]; rfl, fun h => by rw [h]; rfl⟩
  intro score decays
  refine ⟨?exempt, ?suspectKept, ?suspectRetired, ?decayed, ?cleared, ?unretained, ?retained, ?retentionOver⟩
  case exempt => exact fun h => State.record_aging_of_kept hrec (Record.age_of_exempt h)
  case suspectKept =>
    intro hf hs hkept
    have hage : r.age s.settings = some { r with score := score } := by
      rw [Record.age_of_suspect hf hs, if_neg fun ⟨hzero, hpin⟩ => hkept.elim (· hzero) (by simp [hpin])]
    exact State.slot_aging_of_kept hrec hage rfl (by simp [hs])
  case suspectRetired =>
    intro hf hs hscore hpin
    have hage : r.age s.settings = none := by rw [Record.age_of_suspect hf hs, if_pos ⟨hscore, hpin⟩]
    exact State.slot_aging_of_retired hrec hage
  case decayed =>
    intro hf hs hscore
    have hage : r.age s.settings = some { r with score := score } := by
      rw [Record.age_of_decaying hf hs, if_neg hscore]
    exact State.record_aging_of_kept hrec hage
  case cleared =>
    intro hf hs hscore
    have hage : r.age s.settings = some (r.clear s.settings.retention) := by
      rw [Record.age_of_decaying hf hs, if_pos hscore]
    obtain ⟨hslot, hflag⟩ := State.slot_aging_of_cleared hrec hage (Record.state_clear _ r)
      (Record.state_ne_cleared_of_decaying hs)
    exact ⟨by rw [hslot], hflag, _, by rw [State.record, hslot], Record.unlinked_clear _ hf hs,
      fun hc _ hb => Record.link_clear_of_confirmed hc hb⟩
  case unretained =>
    intro hf hs hk
    have hrecord : (s.slot n).record = some r := hrec
    rw [State.slot_aging_of_kept hrec (Record.age_of_cleared_unretained hf hs hk) rfl (by simp [hs]), ← hrecord]
  case retained =>
    intro k hf hs hk hkept
    have hage : r.age s.settings = some { r with retention := some (k - 1) } := by
      rw [Record.age_of_cleared hf hs hk, if_neg fun ⟨hzero, hpin⟩ => hkept.elim (· hzero) (by simp [hpin])]
    exact State.slot_aging_of_kept hrec hage rfl (by simp [hs])
  case retentionOver =>
    intro k hf hs hk hover hpin
    have hage : r.age s.settings = none := by rw [Record.age_of_cleared hf hs hk, if_pos ⟨hover, hpin⟩]
    exact State.slot_aging_of_retired hrec hage

end Sys2Proof.Machine
end

section
/-! Proofs, family 2, first part: staging a leg: what the argument bytes carry, what of it fits, and what its owner answers. -/

namespace Sys2Proof

/-! ### Argument bytes -/

theorem nat2_byteOf {n : Nat} (h : n < 65536) : nat2 (byteOf (n / 256)) (byteOf n) = n := by
  simp only [nat2, byteOf, BitVec.toNat_ofNat]
  omega

theorem toNat_byteOf {n : Nat} (h : n < 256) : (byteOf n).toNat = n := by
  rw [byteOf, BitVec.toNat_ofNat, Nat.mod_eq_of_lt h]

theorem legOf_eq_none {b : Byte} (h : 4 ≤ b.toNat) : legOf b = none := dif_neg (Nat.not_lt.mpr h)

theorem legOf_eq_some {b : Byte} {l : Leg} (h : b.toNat = l.val) : legOf b = some l := by
  rw [legOf, dif_pos (h ▸ l.isLt)]
  exact congrArg some (Fin.ext h)

namespace Machine

theorem readWords_flatMap_bytes2 {ws : List Nat} (h : ∀ w ∈ ws, w < 65536) : readWords (ws.flatMap bytes2) = some ws := by
  induction ws with
  | nil => rfl
  | cons w ws ih =>
    obtain ⟨hw, hws⟩ := List.forall_mem_cons.mp h
    have hbytes : (w :: ws).flatMap bytes2 = byteOf (w / 256) :: byteOf w :: ws.flatMap bytes2 := rfl
    rw [hbytes, readWords, ih hws, Option.map_some, nat2_byteOf hw]

/-- The station that an entry of MAP_STATIONS stages: handle, tap index and drop as sent, a drop of 65535 standing for 300 dm
(R44). -/
def sentStation (x : Nat × Nat × Nat) : Station :=
  { handle := x.1, tap := x.2.1, drop := if x.2.2 = 65535 then 300 else x.2.2, misplaced := none, dropEcho := none }

/-- What is read of an entry of MAP_STATIONS: its station, and whether the drop sent is acceptable (R44). -/
def sentEntry (x : Nat × Nat × Nat) : Station × Bool :=
  (sentStation x, decide (x.2.2 = 65535) || decide (x.2.2 ≤ 1000))

/-- The bytes of an entry of MAP_STATIONS (R190). -/
def entryBytes (x : Nat × Nat × Nat) : List Byte := bytes2 x.1 ++ [byteOf x.2.1] ++ bytes2 x.2.2

theorem readStations_flatMap_entryBytes {entries : List (Nat × Nat × Nat)}
    (h : ∀ x ∈ entries, x.1 < 65536 ∧ x.2.1 < 256 ∧ x.2.2 < 65536) :
    readStations (entries.flatMap entryBytes) =
      some (entries.map sentEntry) := by
  induction entries with
  | nil => rfl
  | cons x entries ih =>
    obtain ⟨⟨hhandle, htap, hdrop⟩, hentries⟩ := List.forall_mem_cons.mp h
    have hbytes : (x :: entries).flatMap entryBytes =
        byteOf (x.1 / 256) :: byteOf x.1 :: byteOf x.2.1 :: byteOf (x.2.2 / 256) :: byteOf x.2.2 ::
          entries.flatMap entryBytes := rfl
    rw [hbytes, readStations, ih hentries, nat2_byteOf hhandle, nat2_byteOf hdrop, toNat_byteOf htap]
    rfl

/-! ### What fits (R43, R44) -/

theorem tapsFollow_cons_iff {last : Option Nat} {d : Nat} {ds : List Nat} :
    tapsFollow last (d :: ds) = true ↔ d ≤ 20000 ∧ (∀ p ∈ last, p < d) ∧ tapsFollow (some d) ds = true := by
  cases last <;> simp only [tapsFollow, Bool.and_eq_true, decide_eq_true_iff, and_assoc] <;> simp [Config.maxDistance]

theorem pairwise_lt_toList_append_cons_iff {last : Option Nat} {d : Nat} {ds : List Nat} :
    ((last.toList ++ d :: ds).Pairwise fun a b => a < b) ↔
      (∀ p ∈ last, p < d) ∧ (d :: ds).Pairwise fun a b => a < b := by
  cases last with
  | none => simp
  | some p =>
    rw [Option.toList_some, List.singleton_append, List.pairwise_cons, List.forall_mem_cons]
    refine ⟨fun ⟨⟨hpd, _⟩, hds⟩ => ⟨by simpa using hpd, hds⟩, fun ⟨hpd, hds⟩ => ?_⟩
    have hpd : p < d := hpd p rfl
    exact ⟨⟨hpd, fun e he => hpd.trans (List.rel_of_pairwise_cons hds he)⟩, hds⟩

/-- Distances fit after the last one staged where all of them, with it before them, rise strictly within the leg (R43). -/
theorem tapsFollow_iff {last : Option Nat} {distances : List Nat} :
    tapsFollow last distances = true ↔
      (∀ d ∈ distances, d ≤ 20000) ∧ (last.toList ++ distances).Pairwise fun a b => a < b := by
  induction distances generalizing last with
  | nil => cases last <;> simp [tapsFollow]
  | cons d ds ih =>
    rw [tapsFollow_cons_iff, ih, pairwise_lt_toList_append_cons_iff, List.forall_mem_cons, Option.toList_some,
      List.singleton_append]
    tauto

/-- Entries fit where each one does by itself and against the handles held, and no two share a handle (R44). -/
theorem stationsFit_iff {tapCount : Nat} {held : List Nat} {entries : List (Station × Bool)} :
    stationsFit tapCount held entries = true ↔
      (∀ e ∈ entries, e.1.handle ≠ 0 ∧ e.1.tap < tapCount ∧ e.2 = true ∧ e.1.handle ∉ held) ∧
        (entries.map fun e => e.1.handle).Nodup := by
  induction entries generalizing held with
  | nil => simp [stationsFit]
  | cons e entries ih =>
    obtain ⟨x, fits⟩ := e
    have hhead : stationsFit tapCount held ((x, fits) :: entries) = true ↔
        (x.handle ≠ 0 ∧ x.tap < tapCount ∧ fits = true ∧ x.handle ∉ held) ∧
          stationsFit tapCount (x.handle :: held) entries = true := by
      simp only [stationsFit, Bool.and_eq_true, bne_iff_ne, Bool.not_eq_true', decide_eq_true_eq, List.contains_eq_mem,
        decide_eq_false_iff_not]
      tauto
    rw [hhead, ih, List.forall_mem_cons, List.map_cons, List.nodup_cons, List.mem_map]
    refine ⟨fun ⟨hx, hrest, hnodup⟩ => ⟨⟨hx, fun e he => ?_⟩, ?_, hnodup⟩,
      fun ⟨⟨hx, hrest⟩, hother, hnodup⟩ => ⟨hx, fun e he => ?_, hnodup⟩⟩
    · obtain ⟨hzero, htap, hfits, hheld⟩ := hrest e he
      exact ⟨hzero, htap, hfits, fun h => hheld (List.mem_cons_of_mem _ h)⟩
    · rintro ⟨e, he, heq⟩
      obtain ⟨-, -, -, hheld⟩ := hrest e he
      exact hheld (heq ▸ List.mem_cons_self)
    · obtain ⟨hzero, htap, hfits, hheld⟩ := hrest e he
      exact ⟨hzero, htap, hfits, fun h => (List.mem_cons.mp h).elim (fun heq => hother ⟨e, he, heq⟩) hheld⟩

theorem stationsFit_sent_iff {tapCount : Nat} {staged : List Station} {entries : List (Nat × Nat × Nat)} :
    stationsFit tapCount (staged.map fun y => y.handle)
        (entries.map sentEntry) = true ↔
      (∀ x ∈ entries, x.1 ≠ 0 ∧ x.2.1 < tapCount ∧ (x.2.2 ≤ 1000 ∨ x.2.2 = 65535) ∧ ∀ y ∈ staged, y.handle ≠ x.1) ∧
        (entries.map Prod.fst).Nodup := by
  rw [stationsFit_iff, List.map_map, List.forall_mem_map]
  refine and_congr (forall₂_congr fun x _ => ?_) Iff.rfl
  simp only [sentEntry, sentStation, Bool.or_eq_true, decide_eq_true_eq, List.mem_map, not_exists, not_and, or_comm, ne_eq]

/-! ### The owner's answers (R42 to R45) -/

section MapOpen
variable {leg : Byte} {l : Leg} {s : State}

theorem serveMapOpen_of_badLeg (v1 v0 : Byte) (h : 4 ≤ leg.toNat) :
    serveMapOpen [leg, v1, v0] s = refuse .badArgument s := by
  simp only [serveMapOpen, legOf_eq_none h]

theorem serveMapOpen_of_open (v1 v0 : Byte) (h : leg.toNat = l.val) (hs : s.staging ≠ none) :
    serveMapOpen [leg, v1, v0] s = refuse .wrongState s := by
  obtain ⟨g, hg⟩ := Option.ne_none_iff_exists'.mp hs
  simp only [serveMapOpen, legOf_eq_some h, hg]

theorem serveMapOpen_of_closed (v1 v0 : Byte) (h : leg.toNat = l.val) (hs : s.staging = none) :
    serveMapOpen [leg, v1, v0] s =
      answerOk (bytes2 (max 600 (min (v1.toNat * 256 + v0.toNat) 990)))
        (s.withStaging
          (some { leg := l, vf := max 600 (min (v1.toNat * 256 + v0.toNat) 990), taps := [], stations := [] })) := by
  simp only [serveMapOpen, legOf_eq_some h, hs]
  rfl

end MapOpen

section MapTaps
variable {distances : List Nat} {s : State} {g : Staging}

theorem serveMapTaps_of_closed (hw : ∀ d ∈ distances, d < 65536) (hlen : distances.length ≤ 64) (hs : s.staging = none) :
    serveMapTaps (distances.flatMap bytes2) s = refuse .wrongState s := by
  simp only [serveMapTaps, readWords_flatMap_bytes2 hw, if_neg (Nat.not_lt.mpr hlen), hs]

/-- In OPEN, MAP_TAPS is judged by what fits and then by the tap count. -/
theorem serveMapTaps_of_open (hw : ∀ d ∈ distances, d < 65536) (hlen : distances.length ≤ 64) (hs : s.staging = some g) :
    serveMapTaps (distances.flatMap bytes2) s =
      if tapsFollow g.taps.getLast? distances = false then refuse .badArgument s
      else if 64 < (g.taps ++ distances).length then refuse .full s
      else
        answerOk [byteOf (g.taps ++ distances).length] (s.withStaging (some { g with taps := g.taps ++ distances })) := by
  simp only [serveMapTaps, readWords_flatMap_bytes2 hw, if_neg (Nat.not_lt.mpr hlen), hs, List.length_append,
    Config.tapsPerLeg]

end MapTaps

section MapStations
variable {entries : List (Nat × Nat × Nat)} {s : State} {g : Staging}

theorem serveMapStations_of_closed (hw : ∀ x ∈ entries, x.1 < 65536 ∧ x.2.1 < 256 ∧ x.2.2 < 65536)
    (hlen : entries.length ≤ 49) (hs : s.staging = none) :
    serveMapStations (entries.flatMap entryBytes) s = refuse .wrongState s := by
  simp only [serveMapStations, readStations_flatMap_entryBytes hw, List.length_map, if_neg (Nat.not_lt.mpr hlen), hs]

/-- In OPEN, MAP_STATIONS is judged by what fits and then by the station count. -/
theorem serveMapStations_of_open (hw : ∀ x ∈ entries, x.1 < 65536 ∧ x.2.1 < 256 ∧ x.2.2 < 65536)
    (hlen : entries.length ≤ 49) (hs : s.staging = some g) :
    serveMapStations (entries.flatMap entryBytes) s =
      if stationsFit g.taps.length (g.stations.map fun y => y.handle)
          (entries.map sentEntry) = false then
        refuse .badArgument s
      else if 512 < (g.stations ++ entries.map sentStation).length then refuse .full s
      else
        answerOk (bytes2 (g.stations ++ entries.map sentStation).length)
          (s.withStaging (some { g with stations := g.stations ++ entries.map sentStation })) := by
  have hfst : (entries.map sentEntry).map Prod.fst =
      entries.map sentStation := List.map_map
  simp only [serveMapStations, readStations_flatMap_entryBytes hw, List.length_map, if_neg (Nat.not_lt.mpr hlen), hs,
    hfst, List.length_append, Config.stationsPerLeg]

end MapStations

/-! ### The four requests -/

/-- Settles O42: each request is its owner's answer, and the arguments carry back what they were made from. -/
theorem stagingRequestsTakeTheFirstCase : Obligations.StagingRequestsTakeTheFirstCase := by
  unfold Obligations.StagingRequestsTakeTheFirstCase
  intro s tag hears
  have hopen : ∀ args, exec (.mapOpen tag args) s = .next ((serveMapOpen args s).begin 0x20#8 tag false) :=
    fun _ => exec_of_hears hears rfl rfl
  have htaps : ∀ args, exec (.mapTaps tag args) s = .next ((serveMapTaps args s).begin 0x21#8 tag false) :=
    fun _ => exec_of_hears hears rfl rfl
  have hstations : ∀ args, exec (.mapStations tag args) s = .next ((serveMapStations args s).begin 0x22#8 tag false) :=
    fun _ => exec_of_hears hears rfl rfl
  refine ⟨fun leg v1 v0 => ?mapOpen, fun distances hw hlen => ?mapTaps, fun entries hw hlen => ?mapStations, ?mapDiscard⟩
  case mapOpen =>
    refine ⟨fun hleg => ?_, fun l hl => ⟨fun hs => ?_, fun hs => ?_⟩⟩
    · rw [hopen, serveMapOpen_of_badLeg v1 v0 hleg, begin_refuse]
    · rw [hopen, serveMapOpen_of_open v1 v0 hl hs, begin_refuse]
    · rw [hopen, serveMapOpen_of_closed v1 v0 hl hs, begin_answerOk]
  case mapTaps =>
    refine ⟨fun hs => ?_, fun g hs => ?_⟩
    · rw [htaps, serveMapTaps_of_closed hw hlen hs, begin_refuse]
    rw [htaps, serveMapTaps_of_open hw hlen hs]
    intro fit taps
    have hfit : tapsFollow g.taps.getLast? distances = true ↔ fit := tapsFollow_iff
    refine ⟨fun hno => ?_, fun hyes hfull => ?_, fun hyes hroom => ?_⟩
    · rw [if_pos (Bool.eq_false_iff.mpr (mt hfit.mp hno)), begin_refuse]
    · rw [if_neg (by simp [hfit.mpr hyes]), if_pos hfull, begin_refuse]
    · rw [if_neg (by simp [hfit.mpr hyes]), if_neg (Nat.not_lt.mpr hroom), begin_answerOk]
  case mapStations =>
    refine ⟨fun hs => ?_, fun g hs => ?_⟩
    · exact (hstations _).trans (by rw [← begin_refuse, ← serveMapStations_of_closed hw hlen hs]; rfl)
    have hrun := hstations (entries.flatMap entryBytes)
    rw [serveMapStations_of_open hw hlen hs] at hrun
    intro fit stations
    have hstaged : g.stations ++ entries.map sentStation = stations := rfl
    rw [hstaged] at hrun
    have hfit : stationsFit g.taps.length (g.stations.map fun y => y.handle)
        (entries.map sentEntry) = true ↔ fit :=
      stationsFit_sent_iff
    refine ⟨fun hno => hrun.trans ?_, fun hyes hfull => hrun.trans ?_, fun hyes hroom => hrun.trans ?_⟩
    · rw [if_pos (Bool.eq_false_iff.mpr (mt hfit.mp hno)), begin_refuse]
    · rw [if_neg (by simp [hfit.mpr hyes]), if_pos hfull, begin_refuse]
    · rw [if_neg (by simp [hfit.mpr hyes]), if_neg (Nat.not_lt.mpr hroom), begin_answerOk]
  case mapDiscard =>
    have hdiscard : exec (.mapDiscard tag []) s = .next ((serveMapDiscard [] s).begin 0x24#8 tag false) :=
      exec_of_hears hears rfl rfl
    rw [hdiscard, serveMapDiscard, begin_answerOk]

end Machine
end Sys2Proof
end

section
/-! Proofs, family 2, second part: the activation of a leg: the first conflict, what a rescaling does to a slot, what the new
taps and the links then do to it, and the owner's answer. -/

namespace Sys2Proof.Machine

/-! ### Handles active on another leg (R46) -/

theorem find?_allLegs_eq_some {p : Leg → Bool} {l : Leg} (hl : p l = true) (hbelow : ∀ m, m < l → p m = false) :
    allLegs.find? p = some l := by
  have hlt : ∀ m : Leg, m.val < allLegs.length := fun m => m.isLt
  have hlegs : ∀ (m : Leg) (hm : m.val < allLegs.length), allLegs[m.val] = m := by decide
  refine List.find?_eq_some_iff_getElem.mpr ⟨hl, l.val, hlt l, hlegs l (hlt l), fun j hj => ?_⟩
  have hm : allLegs[j]'(hj.trans (hlt l)) = ⟨j, hj.trans l.isLt⟩ := hlegs ⟨j, hj.trans l.isLt⟩ _
  rw [hm, hbelow _ hj, Bool.not_false]

/-- A handle that the active station set of a leg other than the staged one holds. -/
def State.heldElsewhere (staged : Leg) (handle : Nat) (l : Leg) (s : State) : Prop :=
  l ≠ staged ∧ ∃ y ∈ (s.plant.get l).stations, y.handle = handle

theorem State.heldElsewhere_iff {staged l : Leg} {handle : Nat} {s : State} :
    (l != staged && (s.plant.get l).stations.any fun x => x.handle == handle) = true ↔ s.heldElsewhere staged handle l := by
  simp only [Bool.and_eq_true, bne_iff_ne, List.any_eq_true, beq_iff_eq, State.heldElsewhere]

theorem State.conflictLeg_eq_none {staged : Leg} {handle : Nat} {s : State} (h : ∀ l, ¬ s.heldElsewhere staged handle l) :
    s.conflictLeg staged handle = none :=
  List.find?_eq_none.mpr fun l _ hl => h l (State.heldElsewhere_iff.mp hl)

theorem State.conflictLeg_eq_some {staged l : Leg} {handle : Nat} {s : State} (hl : s.heldElsewhere staged handle l)
    (hbelow : ∀ m, m < l → ¬ s.heldElsewhere staged handle m) : s.conflictLeg staged handle = some l :=
  find?_allLegs_eq_some (State.heldElsewhere_iff.mpr hl) fun m hm =>
    Bool.eq_false_iff.mpr fun h => hbelow m hm (State.heldElsewhere_iff.mp h)

theorem State.conflict_eq_none {g : Staging} {s : State} (h : ∀ x ∈ g.stations, ∀ l, ¬ s.heldElsewhere g.leg x.handle l) :
    s.conflict g = none :=
  List.findSome?_eq_none_iff.mpr fun x hx => by rw [State.conflictLeg_eq_none (h x hx), Option.map_none]

/-- The conflict is the first staged handle that is held elsewhere, with the lowest leg that holds it. -/
theorem State.conflict_eq_some {g : Staging} {s : State} {k : Nat} {x : Station} {l : Leg} (hk : g.stations[k]? = some x)
    (hl : s.heldElsewhere g.leg x.handle l) (hbelow : ∀ m, m < l → ¬ s.heldElsewhere g.leg x.handle m)
    (hfirst : ∀ (j : Nat) (y : Station), j < k → g.stations[j]? = some y → ∀ m, ¬ s.heldElsewhere g.leg y.handle m) :
    s.conflict g = some (x.handle, l) := by
  obtain ⟨hlen, rfl⟩ := List.getElem?_eq_some_iff.mp hk
  refine List.findSome?_eq_some_iff.mpr ⟨g.stations.take k, g.stations[k], g.stations.drop (k + 1), ?_, ?_, fun y hy => ?_⟩
  · rw [← List.drop_eq_getElem_cons hlen, List.take_append_drop]
  · rw [State.conflictLeg_eq_some hl hbelow, Option.map_some]
  · obtain ⟨j, hj, rfl⟩ := List.mem_take_iff_getElem.mp hy
    rw [State.conflictLeg_eq_none (hfirst j _ (by omega) (List.getElem?_eq_getElem (by omega))), Option.map_none]

/-! ### The echo records on a leg -/

theorem State.mem_echoesOn {leg : Leg} {pinned : Bool} {s : State} {n : SlotNo} :
    n ∈ s.echoesOn leg pinned ↔ ∃ r e, s.record n = some r ∧ r.body = .echo e ∧ e.leg = leg ∧ r.pinned = pinned := by
  simp only [State.echoesOn, List.mem_map, List.mem_filter, State.mem_records, Prod.exists, exists_and_right, exists_eq_right]
  refine exists_congr fun r => ?_
  cases hr : r.body <;> simp [Record.echo?, hr]

theorem State.nodup_echoesOn (leg : Leg) (pinned : Bool) (s : State) : (s.echoesOn leg pinned).Nodup :=
  List.Pairwise.map _ (fun _ _ h => ne_of_lt h) (s.records_sorted.filter _)

/-! ### One change made to several slots -/

/-- The slots of a list, each in its turn, changed in one way. -/
def State.changeSlots (f : Slot → Slot) (ns : List SlotNo) (s : State) : State :=
  ns.foldl (fun t n => t.setSlot n (f (t.slot n))) s

section ChangeSlots
variable (f : Slot → Slot)

theorem State.changeSlots_frame (ns : List SlotNo) (s : State) :
    s.changeSlots f ns = s.withTable (s.changeSlots f ns).table := by
  induction ns generalizing s with
  | nil => rfl
  | cons n ns ih => exact ih (s.setSlot n (f (s.slot n)))

theorem State.slot_changeSlots_of_not_mem {ns : List SlotNo} {m : SlotNo} (hm : m ∉ ns) (s : State) :
    (s.changeSlots f ns).slot m = s.slot m := by
  induction ns generalizing s with
  | nil => rfl
  | cons n ns ih =>
    obtain ⟨hne, hns⟩ := not_or.mp (mt List.mem_cons.mpr hm)
    exact (ih hns _).trans (s.slot_setSlot_ne _ hne)

theorem State.slot_changeSlots_of_mem {ns : List SlotNo} {m : SlotNo} (hnodup : ns.Nodup) (hm : m ∈ ns) (s : State) :
    (s.changeSlots f ns).slot m = f (s.slot m) := by
  induction ns generalizing s with
  | nil => cases hm
  | cons n ns ih =>
    obtain ⟨hn, hns⟩ := List.nodup_cons.mp hnodup
    obtain rfl | hmem := List.mem_cons.mp hm
    · exact (State.slot_changeSlots_of_not_mem f hn _).trans (s.slot_setSlot_self m _)
    · have hne : m ≠ n := fun h => hn (h ▸ hmem)
      exact (ih hns hmem _).trans (congrArg f (s.slot_setSlot_ne _ hne))

end ChangeSlots

/-! ### Rescaling (R48) -/

/-- The slot of a retired record (R19). -/
def Slot.freed (x : Slot) : Slot := { gen := x.gen, changed := true, record := none }

/-- A record in SUSPECT, CONFIRMED or CLEARED, the states of an echo record. -/
def Record.resting (r : Record) : Prop := r.state = .suspect ∨ r.state = .confirmed ∨ r.state = .cleared

theorem State.retireQuietly_of_resting {s : State} {n : SlotNo} {r : Record} (h : s.record n = some r) (hr : r.resting) :
    s.retireQuietly n = s.setSlot n (s.slot n).freed := by
  obtain hs | hs | hs := hr <;> simp only [State.retireQuietly, h, State.afterRetirement, hs] <;> rfl

theorem State.foldl_retireQuietly {ns : List SlotNo} (hnodup : ns.Nodup) {s : State}
    (h : ∀ n ∈ ns, ∃ r, s.record n = some r ∧ r.resting) :
    ns.foldl (fun t n => t.retireQuietly n) s = s.changeSlots Slot.freed ns := by
  induction ns generalizing s with
  | nil => rfl
  | cons n ns ih =>
    obtain ⟨⟨r, hrec, hr⟩, hrest⟩ := List.forall_mem_cons.mp h
    obtain ⟨hn, hns⟩ := List.nodup_cons.mp hnodup
    rw [List.foldl_cons, State.retireQuietly_of_resting hrec hr]
    refine ih hns fun m hm => ?_
    have hne : m ≠ n := fun h => hn (h ▸ hm)
    rw [State.record, s.slot_setSlot_ne _ hne]
    exact hrest m hm

/-- Every echo record rests, so that its retirement touches neither a round nor the wait queue (R20). -/
def State.echoesRest (s : State) : Prop := ∀ n r e, s.record n = some r → r.body = .echo e → r.resting

/-- A slot when its leg is rescaled: an echo record on the leg is kept stale if it is pinned and else retired. -/
def Slot.rescaled (leg : Leg) (x : Slot) : Slot :=
  match x.record with
  | none => x
  | some r =>
    match r.body with
    | .ingress _ => x
    | .echo e => if e.leg = leg then (if r.pinned then x.markStale else x.freed) else x

/-- A slot without an echo record on the leg. -/
def Slot.noEchoOn (leg : Leg) (x : Slot) : Prop := ∀ r e, x.record = some r → r.body = .echo e → e.leg ≠ leg

theorem Slot.rescaled_of_noEchoOn {leg : Leg} {x : Slot} (h : x.noEchoOn leg) : x.rescaled leg = x := by
  unfold Slot.rescaled
  split
  · rfl
  next r hx =>
    split
    · rfl
    next e hr => rw [if_neg (h r e hx hr)]

section Rescaled
variable {leg : Leg} {x : Slot} {r : Record} {e : EchoPart} (hx : x.record = some r) (hr : r.body = .echo e) (he : e.leg = leg)
include hx hr he

theorem Slot.rescaled_of_unpinned (hp : r.pinned = false) : x.rescaled leg = x.freed := by
  simp [Slot.rescaled, hx, hr, he, hp]

theorem Slot.rescaled_of_pinned (hp : r.pinned = true) :
    x.rescaled leg = { x with record := some { r with body := .echo { e with staleScale := true } } } := by
  simp [Slot.rescaled, Slot.markStale, hx, hr, he, hp]

end Rescaled

/-- A rescaling marks the pinned echo records on the leg and then frees the slots of the others. -/
theorem State.rescale_eq {s : State} (h : s.echoesRest) (leg : Leg) :
    s.rescale leg =
      (s.changeSlots Slot.markStale (s.echoesOn leg true)).changeSlots Slot.freed (s.echoesOn leg false) := by
  refine State.foldl_retireQuietly (s.nodup_echoesOn leg false) fun n hn => ?_
  obtain ⟨r, e, hrec, hr, he, hp⟩ := State.mem_echoesOn.mp hn
  have hunpinned : n ∉ s.echoesOn leg true := fun hmem => by
    obtain ⟨r', -, hrec', -, -, hp'⟩ := State.mem_echoesOn.mp hmem
    obtain rfl := Option.some.inj (hrec.symm.trans hrec')
    exact Bool.false_ne_true (hp.symm.trans hp')
  refine ⟨r, ?_, h n r e hrec hr⟩
  exact (congrArg Slot.record (State.slot_changeSlots_of_not_mem _ hunpinned s)).trans hrec

theorem State.rescale_frame {s : State} (h : s.echoesRest) (leg : Leg) :
    s.rescale leg = s.withTable (s.rescale leg).table := by
  rw [State.rescale_eq h, State.changeSlots_frame, State.changeSlots_frame Slot.markStale]
  rfl

theorem State.slot_rescale {s : State} (h : s.echoesRest) (leg : Leg) (n : SlotNo) :
    (s.rescale leg).slot n = (s.slot n).rescaled leg := by
  rw [State.rescale_eq h]
  by_cases hecho : ∃ r e, s.record n = some r ∧ r.body = .echo e ∧ e.leg = leg
  · obtain ⟨r, e, hrec, hr, he⟩ := hecho
    have hmem : ∀ pinned, n ∈ s.echoesOn leg pinned ↔ r.pinned = pinned := fun pinned => by
      simp [State.mem_echoesOn, hrec, hr, he]
    cases hp : r.pinned with
    | false =>
      rw [State.slot_changeSlots_of_mem _ (s.nodup_echoesOn leg false) ((hmem false).mpr hp),
        State.slot_changeSlots_of_not_mem _ (by simp [hmem, hp]), Slot.rescaled_of_unpinned hrec hr he hp]
    | true =>
      rw [State.slot_changeSlots_of_not_mem _ (by simp [hmem, hp]),
        State.slot_changeSlots_of_mem _ (s.nodup_echoesOn leg true) ((hmem true).mpr hp),
        Slot.rescaled_of_pinned hrec hr he hp, Slot.markStale]
      have hx : (s.slot n).record = some r := hrec
      simp only [hx, hr]
  · have hnot : ∀ pinned, n ∉ s.echoesOn leg pinned := fun pinned hmem => by
      obtain ⟨r, e, hrec, hr, he, -⟩ := State.mem_echoesOn.mp hmem
      exact hecho ⟨r, e, hrec, hr, he⟩
    rw [State.slot_changeSlots_of_not_mem _ (hnot false), State.slot_changeSlots_of_not_mem _ (hnot true),
      Slot.rescaled_of_noEchoOn fun r e hrec hr he => hecho ⟨r, e, hrec, hr, he⟩]

/-! ### The new taps (R49) -/

theorem Slot.reattribute_of_noEchoOn {leg : Leg} {x : Slot} (plant : PerLeg LegMap) (h : x.noEchoOn leg) :
    x.reattribute plant leg = x := by
  unfold Slot.reattribute
  split
  · rfl
  next r hx =>
    split
    · rfl
    next e hr => rw [if_neg fun hcond => h r e hx hr hcond.1]

/-- An echo record on the leg takes the tap nearest to it, and none in SUSPECT, where it had none before. -/
theorem Slot.reattribute_of_resting {leg : Leg} {x : Slot} {r : Record} {e : EchoPart} {plant : PerLeg LegMap}
    (hx : x.record = some r) (hr : r.body = .echo e) (he : e.leg = leg) (hrest : r.resting)
    (hsuspect : r.state = .suspect → e.tap = none) :
    let tap := if r.state = .suspect then none else nearestTap (plant.get leg).taps e.position
    x.reattribute plant leg =
      { gen := x.gen, changed := x.changed || decide (tap ≠ e.tap)
        record := some { r with body := .echo { e with tap := tap } } } := by
  subst he
  intro tap
  by_cases hs : r.state = .suspect
  · have hnone : tap = none := if_pos hs
    have hsame : { r with body := .echo { e with tap := none } } = r := by rw [← hsuspect hs, ← hr]
    have hslot : x.reattribute plant e.leg = x := by simp [Slot.reattribute, hx, hr, hs]
    rw [hslot, hnone, hsame, hsuspect hs, ← hx, decide_eq_false (by simp), Bool.or_false]
  · have hs' : r.state = .confirmed ∨ r.state = .cleared := hrest.resolve_left hs
    have hretap : e.retap plant r.state = { e with tap := nearestTap (plant.get e.leg).taps e.position } := by
      obtain hs' | hs' := hs' <;> rw [hs'] <;> rfl
    have hchanged : ∀ tap : Option Nat, (tap != e.tap) = decide (tap ≠ e.tap) := fun tap => by
      rw [decide_not, bne, beq_eq_decide]
    have htap : tap = nearestTap (plant.get e.leg).taps e.position := if_neg hs
    simp only [Slot.reattribute, hx, hr, hs', and_self, if_true, hretap, hchanged, htap]

/-! ### The links (R27, R49) -/

/-- What a link evaluation may move is no echo record, so the strongest echo stays (R27). -/
theorem State.LinksMoved.strongestEcho_eq {s t : State} (h : s.LinksMoved t) (leg : Leg) :
    t.strongestEcho leg = s.strongestEcho leg := by
  have hname : t.nameOf = s.nameOf := funext fun n => by rw [State.nameOf, (h.2 n).gen_eq]; rfl
  have hechoes : (t.records.filter fun p => p.2.confirmedEchoOn leg) = s.records.filter fun p => p.2.confirmedEchoOn leg := by
    simp only [State.records, List.filter_filterMap]
    refine List.filterMap_congr fun n _ => ?_
    obtain hsame | ⟨r, g, target, hrec, hr, -, hmoved⟩ := h.2 n
    · rw [State.record, hsame]; rfl
    · have hbefore : r.confirmedEchoOn leg = false := by simp only [Record.confirmedEchoOn, hr]
      have hafter : { r with body := .ingress { g with link := target } }.confirmedEchoOn leg = false := rfl
      simp [State.record, hmoved, hrec, Option.filter_some, hbefore, hafter]
  rw [State.strongestEcho, hechoes, hname]
  rfl

theorem Slot.relink_of_echo {leg : Leg} {x : Slot} {r : Record} {e : EchoPart} (target : Option RecordName)
    (hx : x.record = some r) (hr : r.body = .echo e) : x.relink leg target = x := by
  simp only [Slot.relink, hx, hr]

/-! ### The activation (R47 to R49) -/

/-- The map once a staging is active: the leg takes what was staged, but for its zone (R47). -/
def State.newPlant (g : Staging) (s : State) : PerLeg LegMap :=
  s.plant.set g.leg { vf := some g.vf, taps := g.taps, stations := g.stations, zone := (s.plant.get g.leg).zone }

theorem State.newPlant_taps (g : Staging) (s : State) : ((s.newPlant g).get g.leg).taps = g.taps := by
  rw [State.newPlant, PerLeg.get_set_self]

/-- The state between the map's part of an activation and the links': the new map, the leg rescaled where its velocity factor
changes, and its echo records attributed anew. -/
def State.reattributed (g : Staging) (s : State) : State :=
  let mapped := (s.withPlant (s.newPlant g)).withStaging none
  let scaled := if s.rescales g then mapped.rescale g.leg else mapped
  scaled.withTable (scaled.table.map (Slot.reattribute scaled.plant g.leg))

theorem State.activate_eq (g : Staging) (s : State) : s.activate g = (s.reattributed g).evaluateLinks g.leg := by
  unfold State.activate State.reattributed State.rescales
  cases hvf : (s.plant.get g.leg).vf with
  | none => simp only [hvf]; rfl
  | some vf => by_cases hsame : vf = g.vf <;> simp [hvf, hsame, State.newPlant]

/-- What an activation does to a slot before the links are evaluated. -/
def Slot.reattributed (rescales : Bool) (plant : PerLeg LegMap) (leg : Leg) (x : Slot) : Slot :=
  (if rescales then x.rescaled leg else x).reattribute plant leg

section Activation
variable {s : State} (h : s.echoesRest) (g : Staging)
include h

theorem State.reattributed_frame :
    s.reattributed g = ((s.withPlant (s.newPlant g)).withStaging none).withTable (s.reattributed g).table := by
  unfold State.reattributed
  dsimp only
  split
  · rw [State.rescale_frame (s := (s.withPlant (s.newPlant g)).withStaging none) h]
    rfl
  · rfl

theorem State.slot_reattributed (n : SlotNo) :
    (s.reattributed g).slot n = (s.slot n).reattributed (s.rescales g) (s.newPlant g) g.leg := by
  unfold State.reattributed Slot.reattributed
  dsimp only
  rw [State.slot_map]
  split
  · have hscaled := State.slot_rescale (s := (s.withPlant (s.newPlant g)).withStaging none) h g.leg n
    rw [hscaled, State.rescale_frame (s := (s.withPlant (s.newPlant g)).withStaging none) h]
    rfl
  · rfl

theorem State.activate_frame :
    s.activate g = ((s.withPlant (s.newPlant g)).withStaging none).withTable (s.activate g).table := by
  rw [State.activate_eq, State.evaluateLinks_eq_withTable, State.reattributed_frame h]
  rfl

/-- The links are evaluated against the strongest echo that the activation leaves. -/
theorem State.slot_activate (n : SlotNo) :
    (s.activate g).slot n =
      ((s.slot n).reattributed (s.rescales g) (s.newPlant g) g.leg).relink g.leg ((s.activate g).strongestEcho g.leg) := by
  have hstrongest := (State.LinksMoved.of_evaluateLinks (s.reattributed g) g.leg).strongestEcho_eq g.leg
  rw [State.activate_eq, State.slot_evaluateLinks, hstrongest, State.slot_reattributed h]

end Activation

/-! ### One slot at an activation -/

section Slot
variable {x : Slot} {r : Record} {leg : Leg} (rescales : Bool) (plant : PerLeg LegMap) (target : Option RecordName)

theorem Slot.reattributed_of_noEchoOn (h : x.noEchoOn leg) : x.reattributed rescales plant leg = x := by
  rw [Slot.reattributed, Slot.rescaled_of_noEchoOn h, ite_self, Slot.reattribute_of_noEchoOn plant h]

theorem Slot.reattributed_of_retired {e : EchoPart} (hx : x.record = some r) (hr : r.body = .echo e) (he : e.leg = leg)
    (hp : r.pinned = false) : x.reattributed true plant leg = x.freed := by
  rw [Slot.reattributed, if_pos rfl, Slot.rescaled_of_unpinned hx hr he hp]
  exact Slot.reattribute_of_noEchoOn plant fun _ _ hrec => nomatch hrec

/-- An echo record that is kept takes its new tap, and the stale-scale flag where the leg is rescaled. -/
theorem Slot.reattributed_of_kept {e : EchoPart} (hx : x.record = some r) (hr : r.body = .echo e) (he : e.leg = leg)
    (hrest : r.resting) (hsuspect : r.state = .suspect → e.tap = none) (hkept : rescales = false ∨ r.pinned = true) :
    let tap := if r.state = .suspect then none else nearestTap (plant.get leg).taps e.position
    x.reattributed rescales plant leg =
      { gen := x.gen, changed := x.changed || decide (tap ≠ e.tap)
        record := some { r with body := .echo { e with tap := tap, staleScale := e.staleScale || rescales } } } := by
  have hscaled : (if rescales then x.rescaled leg else x) =
      { x with record := some { r with body := .echo { e with staleScale := e.staleScale || rescales } } } := by
    cases rescales with
    | false =>
      rw [if_neg Bool.false_ne_true, Bool.or_false, ← hr, ← hx]
    | true =>
      rw [if_pos rfl, Slot.rescaled_of_pinned hx hr he (hkept.resolve_left (by decide)), Bool.or_true]
  rw [Slot.reattributed, hscaled]
  exact Slot.reattribute_of_resting (r := { r with body := .echo { e with staleScale := e.staleScale || rescales } }) rfl rfl
    he hrest hsuspect

end Slot

/-! ### Sound records -/

theorem State.echo_of_recordsSound {s : State} (h : s.recordsSound = true) {n : SlotNo} {r : Record} {e : EchoPart}
    (hrec : s.record n = some r) (hr : r.body = .echo e) : r.resting ∧ (r.state = .suspect → e.tap = none) := by
  have hsound : r.sound s.plant = true := List.all_eq_true.mp h (n, r) (State.mem_records.mpr hrec)
  simp only [Record.sound, hr, EchoPart.sound, Bool.and_eq_true, Bool.or_eq_true, beq_iff_eq] at hsound
  obtain ⟨-, ⟨-, hstate⟩, htap⟩ := hsound
  refine ⟨or_assoc.mp hstate, fun hs => ?_⟩
  cases ht : e.tap with
  | none => rfl
  | some t => simp [ht, hs] at htap

/-! ### The request -/

section MapActivate
variable {s : State} {g : Staging}

theorem serveMapActivate_of_closed (hs : s.staging = none) : serveMapActivate [] s = refuse .wrongState s := by
  simp only [serveMapActivate, hs]

theorem serveMapActivate_of_conflict {handle : Nat} {l : Leg} (hs : s.staging = some g)
    (hc : s.conflict g = some (handle, l)) :
    serveMapActivate [] s = refuseWith .conflict (bytes2 handle ++ [byteOf l.val]) s := by
  simp only [serveMapActivate, hs, hc]

theorem serveMapActivate_of_full (hs : s.staging = some g) (hc : s.conflict g = none)
    (hfull : 1024 < g.stations.length + s.stationsElsewhere g.leg) :
    serveMapActivate [] s = refuseWith .full (bytes2 (g.stations.length + s.stationsElsewhere g.leg)) s := by
  simp only [serveMapActivate, hs, hc]
  exact if_pos hfull

theorem serveMapActivate_of_fits (hs : s.staging = some g) (hc : s.conflict g = none)
    (hfits : g.stations.length + s.stationsElsewhere g.leg ≤ 1024) :
    serveMapActivate [] s =
      answerOk
        (bytes2 g.stations.length ++
          [byteOf (if s.rescales g then (s.echoesOn g.leg false).length else 0),
            byteOf (if s.rescales g then (s.echoesOn g.leg true).length else 0)])
        (s.activate g) := by
  simp only [serveMapActivate, hs, hc]
  exact if_neg (Nat.not_lt.mpr hfits)

theorem State.rescales_eq_any (g : Staging) (s : State) :
    s.rescales g = (s.plant.get g.leg).vf.any fun v => v != g.vf := by
  unfold State.rescales
  cases (s.plant.get g.leg).vf <;> rfl

end MapActivate

/-- Settles O43: the answer by the first case, and each slot after the three parts of the activation: rescaling, taps, links. -/
theorem activationReplacesTheLeg : Obligations.ActivationReplacesTheLeg := by
  unfold Obligations.ActivationReplacesTheLeg
  intro s tag hears
  have hrun : exec (.mapActivate tag []) s = .next ((serveMapActivate [] s).begin 0x23#8 tag false) :=
    exec_of_hears hears rfl rfl
  rw [hrun]
  refine ⟨fun hs => ?closed, fun g hs => ⟨?conflict, ?full, ?activated⟩⟩
  case closed => rw [serveMapActivate_of_closed hs, begin_refuse]
  case conflict =>
    intro k x l hk hl hbelow hfirst
    rw [serveMapActivate_of_conflict hs (State.conflict_eq_some hk hl hbelow hfirst), begin_refuseWith]
  case full =>
    intro hfree hfull
    rw [serveMapActivate_of_full hs (State.conflict_eq_none hfree) hfull, begin_refuseWith]
    rfl
  case activated =>
    intro hfree hfits hsound old rescaled count
    have hrescaled : s.rescales g = rescaled := s.rescales_eq_any g
    have hrest : s.echoesRest := fun n r e hrec hr => (State.echo_of_recordsSound hsound hrec hr).1
    refine ⟨fun pinned n => State.mem_echoesOn, s.activate g, ?_, State.activate_frame hrest g, fun n => ?_⟩
    · rw [serveMapActivate_of_fits hs (State.conflict_eq_none hfree) hfits, hrescaled, begin_answerOk]
    rw [State.slot_activate hrest, hrescaled]
    have hother : (∀ r e, s.record n = some r → r.body = .echo e → e.leg ≠ g.leg) →
        (s.slot n).reattributed rescaled (s.newPlant g) g.leg = s.slot n :=
      fun hno => Slot.reattributed_of_noEchoOn rescaled (s.newPlant g) hno
    have hingress : ∀ r i, s.record n = some r → r.body = .ingress i →
        (s.slot n).reattributed rescaled (s.newPlant g) g.leg = s.slot n :=
      fun r i hrec hr => hother fun r' e hrec' hr' => by
        obtain rfl := Option.some.inj (hrec.symm.trans hrec')
        exact nomatch hr.symm.trans hr'
    refine ⟨fun hrec => ?free, fun r e hrec hr he => ?otherLeg,
      fun r e hrec hr he => ⟨fun hscaled hp => ?retired, fun hkept => ?kept⟩,
      fun r i hrec hr hnot => ?otherIngress, fun r i hrec hr hc hl => ?linked⟩
    case free =>
      rw [hother fun r e hrec' => nomatch hrec.symm.trans hrec']
      exact Slot.relink_of_not_confirmed _ fun r i hrec' => nomatch hrec.symm.trans hrec'
    case otherLeg =>
      rw [hother fun r' e' hrec' hr' => ?_, Slot.relink_of_echo _ hrec hr]
      obtain rfl := Option.some.inj (hrec.symm.trans hrec')
      obtain rfl := RecordBody.echo.inj (hr.symm.trans hr')
      exact he
    case retired =>
      rw [hscaled, Slot.reattributed_of_retired _ hrec hr he hp]
      exact Slot.relink_of_not_confirmed _ fun _ _ hnone => nomatch hnone
    case kept =>
      obtain ⟨hresting, hsuspect⟩ := State.echo_of_recordsSound hsound hrec hr
      rw [Slot.reattributed_of_kept rescaled _ hrec hr he hresting hsuspect hkept, State.newPlant_taps]
      exact Slot.relink_of_echo _ rfl rfl
    case otherIngress =>
      rw [hingress r i hrec hr]
      refine Slot.relink_of_not_confirmed _ fun r' i' hrec' hr' hc hl => ?_
      obtain rfl := Option.some.inj (hrec.symm.trans hrec')
      obtain rfl := RecordBody.ingress.inj (hr.symm.trans hr')
      exact hnot.elim (· hc) (· hl)
    case linked => rw [hingress r i hrec hr, Slot.relink_of_confirmed _ hrec hr hc hl]

end Sys2Proof.Machine
end

section
/-! Proofs, family 3, first part: the fields of the two reports in the order their bytes are sent, and the step tag by the
mode of the sequencer. -/

namespace Sys2Proof

theorem mem_allLegs (l : Leg) : l ∈ allLegs := by
  revert l
  decide

theorem toNat_append_byte {m : Nat} (x : BitVec m) (b : Byte) : (x ++ b).toNat = x.toNat * 256 + b.toNat := by
  rw [BitVec.toNat_append, ← Nat.shiftLeft_add_eq_or_of_lt b.isLt, Nat.shiftLeft_eq]

namespace Machine

/-! ### The fields of a report (R58, R195) -/

theorem reportField_eq (bits : BitVec 64) (low width : Nat) :
    reportField bits low width = bits.toNat / 2 ^ low % 2 ^ width := by
  rw [reportField, BitVec.extractLsb'_toNat, Nat.shiftRight_eq_div_pow]

section Kind
variable {bits : BitVec 64}

theorem readReport_of_burst (h : reportField bits 60 4 = 1) :
    readReport bits = .burst (reportField bits 56 4) (reportField bits 40 16) (reportField bits 24 16)
      (reportField bits 16 8) := by
  simp only [readReport, h]

theorem readReport_of_band (h : reportField bits 60 4 = 2) :
    readReport bits = .band (reportField bits 48 8) (bits.extractLsb' 32 16).toInt := by
  simp only [readReport, h]

theorem readReport_of_other (h1 : reportField bits 60 4 ≠ 1) (h2 : reportField bits 60 4 ≠ 2) :
    readReport bits = .other (reportField bits 60 4) := by
  dsimp only [readReport]
  split
  case h_1 burst => exact absurd burst h1
  case h_2 band => exact absurd band h2
  case h_3 => rfl

end Kind

section Bytes
variable (b0 b1 b2 b3 b4 b5 b6 b7 : Byte)

/-- The word of eight bytes, the first byte sent on top. -/
def reportWord : BitVec 64 := b0 ++ b1 ++ b2 ++ b3 ++ b4 ++ b5 ++ b6 ++ b7

/-- The value of the word by its bytes, in Horner's form: each field is then a quotient and a remainder of it. -/
theorem reportWord_toNat :
    (reportWord b0 b1 b2 b3 b4 b5 b6 b7).toNat =
      ((((((b0.toNat * 256 + b1.toNat) * 256 + b2.toNat) * 256 + b3.toNat) * 256 + b4.toNat) * 256 + b5.toNat) * 256 +
        b6.toNat) * 256 + b7.toNat := by
  simp only [reportWord, toNat_append_byte]

theorem reportWord_kind : reportField (reportWord b0 b1 b2 b3 b4 b5 b6 b7) 60 4 = b0.toNat / 16 := by
  rw [reportField_eq, reportWord_toNat]
  omega

theorem reportWord_rate : reportField (reportWord b0 b1 b2 b3 b4 b5 b6 b7) 56 4 = b0.toNat % 16 := by
  rw [reportField_eq, reportWord_toNat]
  omega

theorem reportWord_handle :
    reportField (reportWord b0 b1 b2 b3 b4 b5 b6 b7) 40 16 = b1.toNat * 256 + b2.toNat := by
  rw [reportField_eq, reportWord_toNat]
  omega

theorem reportWord_delay :
    reportField (reportWord b0 b1 b2 b3 b4 b5 b6 b7) 24 16 = b3.toNat * 256 + b4.toNat := by
  rw [reportField_eq, reportWord_toNat]
  omega

theorem reportWord_level : reportField (reportWord b0 b1 b2 b3 b4 b5 b6 b7) 16 8 = b5.toNat := by
  rw [reportField_eq, reportWord_toNat]
  omega

theorem reportWord_band : reportField (reportWord b0 b1 b2 b3 b4 b5 b6 b7) 48 8 = b1.toNat := by
  rw [reportField_eq, reportWord_toNat]
  omega

theorem reportWord_power : (reportWord b0 b1 b2 b3 b4 b5 b6 b7).extractLsb' 32 16 = b2 ++ b3 := by
  refine BitVec.eq_of_toNat_eq ?_
  rw [← reportField, reportField_eq, reportWord_toNat, toNat_append_byte]
  omega

theorem readReport_reportWord :
    let w := reportWord b0 b1 b2 b3 b4 b5 b6 b7
    let kind := b0.toNat / 16
    (kind = 1 → readReport w =
      .burst (b0.toNat % 16) (b1.toNat * 256 + b2.toNat) (b3.toNat * 256 + b4.toNat) b5.toNat) ∧
    (kind = 2 → readReport w = .band b1.toNat (b2 ++ b3 : BitVec 16).toInt) ∧
    (kind ≠ 1 → kind ≠ 2 → readReport w = .other kind) := by
  intro w kind
  have hkind : reportField w 60 4 = kind := reportWord_kind ..
  refine ⟨fun burst => ?_, fun band => ?_, fun notBurst notBand => ?_⟩
  · rw [readReport_of_burst (hkind.trans burst), reportWord_rate, reportWord_handle, reportWord_delay, reportWord_level]
  · rw [readReport_of_band (hkind.trans band), reportWord_band, reportWord_power]
  · rw [readReport_of_other (hkind.trans_ne notBurst) (hkind.trans_ne notBand), hkind]

end Bytes

/-! ### The step tag (R60) -/

section Tag
variable {s : State}

theorem State.anySettle_iff : s.anySettle = true ↔ ∃ l, (s.switch l).settle ≠ none := by
  simp only [State.anySettle, List.any_eq_true, mem_allLegs, true_and, Option.isSome_iff_ne_none]

theorem State.stepTag_of_ref {r : Round} {e : Nat} (h : s.mode = .active r .ref e) : s.stepTag = .refDwell s.roundNumber := by
  simp only [State.stepTag, h]

theorem State.stepTag_of_probe {r : Round} {l : Leg} {e : Nat} (h : s.mode = .active r (.probe l) e) :
    s.stepTag = .legDwell l s.roundNumber r.snap.depth := by
  simp only [State.stepTag, h]

theorem State.stepTag_of_settleStep {r : Round} {l : Leg} {e : Nat}
    (h : s.mode = .active r (.settleIn l) e ∨ s.mode = .active r (.settleOut l) e) : s.stepTag = .settle := by
  obtain h | h := h
  · simp only [State.stepTag, h]
  · simp only [State.stepTag, h]

theorem State.stepTag_of_closing {r : Round} (h : s.mode = .closing r) : s.stepTag = .settle := by
  simp only [State.stepTag, h]

theorem State.stepTag_of_manual {l : Leg} {d : Depth} {o : Origin} (h : s.mode = .manual l d o) : s.stepTag = .settle := by
  simp only [State.stepTag, h]

/-- In the modes that hold no leg out, the tag is the Leg Switch Controller's to decide. -/
theorem State.stepTag_of_resting
    (h : s.mode = .idle ∨ s.mode = .waitBudget ∨ s.mode = .paused ∨ s.mode = .locked) :
    s.stepTag = if s.anySettle then .settle else .quiet := by
  obtain h | h | h | h := h
  · simp only [State.stepTag, h]
  · simp only [State.stepTag, h]
  · simp only [State.stepTag, h]
  · simp only [State.stepTag, h]

end Tag

/-- Settles O19: the fields by arithmetic on the word's value, the tag by the mode of the sequencer. -/
theorem reportsAreReadAndTagged : Obligations.ReportsAreReadAndTagged := by
  unfold Obligations.ReportsAreReadAndTagged
  refine ⟨readReport_reportWord, fun s => ⟨fun _ _ => State.stepTag_of_ref, fun _ _ _ => State.stepTag_of_probe,
    fun _ _ _ => State.stepTag_of_settleStep, fun _ => State.stepTag_of_closing, fun _ _ _ => State.stepTag_of_manual,
    fun resting => ⟨fun pending => ?settle, fun settled => ?quiet⟩⟩⟩
  case settle => rw [State.stepTag_of_resting resting, if_pos (State.anySettle_iff.mpr pending)]
  case quiet =>
    have notPending : ¬ s.anySettle = true := fun pending =>
      let ⟨l, hl⟩ := State.anySettle_iff.mp pending
      hl (settled l)
    rw [State.stepTag_of_resting resting, if_neg notPending]

end Machine
end Sys2Proof
end

section
/-! Proofs, family 4: the bounds of the echo arithmetic, and the choice of the nearest candidate and of the nearest tap. -/

namespace Sys2Proof

/-! ### The least of a numbered list -/

section Numbered
variable {α β : Type} [LinearOrder β] {num : α → β} {xs : List α}

/-- Over a list in ascending number, the least by a strict weak order is the one item that every other item comes after, by the
order or, where neither comes before the other, by its number. -/
theorem least_eq_some_iff {lt : α → α → Bool} (asymm : ∀ a b, lt a b = true → lt b a = false)
    (negTrans : ∀ a b c, lt a b = false → lt b c = false → lt a c = false)
    (sorted : xs.Pairwise fun a b => num a < num b) {x : α} :
    least lt xs = some x ↔
      x ∈ xs ∧ ∀ y ∈ xs, num y ≠ num x → lt x y = true ∨ (lt y x = false ∧ num x < num y) := by
  constructor
  · refine fun h => ⟨least_mem lt h, fun y hy hne => ?_⟩
    obtain ⟨notBefore, rfl | before | lower⟩ := least_spec asymm negTrans sorted h y hy
    · exact absurd rfl hne
    · exact .inl before
    · exact .inr ⟨notBefore, lower⟩
  · rintro ⟨hx, hfirst⟩
    obtain ⟨z, hz⟩ := Option.isSome_iff_exists.mp (least_isSome lt (List.ne_nil_of_mem hx))
    have hzmem : z ∈ xs := least_mem lt hz
    obtain ⟨notBefore, hcase⟩ := least_spec asymm negTrans sorted hz x hx
    have hnum : num z = num x := by
      by_contra hne
      obtain before | ⟨notAfter, lower⟩ := hfirst z hzmem hne
      · exact Bool.false_ne_true (notBefore.symm.trans before)
      · obtain rfl | after | higher := hcase
        · exact hne rfl
        · exact Bool.false_ne_true (notAfter.symm.trans after)
        · exact lt_asymm lower higher
    have distinct : (xs.map num).Nodup := List.pairwise_map.mpr (sorted.imp ne_of_lt)
    rw [hz, List.inj_on_of_nodup_map distinct hzmem hx hnum]

/-- The number of the least by a distance: the smallest distance, and the lowest number among equals. -/
theorem map_least_eq_some_iff {key : α → Nat} (sorted : xs.Pairwise fun a b => num a < num b) {k : β} :
    (least (fun a b => decide (key a < key b)) xs).map num = some k ↔
      ∃ x ∈ xs, num x = k ∧ ∀ y ∈ xs, num y ≠ k → key x < key y ∨ (key x = key y ∧ k < num y) := by
  have htie : ∀ (a b : Nat) (P : Prop), a < b ∨ ¬ b < a ∧ P ↔ a < b ∨ a = b ∧ P := fun a b P =>
    or_congr_right' fun hnot => and_congr_left fun _ => by omega
  have hleast : ∀ x, least (fun a b => decide (key a < key b)) xs = some x ↔
      x ∈ xs ∧ ∀ y ∈ xs, num y ≠ num x → key x < key y ∨ (key x = key y ∧ num x < num y) := fun x => by
    rw [least_eq_some_iff (fun a b => by simpa using le_of_lt) (fun a b c => by simpa using fun hba hcb => hcb.trans hba)
      sorted]
    simp only [decide_eq_true_eq, decide_eq_false_iff_not, htie]
  rw [Option.map_eq_some_iff]
  constructor
  · rintro ⟨x, hx, rfl⟩
    obtain ⟨hmem, hfirst⟩ := (hleast x).mp hx
    exact ⟨x, hmem, rfl, hfirst⟩
  · rintro ⟨x, hmem, rfl, hfirst⟩
    exact ⟨x, (hleast x).mpr ⟨hmem, hfirst⟩, rfl⟩

end Numbered

namespace Machine

/-! ### From delay to distance (R73) -/

theorem rateConstant_eq_getD {rate : Nat} (h : rate ≤ 3) :
    rateConstant rate = [153494, 76747, 38373, 19187].getD rate 0 := by
  interval_cases rate <;> rfl

/-- A faster symbol rate has a smaller constant. -/
theorem rateConstant_antitone : Antitone rateConstant := by
  refine antitone_nat_of_succ_le fun rate => ?_
  match rate with
  | 0 | 1 | 2 => decide
  | _ + 3 => exact le_rfl

theorem echoProduct_le {delay delay' vf vf' rate rate' : Nat} (hdelay : delay ≤ delay') (hvf : vf ≤ vf')
    (hrate : rate' ≤ rate) : delay * vf * rateConstant rate ≤ delay' * vf' * rateConstant rate' :=
  Nat.mul_le_mul (Nat.mul_le_mul hdelay hvf) (rateConstant_antitone hrate)

theorem echoDistance_le {delay delay' vf vf' rate rate' : Nat} (hdelay : delay ≤ delay') (hvf : vf ≤ vf')
    (hrate : rate' ≤ rate) : echoDistance delay vf rate ≤ echoDistance delay' vf' rate' :=
  Nat.div_le_div_right (Nat.add_le_add_right (echoProduct_le hdelay hvf hrate) 524288)

theorem echoDistance_least : echoDistance 16 600 3 = 176 := rfl

theorem echoDistance_greatest : echoDistance 383 990 0 = 55504 := rfl

/-! ### The running position (R83, R85) -/

/-- A mean that weighs the old value `w` times and the new one once, with half the divisor added, leaves neither side. -/
theorem roundedMean_mem_Icc (position w p : Nat) :
    (position * w + p + (w + 1) / 2) / (w + 1) ∈ Set.Icc (min position p) (max position p) := by
  have low : min position p * w ≤ position * w := Nat.mul_le_mul_right w (min_le_left ..)
  have high : position * w ≤ max position p * w := Nat.mul_le_mul_right w (le_max_left ..)
  constructor
  · rw [Nat.le_div_iff_mul_le w.succ_pos, Nat.mul_succ]
    omega
  · rw [← Nat.lt_succ_iff, Nat.div_lt_iff_lt_mul w.succ_pos, Nat.succ_mul, Nat.mul_succ]
    omega

/-- Settles O21: both bounds of the distance by monotonicity from the two ends of the input range, those of the running position by
the bounds of a rounded mean. -/
theorem echoArithmeticRoundsHalfUp : Obligations.EchoArithmeticRoundsHalfUp := by
  unfold Obligations.EchoArithmeticRoundsHalfUp
  refine ⟨⟨fun delay vf rate hrate => ?formula, fun delay vf rate hlow hhigh hslow hfast hrate => ⟨?least, ?greatest, ?product⟩,
    echoDistance_least, echoDistance_greatest⟩, fun position n p => ⟨rfl, roundedMean_mem_Icc position (min n 15) p⟩⟩
  case formula => rw [echoDistance, rateConstant_eq_getD hrate]
  case least => exact echoDistance_least.symm.trans_le (echoDistance_le hlow hslow hrate)
  case greatest => exact (echoDistance_le hhigh hfast rate.zero_le).trans_eq echoDistance_greatest
  case product =>
    rw [← rateConstant_eq_getD hrate]
    exact echoProduct_le hhigh hfast rate.zero_le

/-! ### Matching (R78, R79) -/

theorem apart_eq_natAbs (a b : Nat) : apart a b = ((a : Int) - b).natAbs := by
  rw [apart]
  omega

/-- R78: an echo record that an observation may be matched to. -/
def State.isCandidate (s : State) (o : Observation) (n : SlotNo) (r : Record) (e : EchoPart) : Prop :=
  s.record n = some r ∧ r.body = .echo e ∧ e.leg = o.leg ∧
    (r.state = .suspect ∨ r.state = .confirmed ∨ r.state = .cleared) ∧ r.frozen = false ∧
    ((o.position : Int) - e.position).natAbs ≤ s.settings.matchWindow

/-- The candidates of an observation by their numbers, each with its distance. -/
def State.candidates (s : State) (o : Observation) : List (SlotNo × Nat) :=
  s.records.filterMap fun p => (p.2.candidateDistance s.settings.matchWindow o).map fun d => (p.1, d)

theorem State.matchEcho_eq (s : State) (o : Observation) :
    s.matchEcho o = (least (fun a b => decide (a.2 < b.2)) (s.candidates o)).map Prod.fst := rfl

theorem Record.candidateDistance_eq_some_iff {window : Nat} {o : Observation} {r : Record} {d : Nat} :
    r.candidateDistance window o = some d ↔
      ∃ e, r.body = .echo e ∧ (e.leg = o.leg ∧ (r.state = .suspect ∨ r.state = .confirmed ∨ r.state = .cleared) ∧
        r.frozen = false ∧ ((o.position : Int) - e.position).natAbs ≤ window) ∧
        ((o.position : Int) - e.position).natAbs = d := by
  cases hr : r.body with
  | ingress g => simp [Record.candidateDistance, hr]
  | echo e => simp [Record.candidateDistance, hr, apart_eq_natAbs]

theorem State.mem_candidates {s : State} {o : Observation} {n : SlotNo} {d : Nat} :
    (n, d) ∈ s.candidates o ↔
      ∃ r e, s.isCandidate o n r e ∧ ((o.position : Int) - e.position).natAbs = d := by
  simp only [State.candidates, List.mem_filterMap, State.mem_records, Option.map_eq_some_iff, Prod.mk.injEq, Prod.exists,
    Record.candidateDistance_eq_some_iff, State.isCandidate]
  constructor
  · rintro ⟨n', r, hrec, d', ⟨e, hr, hcand, hdist⟩, rfl, rfl⟩
    exact ⟨r, e, ⟨hrec, hr, hcand⟩, hdist⟩
  · rintro ⟨r, e, ⟨hrec, hr, hcand⟩, hdist⟩
    exact ⟨n, r, hrec, d, ⟨e, hr, hcand, hdist⟩, rfl, rfl⟩

theorem State.candidates_sorted (s : State) (o : Observation) : (s.candidates o).Pairwise fun p q => p.1 < q.1 := by
  refine List.Pairwise.filterMap _ (fun p q hpq p' hp' q' hq' => ?_) s.records_sorted
  obtain ⟨_, _, rfl⟩ := Option.map_eq_some_iff.mp hp'
  obtain ⟨_, _, rfl⟩ := Option.map_eq_some_iff.mp hq'
  exact hpq

theorem State.matchEcho_eq_none_iff (s : State) (o : Observation) :
    s.matchEcho o = none ↔ ∀ n r e, ¬ s.isCandidate o n r e := by
  rw [s.matchEcho_eq, Option.map_eq_none_iff, least_eq_none_iff, List.eq_nil_iff_forall_not_mem]
  constructor
  · exact fun h n r e hcand => h (n, _) (State.mem_candidates.mpr ⟨r, e, hcand, rfl⟩)
  · rintro h ⟨n, d⟩ hmem
    obtain ⟨r, e, hcand, -⟩ := State.mem_candidates.mp hmem
    exact h n r e hcand

theorem State.matchEcho_eq_some_iff (s : State) (o : Observation) (n : SlotNo) :
    s.matchEcho o = some n ↔
      ∃ r e, s.isCandidate o n r e ∧ ∀ m q f, s.isCandidate o m q f → m ≠ n →
        ((o.position : Int) - e.position).natAbs < ((o.position : Int) - f.position).natAbs ∨
          (((o.position : Int) - e.position).natAbs = ((o.position : Int) - f.position).natAbs ∧ n < m) := by
  rw [s.matchEcho_eq, map_least_eq_some_iff (key := Prod.snd) (s.candidates_sorted o)]
  constructor
  · rintro ⟨⟨n', d⟩, hmem, rfl, hnearest⟩
    obtain ⟨r, e, hcand, rfl⟩ := State.mem_candidates.mp hmem
    exact ⟨r, e, hcand, fun m q f hother hne => hnearest (m, _) (State.mem_candidates.mpr ⟨q, f, hother, rfl⟩) hne⟩
  · rintro ⟨r, e, hcand, hnearest⟩
    refine ⟨(n, _), State.mem_candidates.mpr ⟨r, e, hcand, rfl⟩, rfl, ?_⟩
    rintro ⟨m, d⟩ hmem hne
    obtain ⟨q, f, hother, rfl⟩ := State.mem_candidates.mp hmem
    exact hnearest m q f hother hne

/-! ### Tap attribution (R25) -/

theorem zipIdx_sorted {α : Type} (xs : List α) : xs.zipIdx.Pairwise fun a b => a.2 < b.2 := by
  rw [← List.pairwise_map (f := Prod.snd) (R := (· < ·)), List.zipIdx_map_snd]
  exact List.pairwise_lt_range'

theorem nearestTap_eq_some_iff (taps : List Nat) (position k : Nat) :
    nearestTap taps position = some k ↔
      ∃ d : Nat, taps[k]? = some d ∧ ∀ j e : Nat, taps[j]? = some e → j ≠ k →
        ((position : Int) - d).natAbs < ((position : Int) - e).natAbs ∨
          (((position : Int) - d).natAbs = ((position : Int) - e).natAbs ∧ k < j) := by
  have hdist : ∀ a, apart a position = ((position : Int) - a).natAbs := fun a => by
    rw [apart_eq_natAbs, ← Int.natAbs_neg, Int.neg_sub]
  rw [nearestTap, map_least_eq_some_iff (key := fun a : Nat × Nat => apart a.1 position) (zipIdx_sorted taps)]
  simp only [Prod.exists, Prod.forall, List.mem_zipIdx_iff_getElem?, hdist]
  constructor
  · rintro ⟨d, _, htap, rfl, hnearest⟩
    exact ⟨d, htap, fun j e => hnearest e j⟩
  · rintro ⟨d, htap, hnearest⟩
    exact ⟨d, k, htap, rfl, fun e j => hnearest j e⟩

/-- Settles O23: both choices are the least by distance of a list in ascending number. -/
theorem nearestCandidatesAndTapsAreChosen : Obligations.NearestCandidatesAndTapsAreChosen := by
  unfold Obligations.NearestCandidatesAndTapsAreChosen
  refine ⟨fun s o => ⟨s.matchEcho_eq_none_iff o, s.matchEcho_eq_some_iff o⟩, fun taps position =>
    ⟨fun empty => ?_, nearestTap_eq_some_iff taps position⟩⟩
  rw [empty]
  rfl

end Machine
end Sys2Proof
end

section
/-! Proofs, family 6: a dispatched band report, what it does to the baseline, to the band's ingress record, and to the sums of
the round in progress. -/

namespace Sys2Proof

/-- The first item of a list in ascending number that meets a test is the one that no lower item shares the test with. -/
theorem find?_eq_some_of_sorted {α β : Type} [LinearOrder β] {num : α → β} {p : α → Bool} {xs : List α}
    (sorted : xs.Pairwise fun a b => num a < num b) {x : α} (hmem : x ∈ xs) (hx : p x = true)
    (hbelow : ∀ y ∈ xs, num y < num x → p y = false) : xs.find? p = some x := by
  induction xs with
  | nil => simp at hmem
  | cons head tail ih =>
    obtain ⟨headBelow, tailSorted⟩ := List.pairwise_cons.mp sorted
    obtain rfl | htail := List.mem_cons.mp hmem
    · exact List.find?_cons_of_pos hx
    · rw [List.find?_cons_of_neg (by simp [hbelow head List.mem_cons_self (headBelow x htail)])]
      exact ih tailSorted htail fun y hy => hbelow y (List.mem_cons_of_mem head hy)

namespace Machine

/-! ### A dispatched band report (R63 to R67, R105) -/

@[simp] theorem State.band_popped (s : State) (rest : List QueuedReport) (b : Band) : (s.popped rest).band b = s.band b := rfl
@[simp] theorem State.roundNumber_popped (s : State) (rest : List QueuedReport) :
    (s.popped rest).roundNumber = s.roundNumber := rfl

/-- The head entry leaves the queue, HOLD is released at 48, and the report is judged. -/
theorem exec_dispatch_of_queue {s : State} {x : QueuedReport} {rest : List QueuedReport} (hdue : s.nothingDue = true)
    (hq : s.queue = x :: rest) : exec .dispatch s = .next ((s.popped rest).handleReport x) := by
  have hhold : holdAfterDispatch s.hold rest.length = (s.hold && decide (49 ≤ rest.length)) := by
    rw [holdAfterDispatch, ← decide_not, Config.holdReleaseAt]
    simp only [Nat.not_le, Nat.succ_le_iff]
  show Host.Outcome.next s.caughtUp.dispatchHead = _
  rw [State.caughtUp_of_nothingDue hdue, State.dispatchHead, hq]
  simp only [State.popped, hhold]

theorem State.handleReport_band (s : State) (b : Band) (power : Int) (stamps : Stamps) :
    s.handleReport { report := .band b.val power, stamps := stamps } =
      s.handleBand b (max (-240) (min power 240)) stamps :=
  dif_pos b.isLt

theorem exec_dispatch_of_band {s : State} {b : Band} {power : Int} {stamps : Stamps} {rest : List QueuedReport}
    (hdue : s.nothingDue = true) (hq : s.queue = { report := .band b.val power, stamps := stamps } :: rest) :
    exec .dispatch s = .next ((s.popped rest).handleBand b (max (-240) (min power 240)) stamps) := by
  rw [exec_dispatch_of_queue hdue hq, State.handleReport_band]

theorem State.handleBand_quiet (s : State) (b : Band) (power : Int) (second : Word32) :
    s.handleBand b power { second := second, tag := .quiet } = s.quietBand b power second := rfl

/-! ### The baseline (R106, R107) -/

section Quiet
variable {s : State} {b : Band} {power : Int} {second : Word32}

theorem State.quietBand_of_first (h : (s.band b).baseline = none) :
    s.quietBand b power second = s.setBand b { baseline := some power, streak := 0 } := by
  simp only [State.quietBand, h]

theorem State.quietBand_of_below {base : Int} (h : (s.band b).baseline = some base)
    (hlow : power - base < s.settings.ingressExcess) :
    s.quietBand b power second = s.setBand b { baseline := some (base + (power - base).tdiv 16), streak := 0 } := by
  simp only [State.quietBand, h, if_pos hlow]

theorem State.quietBand_of_detecting {base : Int} (h : (s.band b).baseline = some base)
    (hhigh : (s.settings.ingressExcess : Int) ≤ power - base) :
    s.quietBand b power second = s.detect b (power - base).toNat second := by
  simp only [State.quietBand, h, if_neg (Int.not_lt.mpr hhigh)]

end Quiet

/-- The sixteenfold of the truncated sixteenth lies between 0 and the number, less than 16 from it. -/
theorem tdiv_sixteen_cases (x : Int) :
    (0 ≤ x ∧ 16 * x.tdiv 16 ≤ x ∧ x < 16 * x.tdiv 16 + 16) ∨ (x < 0 ∧ x ≤ 16 * x.tdiv 16 ∧ 16 * x.tdiv 16 < x + 16) := by
  obtain hx | hx := le_or_gt 0 x
  · rw [Int.tdiv_eq_ediv_of_nonneg hx]
    omega
  · have hneg : -x.tdiv 16 = -x / 16 := by
      rw [← Int.neg_tdiv, Int.tdiv_eq_ediv_of_nonneg (Int.neg_nonneg_of_nonpos hx.le)]
    omega

/-- Settles O28: a quiet report below the threshold writes the band's entry, and the truncated sixteenth bounds the step. -/
theorem quietReportsMoveTheBaseline : Obligations.QuietReportsMoveTheBaseline := by
  unfold Obligations.QuietReportsMoveTheBaseline
  refine ⟨?first, ?later⟩
  case first =>
    intro s b power second rest hdue hq hfirst
    rw [exec_dispatch_of_band hdue hq, State.handleBand_quiet, State.quietBand_of_first (s := s.popped rest) hfirst]
  case later =>
    intro s b power second rest base hdue hq hbase p hlow
    have hp : -240 ≤ p ∧ p ≤ 240 := by omega
    have hstep := tdiv_sixteen_cases (p - base)
    refine ⟨?_, by omega, by omega, by omega, by omega, by omega, by omega⟩
    rw [exec_dispatch_of_band hdue hq, State.handleBand_quiet, State.quietBand_of_below (s := s.popped rest) hbase hlow]

/-! ### The ingress record of a band (R108) -/

theorem State.ingressSlot_eq_some {s : State} {b : Band} {n : SlotNo} {r : Record} (hrec : s.record n = some r)
    (hr : r.ingressOf b = true) (hbelow : ∀ m q, m < n → s.record m = some q → q.ingressOf b = false) :
    s.ingressSlot b = some n := by
  have hfound : (s.records.find? fun p => p.2.ingressOf b) = some (n, r) :=
    find?_eq_some_of_sorted s.records_sorted (State.mem_records.mpr hrec) hr fun p hp hlt =>
      hbelow p.1 p.2 hlt (State.mem_records.mp hp)
  rw [State.ingressSlot, hfound, Option.map_some]

theorem Record.ingressOf_of_ingress {r : Record} {g : IngressPart} (h : r.body = .ingress g) : r.ingressOf g.band = true := by
  simp [Record.ingressOf, h]

theorem State.detect_of_ingressSlot {s : State} {b : Band} {n : SlotNo} (excess : Nat) (second : Word32)
    (h : s.ingressSlot b = some n) :
    s.detect b excess second =
      (s.setBand b { baseline := (s.band b).baseline, streak := min 8 ((s.band b).streak + 1) }).feedIngress n excess
        (min 8 ((s.band b).streak + 1)) second := by
  simp only [State.detect, h]

/-! ### One slot written more than once -/

theorem State.setSlot_setSlot (s : State) (n : SlotNo) (x y : Slot) : (s.setSlot n x).setSlot n y = s.setSlot n y := by
  have hset : (s.table.set n.val x).set n.val y = s.table.set n.val y := by
    ext i hi
    by_cases h : n.val = i <;> simp [h]
  show s.withTable ((s.table.set n.val x).set n.val y) = s.withTable (s.table.set n.val y)
  rw [hset]

@[simp] theorem State.waitQueue_setSlot (s : State) (n : SlotNo) (x : Slot) : (s.setSlot n x).waitQueue = s.waitQueue := rfl

@[simp] theorem State.record_setSlot_self (s : State) (n : SlotNo) (x : Slot) : (s.setSlot n x).record n = x.record := by
  rw [State.record, State.slot_setSlot_self]

theorem State.putRecord_eq_setSlot_of_unchanged (s : State) (n : SlotNo) (r : Record) :
    s.putRecord n r false = s.setSlot n { s.slot n with record := some r } := by
  rw [State.putRecord, Bool.or_false]

theorem State.putRecord_setSlot (s : State) (n : SlotNo) (x : Slot) (r : Record) (changed : Bool) :
    (s.setSlot n x).putRecord n r changed =
      s.setSlot n { gen := x.gen, changed := x.changed || changed, record := some r } := by
  rw [State.putRecord, State.slot_setSlot_self, State.setSlot_setSlot]

/-! ### Evidence and reopening (R109, R112, R113) -/

theorem Record.addEvidence_of_ingress {r : Record} {g : IngressPart} (scoreAdd strength : Nat) (second : Word32)
    (h : r.body = .ingress g) :
    r.addEvidence scoreAdd strength second =
      { r with
        score := min 100 (r.score + scoreAdd), observations := min 65535 (r.observations + 1)
        lastEvidence := second, severity := max r.severity (min strength 255) } := by
  simp only [Record.addEvidence, h]

/-- A DORMANT or CLEARED ingress record as its reopening leaves it (R112). -/
def Record.reopened (g : IngressPart) (r : Record) : Record :=
  { r with
    state := .probeWait, acknowledged := false, retention := none
    recurrences := min 255 (r.recurrences + 1), frozen := false
    body := .ingress { g with leg := none, link := none, attempts := 0, voidStreak := 0 } }

/-- An ingress record in a state that a detection reopens, without the fields that R5 denies it there: no link in either state,
and no leg and no retention in DORMANT. -/
structure Record.Reopenable (g : IngressPart) (r : Record) : Prop where
  state : r.state = .cleared ∨ r.state = .dormant
  link : g.link = none
  leg : r.state = .dormant → g.leg = none
  retention : r.state = .dormant → r.retention = none

theorem Record.reopenable_of_sound {plant : PerLeg LegMap} {r : Record} {g : IngressPart} (h : r.sound plant = true)
    (hr : r.body = .ingress g) (hs : r.state = .cleared ∨ r.state = .dormant) : r.Reopenable g := by
  simp only [Record.sound, hr, IngressPart.sound, Record.rangesSound, Bool.and_eq_true, Bool.or_eq_true, beq_iff_eq] at h
  obtain ⟨⟨⟨⟨-, hretention⟩, -⟩, -⟩, ⟨-, hleg⟩, hlink⟩ := h
  refine ⟨hs, hlink.resolve_right fun hc => ?_, fun hd => ?_, fun hd => ?_⟩
  · simp [hc] at hs
  · cases hg : g.leg with
    | none => rfl
    | some l => simp [hg, hd] at hleg
  · cases hk : r.retention with
    | none => rfl
    | some k => simp [hk, hd] at hretention

/-- The entry into PROBE_WAIT after R112's counts are written takes away what R5 says. -/
theorem Record.enter_probeWait_eq_reopened {r : Record} {g : IngressPart} (h : r.Reopenable g) :
    Record.enter .probeWait
        { r with
          recurrences := min 255 (r.recurrences + 1)
          body := .ingress { g with attempts := 0, voidStreak := 0 } } =
      r.reopened g := by
  obtain hs | hs := h.state
  · simp [Record.enter, Record.reopened, RecordBody.agree, RecordBody.stillFrozen, hs, h.link]
  · simp [Record.enter, Record.reopened, RecordBody.agree, RecordBody.stillFrozen, hs, h.link, h.leg hs, h.retention hs]

theorem State.startTestIfIdle_eq (s : State) : s.startTestIfIdle = if s.mode = .idle then s.startTest else s := by
  cases hm : s.mode <;> simp [State.startTestIfIdle, hm]

theorem State.joinQueue_setSlot (s : State) (n : SlotNo) (gen : Byte) (changed : Bool) (r : Record) (second : Word32) :
    (s.setSlot n { gen := gen, changed := changed, record := some r }).joinQueue n second =
      ((s.setSlot n { gen := gen, changed := changed, record := some r }).withWaitQueue
        (insertEntry { name := { num := n, gen := gen }, excess := r.severity, second := second }
          s.waitQueue)).startTestIfIdle := by
  simp [State.joinQueue, State.nameOf]

theorem State.reopen_setSlot (s : State) {n : SlotNo} {r : Record} {g : IngressPart} (x : Slot) (second : Word32)
    (hr : r.body = .ingress g) (h : r.Reopenable g) :
    (s.setSlot n { x with record := some r }).reopen n second =
      (s.setSlot n { gen := x.gen, changed := true, record := some (r.reopened g) }).joinQueue n second := by
  have hne : r.state ≠ .probeWait := by obtain hs | hs := h.state <;> simp [hs]
  simp only [State.reopen, State.record_setSlot_self, hr, State.putRecord_setSlot, State.enterState, if_neg hne,
    Record.enter_probeWait_eq_reopened h, State.raiseEntry, Bool.or_true]

section Feed
variable {s : State} {n : SlotNo} {r : Record} (excess streak : Nat) (second : Word32)

theorem State.feedIngress_of_fed (hrec : s.record n = some r)
    (h : streak < s.settings.ingressStreak ∨ (r.state ≠ .dormant ∧ r.state ≠ .cleared)) :
    s.feedIngress n excess streak second =
      s.setSlot n { s.slot n with record := some (r.addEvidence s.settings.scoreAdd excess second) } := by
  have hshort (hs : r.state = .dormant ∨ r.state = .cleared) : ¬ s.settings.ingressStreak ≤ streak :=
    Nat.not_le.mpr (h.resolve_right fun hne => hs.elim hne.1 hne.2)
  rw [← State.putRecord_eq_setSlot_of_unchanged]
  cases hs : r.state with
  | dormant => simp only [State.feedIngress, hrec, hs, if_neg (hshort (.inl hs))]
  | cleared => simp only [State.feedIngress, hrec, hs, if_neg (hshort (.inr hs))]
  | suspect | probeWait | probing | confirmed | unresolved => simp only [State.feedIngress, hrec, hs]

theorem State.feedIngress_of_reopened {g : IngressPart} (hrec : s.record n = some r) (hr : r.body = .ingress g)
    (hstreak : s.settings.ingressStreak ≤ streak) (h : r.Reopenable g) :
    s.feedIngress n excess streak second =
      (s.setSlot n
        { gen := (s.slot n).gen, changed := true
          record := some ((r.addEvidence s.settings.scoreAdd excess second).reopened g) }).joinQueue n second := by
  have hfed : (r.addEvidence s.settings.scoreAdd excess second).Reopenable g := ⟨h.state, h.link, h.leg, h.retention⟩
  rw [← State.reopen_setSlot (r := r.addEvidence s.settings.scoreAdd excess second) s (s.slot n) second hr hfed,
    ← State.putRecord_eq_setSlot_of_unchanged]
  obtain hs | hs := h.state <;> simp only [State.feedIngress, hrec, hs, if_pos hstreak]

end Feed

/-- Settles O30: the band's record is found, fed, and reopened by the two cases of its feeding. -/
theorem detectionFeedsTheIngressRecord : Obligations.DetectionFeedsTheIngressRecord := by
  unfold Obligations.DetectionFeedsTheIngressRecord
  rintro s _ power second rest base n r g hdue hq hbase hrec hr rfl hbelow excess streak counted fed hhigh
  have hfed : r.addEvidence counted.settings.scoreAdd excess.toNat second = fed := Record.addEvidence_of_ingress _ _ _ hr
  have hslot : (s.popped rest).ingressSlot g.band = some n :=
    State.ingressSlot_eq_some hrec (Record.ingressOf_of_ingress hr) hbelow
  have hdispatch : exec .dispatch s = .next (counted.feedIngress n excess.toNat streak second) := by
    rw [exec_dispatch_of_band hdue hq, State.handleBand_quiet,
      State.quietBand_of_detecting (s := s.popped rest) hbase hhigh, State.detect_of_ingressSlot _ _ hslot,
      State.band_popped, hbase]
  refine ⟨?fed, ?reopened⟩
  case fed =>
    intro hstays
    rw [hdispatch, State.feedIngress_of_fed (s := counted) _ _ _ hrec hstays, hfed]
    rfl
  case reopened =>
    intro hstreak hstate hsound joined
    have hreopenable : r.Reopenable g :=
      Record.reopenable_of_sound (List.all_eq_true.mp hsound (n, r) (State.mem_records.mpr hrec)) hr hstate
    rw [hdispatch, State.feedIngress_of_reopened (s := counted) _ _ _ hrec hr hstreak hreopenable, State.joinQueue_setSlot,
      State.startTestIfIdle_eq, hfed]
    rfl

/-! ### The sums of a round (R105, R114) -/

/-- The state with another round in progress, in the step that it stands in. -/
def State.withRound (new : Round) (s : State) : State :=
  match s.mode with
  | .active _ step elapsed => s.withMode (.active new step elapsed)
  | _ => s.withMode (.closing new)

section Dwell
variable {s : State} {b : Band} {power : Int} {tag : StepTag} {r : Round}

theorem State.dwellBand_of_probed (hround : s.round = some r) (htag : tag.belongsTo s.roundNumber = true)
    (hband : s.probedBand r = some b) : s.dwellBand b power tag = s.withRound (r.addSum tag power) := by
  simp only [State.dwellBand, hround, if_pos (And.intro htag hband)]
  cases hm : s.mode with
  | active r' step elapsed | closing r' =>
    obtain rfl : r' = r := by simpa only [State.round, hm, Option.some.injEq] using hround
    simp only [State.withRound, hm]
  | idle | waitBudget | paused | manual _ _ _ | locked => simp [State.round, hm] at hround

theorem State.dwellBand_of_other
    (h : s.round = none ∨ tag.belongsTo s.roundNumber = false ∨ ∃ r, s.round = some r ∧ s.probedBand r ≠ some b) :
    s.dwellBand b power tag = s := by
  cases hr : s.round with
  | none => simp only [State.dwellBand, hr]
  | some r =>
    have hnot : ¬ (tag.belongsTo s.roundNumber = true ∧ s.probedBand r = some b) := by
      rintro ⟨htag, hband⟩
      simp [hr, htag, hband] at h
    simp only [State.dwellBand, hr, if_neg hnot]

end Dwell

theorem Round.addSum_refDwell (r : Round) (k : Byte) (power : Int) :
    r.addSum (.refDwell k) power = { r with refSum := r.refSum.add power } := rfl

theorem Round.addSum_legDwell {r : Round} {l : Leg} (k : Byte) (depth : Depth) (power : Int)
    (h : r.marks.get l ≠ .notInSnapshot) :
    r.addSum (.legDwell l k depth) power = { r with legSums := r.legSums.set l ((r.legSums.get l).add power) } := by
  cases hm : r.marks.get l <;> simp_all [Round.addSum]

theorem State.handleBand_refDwell (s : State) (b : Band) (power : Int) (second : Word32) (k : Byte) :
    s.handleBand b power { second := second, tag := .refDwell k } = s.dwellBand b power (.refDwell k) := rfl

theorem State.handleBand_legDwell (s : State) (b : Band) (power : Int) (second : Word32) (l : Leg) (k : Byte) (depth : Depth) :
    s.handleBand b power { second := second, tag := .legDwell l k depth } = s.dwellBand b power (.legDwell l k depth) := rfl

/-- Settles O31: a report of the probed band goes to the sum its tag names, and any other leaves the state as popped. -/
theorem dwellReportsAreSummed : Obligations.DwellReportsAreSummed := by
  unfold Obligations.DwellReportsAreSummed
  intro s b power second tag rest hdue hq p added
  refine ⟨fun round hround hband => ⟨?ref, ?leg⟩, ?ignored⟩
  case ref =>
    rintro rfl
    rw [exec_dispatch_of_band hdue hq, State.handleBand_refDwell,
      State.dwellBand_of_probed (s := s.popped rest) hround (by simp [StepTag.belongsTo]) hband, Round.addSum_refDwell]
    rfl
  case leg =>
    rintro l depth rfl hmark
    rw [exec_dispatch_of_band hdue hq, State.handleBand_legDwell,
      State.dwellBand_of_probed (s := s.popped rest) hround (by simp [StepTag.belongsTo]) hband,
      Round.addSum_legDwell _ _ _ hmark]
    rfl
  case ignored =>
    intro k htag hother
    have hignored : (s.popped rest).dwellBand b p tag = s.popped rest := by
      refine State.dwellBand_of_other (hother.imp_right (Or.imp_left fun hk => ?_))
      obtain rfl | ⟨l, depth, rfl⟩ := htag <;> simpa [StepTag.belongsTo] using hk
    rw [exec_dispatch_of_band hdue hq]
    obtain rfl | ⟨l, depth, rfl⟩ := htag
    · rw [State.handleBand_refDwell, hignored]
    · rw [State.handleBand_legDwell, hignored]

end Machine
end Sys2Proof
end

section
/-! Proofs, family 7: the start of a round, the mean and the drops of a round's sums, and the outcome they give. -/

namespace Sys2Proof
namespace Machine

/-! ### The start of a round (R128) -/

theorem exec_roundStart_of_due {s : State} (h : s.roundStartDue = true) : exec .roundStart s = .next s.startRound := by
  change Host.Outcome.next s.takeStart = _
  rw [State.takeStart, if_pos h]

/-- From PROBE_WAIT to PROBING, R5 takes no field of the body away. -/
theorem RecordBody.agree_probeWait_probing (b : RecordBody) : b.agree .probeWait .probing = b := by
  cases b <;> simp [RecordBody.agree]

theorem Record.enter_probing {r : Record} (h : r.state = .probeWait) :
    r.enter .probing =
      { r with state := .probing, acknowledged := false, frozen := r.body.stillFrozen r.frozen } := by
  simp [Record.enter, h, RecordBody.agree_probeWait_probing]

/-- A sound PROBE_WAIT record is an ingress record without a leg, so that it lies in no zone (R4, R5, R24). -/
theorem Record.stillFrozen_of_sound_probeWait {plant : PerLeg LegMap} {r : Record} (hsound : r.sound plant = true)
    (h : r.state = .probeWait) : r.body.stillFrozen r.frozen = false := by
  cases hr : r.body with
  | echo e => simp [Record.sound, hr, EchoPart.sound, h] at hsound
  | ingress g =>
    have hleg : g.leg = none := by
      cases hl : g.leg with
      | none => rfl
      | some l => simp [Record.sound, hr, IngressPart.sound, h, hl] at hsound
    simp [RecordBody.stillFrozen, hleg]

/-- A slot that a name still fits holds the record of the name. -/
theorem State.record_of_named {s : State} {name : RecordName} {r : Record} (h : s.named name = some r) :
    s.record name.num = some r := by
  rw [State.named] at h
  split at h
  · exact h
  · exact absurd h nofun

theorem State.enterState_probing {s : State} {n : SlotNo} {r : Record} (hrec : s.record n = some r)
    (h : r.state = .probeWait) :
    s.enterState n .probing = s.setSlot n { gen := (s.slot n).gen, changed := true, record := some (r.enter .probing) } := by
  simp [State.enterState, hrec, h, State.raiseEntry, State.putRecord]

theorem State.startRound_of_probeWait {s : State} {head : WaitEntry} {rest : List WaitEntry} {r : Record}
    (hq : s.waitQueue = head :: rest) (hnamed : s.named head.name = some r) (h : r.state = .probeWait) :
    s.startRound =
      (((s.withRoundNumber (s.roundNumber + 1)).withWaitQueue rest).setSlot head.name.num
        { gen := (s.slot head.name.num).gen, changed := true, record := some (r.enter .probing) }).withMode
          (.active (s.newRound head.name) .ref 0) := by
  let counted := (s.withRoundNumber (s.roundNumber + 1)).withWaitQueue rest
  have hcounted : counted.named head.name = some r := hnamed
  have hentered := State.enterState_probing (State.record_of_named hcounted) h
  simp only [State.startRound, hq]
  rw [if_pos (Option.isSome_of_eq_some hcounted), hentered]
  rfl

/-- Settles O14: the head's record is entered into PROBING, and only a sound record is sure to be without a frozen flag. -/
theorem roundStartLatchesTheRound : Obligations.RoundStartLatchesTheRound := by
  unfold Obligations.RoundStartLatchesTheRound
  intro s head rest r hdue hq hnamed hstate isolate
  refine ⟨r.body.stillFrozen r.frozen, fun hsound => ?_, ?_⟩
  · have hmem : (head.name.num, r) ∈ s.records := State.mem_records.mpr (State.record_of_named hnamed)
    exact Record.stillFrozen_of_sound_probeWait (List.all_eq_true.mp hsound _ hmem) hstate
  · rw [exec_roundStart_of_due hdue, State.startRound_of_probeWait hq hnamed hstate, Record.enter_probing hstate]
    rfl

/-! ### The mean of a sum (R133) -/

theorem DwellSum.mean_of_count_eq_zero {x : DwellSum} (h : x.count = 0) : x.mean = none := if_pos h

/-- The mean is rounded toward minus infinity: it and its successor enclose the quotient. -/
theorem DwellSum.mean_of_count_ne_zero {x : DwellSum} (h : x.count ≠ 0) :
    ∃ m, x.mean = some m ∧ m * x.count ≤ x.total ∧ x.total < (m + 1) * x.count := by
  have hpos : (0 : Int) < x.count := by omega
  refine ⟨x.total / x.count, ?_, Int.ediv_mul_le _ hpos.ne', Int.lt_ediv_add_one_mul_self _ hpos⟩
  rw [DwellSum.mean, if_neg h, Int.fdiv_eq_ediv_of_nonneg _ hpos.le]

/-! ### The drop of a leg (R132, R135) -/

section Drop
variable {r : Round} {l : Leg}

theorem Round.probed_eq_true_iff : r.probed l = true ↔ r.marks.get l = .visited ∧ r.dropAbsent.get l = false := by
  simp [Round.probed]

theorem Round.drop_of_not_probed (h : r.probed l ≠ true) : r.drop l = none := if_neg h

theorem Round.drop_of_empty_sum (h : r.refSum.count = 0 ∨ (r.legSums.get l).count = 0) : r.drop l = none := by
  by_cases hp : r.probed l = true
  · obtain href | hleg := h
    · simp only [Round.drop, if_pos hp, DwellSum.mean_of_count_eq_zero href]
    · cases hm : r.refSum.mean <;> simp only [Round.drop, if_pos hp, hm, DwellSum.mean_of_count_eq_zero hleg]
  · exact Round.drop_of_not_probed hp

theorem Round.drop_of_means {ref leg : Int} (hp : r.probed l = true) (href : r.refSum.mean = some ref)
    (hleg : (r.legSums.get l).mean = some leg) : r.drop l = some (max (-128) (min (ref - leg) 127)) := by
  simp only [Round.drop, if_pos hp, href, hleg]

end Drop

/-! ### The outcome of a round (R136) -/

/-- The condition of VOID: a REF mean below the threshold. -/
def Round.IsVoid (threshold : Int) (r : Round) : Prop := ∃ m, r.refSum.mean = some m ∧ m < threshold

/-- The condition of THIN: a REF sum or a probed leg's sum of fewer than MIN_SAMPLES reports. -/
def Round.IsThin (r : Round) : Prop :=
  r.refSum.count < r.snap.minSamples ∨ ∃ l, r.probed l = true ∧ (r.legSums.get l).count < r.snap.minSamples

/-- A probed leg with a drop of DROP_HIGH or more. -/
def Round.High (r : Round) (l : Leg) : Prop := r.probed l = true ∧ ∃ d, r.drop l = some d ∧ (r.snap.dropHigh : Int) ≤ d

/-- A leg with a drop of DROP_LOW or less. -/
def Round.Low (r : Round) (l : Leg) : Prop := ∃ d, r.drop l = some d ∧ d ≤ (r.snap.dropLow : Int)

/-- The condition of LOCATED for a leg: it alone is high, and every other probed leg is low. -/
def Round.LocatedOn (r : Round) (l : Leg) : Prop := r.High l ∧ ∀ k, k ≠ l → r.probed k = true → ¬ r.High k ∧ r.Low k

/-- What the drops alone decide, where the round is neither VOID nor THIN. -/
def Round.judgeDrops (r : Round) : RoundOutcome × Option Leg :=
  match r.highLegs with
  | [l] => if allLegs.all fun k => k == l || !r.probed k || r.lowDrop k then (.located, some l) else (.weak, none)
  | [] => (.weak, none)
  | _ :: _ :: _ => (.multi, none)

open Classical in
/-- The outcomes in the order of R136: VOID, then THIN, then what the drops decide. -/
theorem Round.judge_eq (threshold : Int) (r : Round) :
    r.judge threshold = if r.IsVoid threshold then (.void, none) else if r.IsThin then (.thin, none) else r.judgeDrops := by
  refine if_congr ?void rfl (if_congr ?thin rfl rfl)
  case void => cases hm : r.refSum.mean <;> simp [Round.IsVoid, hm]
  case thin => simp [Round.IsThin, mem_allLegs]

/-- A filter that keeps one leg alone leaves that leg. -/
theorem filter_allLegs_eq_singleton {p : Leg → Bool} {l : Leg} (h : ∀ k, p k = true ↔ k = l) : allLegs.filter p = [l] := by
  obtain rfl : p = fun k => decide (k = l) := funext fun k => by rw [Bool.eq_iff_iff, h, decide_eq_true_iff]
  fin_cases l <;> rfl

section Outcome
variable {r : Round} {l k : Leg}

theorem Round.lowDrop_eq_true_iff : r.lowDrop l = true ↔ r.Low l := by
  cases hd : r.drop l <;> simp [Round.lowDrop, Round.Low, hd]

theorem Round.highDrop_eq_true_iff : r.highDrop l = true ↔ ∃ d, r.drop l = some d ∧ (r.snap.dropHigh : Int) ≤ d := by
  cases hd : r.drop l <;> simp [Round.highDrop, hd]

theorem Round.high_iff : (r.probed l && r.highDrop l) = true ↔ r.High l := by
  rw [Bool.and_eq_true, Round.highDrop_eq_true_iff, Round.High]

theorem Round.mem_highLegs : l ∈ r.highLegs ↔ r.High l := by
  rw [Round.highLegs, List.mem_filter, and_iff_right (mem_allLegs l), Round.high_iff]

theorem Round.highLegs_nodup (r : Round) : r.highLegs.Nodup := List.Nodup.filter _ (by decide)

theorem Round.judgeDrops_of_one (h : r.highLegs = [l]) (hlow : ∀ k, k ≠ l → r.probed k = true → r.Low k) :
    r.judgeDrops = (.located, some l) := by
  have hall : (allLegs.all fun k => k == l || !r.probed k || r.lowDrop k) = true := all_allLegs.mpr fun k => by
    by_cases hk : k = l
    · simp [hk]
    · cases hp : r.probed k with
      | false => simp
      | true => simp [Round.lowDrop_eq_true_iff.mpr (hlow k hk hp)]
  simp only [Round.judgeDrops, h, if_pos hall]

theorem Round.judgeDrops_of_one_not_low (h : r.highLegs = [l]) (hne : k ≠ l) (hp : r.probed k = true) (hlow : ¬ r.Low k) :
    r.judgeDrops = (.weak, none) := by
  have hnot : ¬ (allLegs.all fun k => k == l || !r.probed k || r.lowDrop k) = true := fun hall => by
    have hk := all_allLegs.mp hall k
    simp [hne, hp, Round.lowDrop_eq_true_iff, hlow] at hk
  simp only [Round.judgeDrops, h, if_neg hnot]

theorem Round.judgeDrops_of_locatedOn (h : r.LocatedOn l) : r.judgeDrops = (.located, some l) := by
  obtain ⟨hhigh, hothers⟩ := h
  refine Round.judgeDrops_of_one (filter_allLegs_eq_singleton fun k => Round.high_iff.trans ⟨fun hk => ?_, ?_⟩)
    fun k hne hp => (hothers k hne hp).2
  · by_contra hne
    exact (hothers k hne hk.1).1 hk
  · rintro rfl
    exact hhigh

theorem Round.judgeDrops_of_two_high (hne : l ≠ k) (hl : r.High l) (hk : r.High k) : r.judgeDrops = (.multi, none) := by
  rw [← Round.mem_highLegs] at hl hk
  cases hh : r.highLegs with
  | nil => simp [hh] at hl
  | cons x xs =>
    cases xs with
    | nil =>
      rw [hh, List.mem_singleton] at hl hk
      exact absurd (hl.trans hk.symm) hne
    | cons y ys => simp only [Round.judgeDrops, hh]

theorem Round.judgeDrops_of_neither (hlocated : ∀ l, ¬ r.LocatedOn l) (hmulti : ¬ ∃ l k, l ≠ k ∧ r.High l ∧ r.High k) :
    r.judgeDrops = (.weak, none) := by
  cases hh : r.highLegs with
  | nil => simp only [Round.judgeDrops, hh]
  | cons x xs =>
    have hx : r.High x := Round.mem_highLegs.mp (by simp [hh])
    have hothers (k : Leg) (hne : k ≠ x) : ¬ r.High k := fun hk => hmulti ⟨k, x, hne, hk, hx⟩
    obtain rfl : xs = [] := List.eq_nil_iff_forall_not_mem.mpr fun y hy => by
      obtain ⟨hnotMem, -⟩ := List.nodup_cons.mp (hh ▸ r.highLegs_nodup)
      exact hothers y (fun hyx => hnotMem (hyx ▸ hy)) (Round.mem_highLegs.mp (by simp [hh, hy]))
    have hnotLow : ¬ ∀ k, k ≠ x → r.probed k = true → r.Low k := fun hlow =>
      hlocated x ⟨hx, fun k hne hp => ⟨hothers k hne, hlow k hne hp⟩⟩
    push Not at hnotLow
    obtain ⟨k, hne, hp, hk⟩ := hnotLow
    exact Round.judgeDrops_of_one_not_low hh hne hp hk

end Outcome

/-- Settles O15: the figures by their definitions, and the outcome by how many legs are high. -/
theorem roundsAreJudged : Obligations.RoundsAreJudged := by
  unfold Obligations.RoundsAreJudged
  refine ⟨fun r x l baseline excess => ⟨DwellSum.mean_of_count_eq_zero, DwellSum.mean_of_count_ne_zero, rfl, fun h => ?_,
    Round.drop_of_empty_sum, fun ref leg hvisited habsent => Round.drop_of_means
      (Round.probed_eq_true_iff.mpr ⟨hvisited, habsent⟩)⟩, ?outcome⟩
  · refine Round.drop_of_not_probed fun hp => ?_
    obtain ⟨hvisited, habsent⟩ := Round.probed_eq_true_iff.mp hp
    exact h.elim (· hvisited) fun hset => Bool.false_ne_true (habsent.symm.trans hset)
  case outcome =>
    intro threshold r o isVoid isThin high low located multi
    have hdrops (hvoid : ¬ isVoid) (hthin : ¬ isThin) : o = r.judgeDrops :=
      (r.judge_eq threshold).trans ((if_neg hvoid).trans (if_neg hthin))
    refine ⟨fun hvoid => ?_, fun hvoid hthin => ?_, fun hvoid hthin l hl => ?_, fun hvoid hthin hmulti => ?_,
      fun hvoid hthin hlocated hmulti => ?_⟩
    · exact congrArg Prod.fst ((r.judge_eq threshold).trans (if_pos hvoid))
    · exact congrArg Prod.fst ((r.judge_eq threshold).trans ((if_neg hvoid).trans (if_pos hthin)))
    · exact (hdrops hvoid hthin).trans (Round.judgeDrops_of_locatedOn hl)
    · obtain ⟨l, k, hne, hl, hk⟩ := hmulti
      exact congrArg Prod.fst ((hdrops hvoid hthin).trans (Round.judgeDrops_of_two_high hne hl hk))
    · exact congrArg Prod.fst ((hdrops hvoid hthin).trans (Round.judgeDrops_of_neither hlocated hmulti))

end Machine
end Sys2Proof
end

section
/-! Proofs, family 8, first part: what commands, the start test, the end of a round without evaluation and the end of a hold
move, and the three requests by the sequencer's state. -/

namespace Sys2Proof
namespace Machine

/-! ### Commands on one leg (R149, R150) -/

theorem State.withMode_withMode (s : State) (m m' : Mode) : (s.withMode m).withMode m' = s.withMode m' := rfl

theorem State.withMode_eq_self {s : State} {m : Mode} (h : s.mode = m) : s.withMode m = s := by
  subst h
  rfl

/-- A command moves the switches alone. -/
theorem State.command_eq_withSwitches (s : State) (l : Leg) (p : SwitchState) (settle : Nat) :
    s.command l p settle = s.withSwitches (s.command l p settle).switches := by
  obtain hc | ⟨-, -, hc⟩ := s.command_cases l p settle <;> rw [hc] <;> rfl

@[simp] theorem State.table_command (s : State) (l : Leg) (p : SwitchState) (settle : Nat) :
    (s.command l p settle).table = s.table := by
  rw [s.command_eq_withSwitches]
  rfl

@[simp] theorem State.waitQueue_command (s : State) (l : Leg) (p : SwitchState) (settle : Nat) :
    (s.command l p settle).waitQueue = s.waitQueue := by
  rw [s.command_eq_withSwitches]
  rfl

theorem State.switch_command_ne (s : State) {l k : Leg} (p : SwitchState) (settle : Nat) (h : k ≠ l) :
    (s.command l p settle).switch k = s.switch k := by
  obtain hc | ⟨-, -, hc⟩ := s.command_cases l p settle
  · rw [hc]
  · rw [hc, s.switch_setSwitch_ne _ h]

theorem State.command_through_of_out {s : State} {l : Leg} (settle : Nat) (h : (s.switch l).commanded ≠ .through) :
    s.command l .through settle = s.setSwitch l { s.switch l with commanded := .through, settle := some settle } := by
  simp [State.command, h]

theorem State.commanded_command_through (s : State) (l : Leg) (settle : Nat) :
    ((s.command l .through settle).switch l).commanded = .through := by
  by_cases h : (s.switch l).commanded = .through
  · simp [State.command, h]
  · rw [State.command_through_of_out settle h, State.switch_setSwitch_self]

/-! ### The start test (R126, R127) -/

/-- The start test moves the sequencer's state alone. -/
theorem State.startTest_eq_withMode (s : State) : s.startTest = s.withMode s.startTest.mode := by
  unfold State.startTest
  split
  · split <;> rfl
  · split <;> rfl
  all_goals rfl

@[simp] theorem State.table_startTest (s : State) : s.startTest.table = s.table := by
  rw [s.startTest_eq_withMode]
  rfl

@[simp] theorem State.waitQueue_startTest (s : State) : s.startTest.waitQueue = s.waitQueue := by
  rw [s.startTest_eq_withMode]
  rfl

@[simp] theorem State.switches_startTest (s : State) : s.startTest.switches = s.switches := by
  rw [s.startTest_eq_withMode]
  rfl

@[simp] theorem State.table_startTestIfIdle (s : State) : s.startTestIfIdle.table = s.table := by
  rw [State.startTestIfIdle_eq]
  split <;> simp

@[simp] theorem State.switches_startTestIfIdle (s : State) : s.startTestIfIdle.switches = s.switches := by
  rw [State.startTestIfIdle_eq]
  split <;> simp

@[simp] theorem State.waitQueue_startTestIfIdle (s : State) : s.startTestIfIdle.waitQueue = s.waitQueue := by
  rw [State.startTestIfIdle_eq]
  split <;> simp

/-- A state that the sequencer enters after a start test hides what the test has made of it. -/
theorem State.withMode_startTest (s : State) (m : Mode) : s.startTest.withMode m = s.withMode m := by
  rw [s.startTest_eq_withMode]
  rfl

/-- Outside IDLE and WAIT_BUDGET no start test is made. -/
theorem State.startTest_of_not_waiting {s : State} (hidle : s.mode ≠ .idle) (hwait : s.mode ≠ .waitBudget) :
    s.startTest = s := by
  cases hm : s.mode <;> simp_all [State.startTest]

/-- What each outcome of the start test does (R126). -/
def State.afterTest (o : StartOutcome) (s : State) : State :=
  match o with
  | .emptyQueue | .noLeg | .pass => s.withMode .idle
  | .settlePending => s
  | .short => s.withMode .waitBudget

theorem State.startTest_of_waiting {s : State} (h : s.mode = .idle ∨ s.mode = .waitBudget) :
    s.startTest = s.afterTest s.startOutcome := by
  obtain h | h := h
  all_goals
    simp only [State.startTest, h]
    rfl

/-- The outcome of a test does not depend on the state it leaves the sequencer in, so that a second test changes nothing. -/
theorem State.startTest_startTest (s : State) : s.startTest.startTest = s.startTest := by
  by_cases hwaiting : s.mode = .idle ∨ s.mode = .waitBudget
  · have hidle : (s.withMode .idle).startTest = (s.withMode .idle).afterTest s.startOutcome :=
      State.startTest_of_waiting (.inl rfl)
    have hbudget : (s.withMode .waitBudget).startTest = (s.withMode .waitBudget).afterTest s.startOutcome :=
      State.startTest_of_waiting (.inr rfl)
    rw [State.startTest_of_waiting hwaiting]
    cases ho : s.startOutcome with
    | settlePending => exact (State.startTest_of_waiting hwaiting).trans (congrArg (State.afterTest · s) ho)
    | short => exact hbudget.trans (by rw [ho]; rfl)
    | emptyQueue | noLeg | pass => exact hidle.trans (by rw [ho]; rfl)
  · rw [not_or] at hwaiting
    rw [State.startTest_of_not_waiting hwaiting.1 hwaiting.2, State.startTest_of_not_waiting hwaiting.1 hwaiting.2]

theorem State.enterMode_idle (s : State) : s.enterMode .idle = (s.withMode .idle).startTest := rfl

theorem State.enterMode_paused (s : State) : s.enterMode .paused = s.withMode .paused := rfl

@[simp] theorem State.table_enterMode (s : State) (m : Mode) : (s.enterMode m).table = s.table :=
  State.table_startTestIfIdle _

@[simp] theorem State.waitQueue_enterMode (s : State) (m : Mode) : (s.enterMode m).waitQueue = s.waitQueue :=
  State.waitQueue_startTestIfIdle _

@[simp] theorem State.switch_enterMode (s : State) (m : Mode) (l : Leg) : (s.enterMode m).switch l = s.switch l :=
  congrArg (PerLeg.get · l) (State.switches_startTestIfIdle (s.withMode m))

/-- A start test made on entry into IDLE is the one that the state it leaves would make on entry again. -/
theorem State.startTest_idle_eq (s : State) :
    (s.withMode .idle).startTest = ((s.withMode .idle).startTest.withMode .idle).startTest := by
  rw [State.withMode_startTest, State.withMode_withMode]

/-! ### What the sequencer moves of the state -/

/-- `t` differs from `s` at most in the table, the wait queue, the sequencer's state and the switches, and of those in neither
charge, sensed state nor fault latch. -/
structure State.SequencerMoved (s t : State) : Prop where
  frame : t = (((s.withTable t.table).withSwitches t.switches).withWaitQueue t.waitQueue).withMode t.mode
  switch : ∀ l, (t.switch l).charge = (s.switch l).charge ∧ (t.switch l).sensed = (s.switch l).sensed ∧
    (t.switch l).faultLatch = (s.switch l).faultLatch

namespace State.SequencerMoved
variable {s t u : State}

theorem refl (s : State) : s.SequencerMoved s := ⟨rfl, fun _ => ⟨rfl, rfl, rfl⟩⟩

theorem trans (hst : s.SequencerMoved t) (htu : t.SequencerMoved u) : s.SequencerMoved u := by
  refine ⟨?_, fun l => ?_⟩
  · rw [htu.frame, hst.frame]
    rfl
  · obtain ⟨hcharge, hsensed, hlatch⟩ := hst.switch l
    obtain ⟨hcharge', hsensed', hlatch'⟩ := htu.switch l
    exact ⟨hcharge'.trans hcharge, hsensed'.trans hsensed, hlatch'.trans hlatch⟩

theorem of_withMode (s : State) (m : Mode) : s.SequencerMoved (s.withMode m) := ⟨rfl, fun _ => ⟨rfl, rfl, rfl⟩⟩

theorem of_setSlot (s : State) (n : SlotNo) (x : Slot) : s.SequencerMoved (s.setSlot n x) :=
  ⟨rfl, fun _ => ⟨rfl, rfl, rfl⟩⟩

theorem of_withWaitQueue (s : State) (q : List WaitEntry) : s.SequencerMoved (s.withWaitQueue q) :=
  ⟨rfl, fun _ => ⟨rfl, rfl, rfl⟩⟩

theorem of_startTest (s : State) : s.SequencerMoved s.startTest := by
  rw [s.startTest_eq_withMode]
  exact of_withMode s _

theorem of_startTestIfIdle (s : State) : s.SequencerMoved s.startTestIfIdle := by
  rw [State.startTestIfIdle_eq]
  split
  · exact of_startTest s
  · exact refl s

theorem of_enterMode (s : State) (m : Mode) : s.SequencerMoved (s.enterMode m) :=
  (of_withMode s m).trans (of_startTestIfIdle _)

theorem of_command (s : State) (l : Leg) (p : SwitchState) (settle : Nat) :
    s.SequencerMoved (s.command l p settle) := by
  obtain hc | ⟨-, -, hc⟩ := s.command_cases l p settle
  · rw [hc]
    exact refl s
  · rw [hc]
    refine ⟨rfl, fun k => ?_⟩
    by_cases hk : k = l
    · subst hk
      simp
    · simp [s.switch_setSwitch_ne _ hk]

end State.SequencerMoved

/-! ### The end of a round without evaluation (R140) -/

/-- The leg held out has returned and the probing record has been queued again, before the sequencer leaves the round. -/
def State.aborted (r : Round) (s : State) : State := s.abortCommand.requeue r.record

section Abort
variable {s : State} {r : Round}

theorem State.abortRound_of_round (h : s.round = some r) (after : Mode) :
    s.abortRound after = (s.aborted r).enterMode after := by
  simp [State.abortRound, h, State.aborted]

theorem State.round_eq_some_iff : s.round = some r ↔ (∃ p e, s.mode = .active r p e) ∨ s.mode = .closing r := by
  cases hm : s.mode <;> simp [State.round, hm]

theorem State.abortCommand_of_held {l : Leg} (h : ∃ e, s.mode = .active r (.settleIn l) e ∨ s.mode = .active r (.probe l) e) :
    s.abortCommand = s.command l .through (r.snap.guard + 1) := by
  obtain ⟨e, hm | hm⟩ := h <;> simp [State.abortCommand, hm, Snapshot.guardLength]

/-- An abort commands no leg but the one that the round's step holds. -/
theorem State.switch_abortCommand_of_not_held {l : Leg} (h : s.round = some r)
    (hl : ∀ e, s.mode ≠ .active r (.settleIn l) e ∧ s.mode ≠ .active r (.probe l) e) :
    s.abortCommand.switch l = s.switch l := by
  obtain ⟨p, e, hm⟩ | hm := State.round_eq_some_iff.mp h
  · cases p with
    | ref | settleOut k => simp [State.abortCommand, hm]
    | settleIn k =>
      rw [State.abortCommand_of_held ⟨e, .inl hm⟩]
      exact s.switch_command_ne _ _ fun hlk => (hl e).1 (hlk ▸ hm)
    | probe k =>
      rw [State.abortCommand_of_held ⟨e, .inr hm⟩]
      exact s.switch_command_ne _ _ fun hlk => (hl e).2 (hlk ▸ hm)
  · simp [State.abortCommand, hm]

theorem State.legReturns_abortCommand (h : s.round = some r) : s.legReturns r s.abortCommand := fun l =>
  ⟨fun hheld hout => by
    rw [State.abortCommand_of_held hheld, State.command_through_of_out _ hout, State.switch_setSwitch_self],
  State.switch_abortCommand_of_not_held h⟩

/-- The command of an abort moves the switches alone. -/
theorem State.abortCommand_eq_withSwitches (s : State) : s.abortCommand = s.withSwitches s.abortCommand.switches := by
  unfold State.abortCommand
  split
  · exact s.command_eq_withSwitches _ _ _
  · exact s.command_eq_withSwitches _ _ _
  all_goals rfl

theorem State.SequencerMoved.of_abortCommand (s : State) : s.SequencerMoved s.abortCommand := by
  unfold State.abortCommand
  split
  · exact .of_command _ _ _ _
  · exact .of_command _ _ _ _
  all_goals exact .refl s

/-! ### The probing record (R34, R140 step 3) -/

theorem State.gen_of_named {name : RecordName} {x : Record} (h : s.named name = some x) :
    (s.slot name.num).gen = name.gen := by
  rw [State.named] at h
  split at h
  · assumption
  · exact absurd h nofun

theorem State.requeue_of_gone {name : RecordName} (h : s.named name = none) : s.requeue name = s := by
  simp only [State.requeue, h]

/-- The slot and the wait queue once a PROBING record has returned to PROBE_WAIT. -/
theorem State.requeue_of_probing {name : RecordName} {x : Record} (h : s.named name = some x) (hx : x.state = .probing) :
    s.requeue name =
      ((s.setSlot name.num { gen := name.gen, changed := true, record := some (x.enter .probeWait) }).withWaitQueue
        (insertEntry { name := name, excess := (x.enter .probeWait).severity, second := s.clock.seconds }
          s.waitQueue)).startTestIfIdle := by
  have hentered : s.enterState name.num .probeWait =
      s.setSlot name.num { gen := name.gen, changed := true, record := some (x.enter .probeWait) } := by
    simp [State.enterState, State.record_of_named h, hx, State.raiseEntry, State.putRecord, State.gen_of_named h]
  simp only [State.requeue, h, hx, hentered, State.joinQueue_setSlot]

theorem State.requeue_of_not_probing {name : RecordName} {x : Record} (h : s.named name = some x)
    (hx : x.state ≠ .probing) : s.requeue name = s := by
  cases hs : x.state <;> simp_all [State.requeue]

theorem State.SequencerMoved.of_requeue (s : State) (name : RecordName) : s.SequencerMoved (s.requeue name) := by
  cases h : s.named name with
  | none =>
    rw [State.requeue_of_gone h]
    exact .refl s
  | some x =>
    by_cases hx : x.state = .probing
    · rw [State.requeue_of_probing h hx]
      exact ((of_setSlot s _ _).trans (of_withWaitQueue _ _)).trans (of_startTestIfIdle _)
    · rw [State.requeue_of_not_probing h hx]
      exact .refl s

/-- From PROBING to PROBE_WAIT, R5 takes nothing from an ingress record without a leg. -/
theorem Record.enter_probeWait_of_probing {x : Record} {g : IngressPart} (hx : x.state = .probing)
    (hbody : x.body = .ingress g) (hleg : g.leg = none) :
    x.enter .probeWait = { x with state := .probeWait, acknowledged := false, frozen := false } := by
  obtain ⟨leg, band, attempts, voidStreak, lastRound, link⟩ := g
  obtain rfl : leg = none := hleg
  simp [Record.enter, hx, hbody, RecordBody.agree, RecordBody.stillFrozen]

theorem State.recordReturns_requeue (s : State) (r : Round) : s.recordReturns r (s.requeue r.record) := by
  refine ⟨fun hgone => ?_, fun x g hnamed hx hbody hleg => ?_⟩
  · rw [State.requeue_of_gone hgone]
    exact ⟨rfl, rfl⟩
  · rw [State.requeue_of_probing hnamed hx, Record.enter_probeWait_of_probing hx hbody hleg]
    simp

theorem State.switches_requeue (s : State) (name : RecordName) : (s.requeue name).switches = s.switches := by
  cases h : s.named name with
  | none => rw [State.requeue_of_gone h]
  | some x =>
    by_cases hx : x.state = .probing
    · rw [State.requeue_of_probing h hx, State.switches_startTestIfIdle]
      rfl
    · rw [State.requeue_of_not_probing h hx]

/-! ### The aborted round -/

theorem State.legReturns.congr {s t u : State} {r : Round} (h : s.legReturns r t) (hswitches : u.switches = t.switches) :
    s.legReturns r u := by
  simp only [State.legReturns, State.switch, hswitches]
  exact h

theorem State.recordReturns.congr {s t u : State} {r : Round} (h : s.recordReturns r t) (htable : u.table = t.table)
    (hqueue : u.waitQueue = t.waitQueue) : s.recordReturns r u := by
  simp only [State.recordReturns, htable, hqueue]
  exact h

theorem State.SequencerMoved.of_aborted (s : State) (r : Round) : s.SequencerMoved (s.aborted r) :=
  (of_abortCommand s).trans (of_requeue _ _)

theorem State.legReturns_aborted (h : s.round = some r) : s.legReturns r (s.aborted r) :=
  (State.legReturns_abortCommand h).congr (State.switches_requeue _ _)

theorem State.recordReturns_aborted (s : State) (r : Round) : s.recordReturns r (s.aborted r) := by
  have hrequeued := s.abortCommand.recordReturns_requeue r
  have haborted : s.aborted r = s.abortCommand.requeue r.record := rfl
  rw [← haborted, s.abortCommand_eq_withSwitches] at hrequeued
  exact hrequeued

end Abort

/-! ### The legs not sensed THROUGH (R156, R196) -/

/-- The byte that has bit L for leg L. -/
def legBits (p : PerLeg Bool) : Byte := flagBit p.leg0 0 ||| flagBit p.leg1 1 ||| flagBit p.leg2 2 ||| flagBit p.leg3 3

theorem getLsbD_legBits (p : PerLeg Bool) (l : Leg) : (legBits p).getLsbD l.val = p.get l := by
  obtain ⟨b0, b1, b2, b3⟩ := p
  revert b0 b1 b2 b3 l
  decide

theorem toNat_legBits_lt (p : PerLeg Bool) : (legBits p).toNat < 16 := by
  obtain ⟨b0, b1, b2, b3⟩ := p
  revert b0 b1 b2 b3
  decide

theorem State.notThrough_eq_legBits (s : State) :
    s.notThrough = legBits (PerLeg.ofFn fun l => (s.switch l).sensed != .through) := rfl

theorem State.getLsbD_notThrough (s : State) (l : Leg) :
    s.notThrough.getLsbD l.val = true ↔ (s.switch l).sensed ≠ .through := by
  rw [s.notThrough_eq_legBits, getLsbD_legBits, PerLeg.get_ofFn, bne_iff_ne]

theorem State.toNat_notThrough_lt (s : State) : s.notThrough.toNat < 16 := by
  rw [s.notThrough_eq_legBits]
  exact toNat_legBits_lt _

theorem State.anyNotThrough_iff (s : State) :
    (allLegs.any fun l => (s.switch l).sensed != .through) = true ↔ ∃ l, (s.switch l).sensed ≠ .through := by
  simp only [List.any_eq_true, mem_allLegs, true_and, bne_iff_ne]

/-! ### The owners' answers (R142, R156) -/

section Owners
variable {s : State}

theorem servePauseProbing_of_resting (h : s.mode = .idle ∨ s.mode = .waitBudget ∨ s.mode = .paused) :
    servePauseProbing [] s = answerOk [] (s.withMode .paused) := by
  obtain h | h | h := h
  · simp [servePauseProbing, h]
  · simp [servePauseProbing, h]
  · simp [servePauseProbing, h, State.withMode_eq_self h]

theorem servePauseProbing_of_held (h : s.mode = .locked ∨ ∃ l d o, s.mode = .manual l d o) :
    servePauseProbing [] s = refuse .wrongState s := by
  obtain h | ⟨l, d, o, h⟩ := h <;> simp [servePauseProbing, h]

theorem servePauseProbing_of_round {r : Round} (h : s.round = some r) :
    servePauseProbing [] s = answerOk [] ((s.aborted r).withMode .paused) := by
  have habort : s.abortRound .paused = (s.aborted r).withMode .paused := State.abortRound_of_round h .paused
  obtain ⟨p, e, hm⟩ | hm := State.round_eq_some_iff.mp h <;> simp [servePauseProbing, hm, habort]

theorem serveResumeProbing_of_paused (h : s.mode = .paused) :
    serveResumeProbing [] s = answerOk [] (s.withMode .idle).startTest := by
  simp [serveResumeProbing, h, State.enterMode_idle]

theorem serveResumeProbing_of_not_paused (h : s.mode ≠ .paused) : serveResumeProbing [] s = refuse .wrongState s := by
  cases hm : s.mode <;> simp_all [serveResumeProbing]

theorem serveReleaseLockout_of_clear (h : s.lockout = false) : serveReleaseLockout [] s = refuse .wrongState s := by
  simp [serveReleaseLockout, h]

theorem serveReleaseLockout_of_not_through (h : s.lockout = true) (hout : ∃ l, (s.switch l).sensed ≠ .through) :
    serveReleaseLockout [] s = refuseWith .wrongState [s.notThrough] s := by
  rw [serveReleaseLockout, if_neg (by simp [h]), if_pos (s.anyNotThrough_iff.mpr hout)]

theorem serveReleaseLockout_of_through (h : s.lockout = true) (hin : ∀ l, (s.switch l).sensed = .through) :
    serveReleaseLockout [] s = answerOk [] (((s.clearLatches.withLockout false).withMode .idle).startTest) := by
  have hnone : ¬ (allLegs.any fun l => (s.switch l).sensed != .through) = true := fun hany =>
    let ⟨l, hl⟩ := s.anyNotThrough_iff.mp hany
    hl (hin l)
  rw [serveReleaseLockout, if_neg (by simp [h]), if_neg hnone, State.enterMode_idle]

end Owners

/-- Settles O52: each request is its owner's answer, by the sequencer's state or the lockout; a pause of a round leaves what
the abort leaves. -/
theorem sequencerRequestsFollowTheState : Obligations.SequencerRequestsFollowTheState := by
  unfold Obligations.SequencerRequestsFollowTheState
  intro s tag hears
  have hpause : exec (.pauseProbing tag []) s = .next ((servePauseProbing [] s).begin 0x41#8 tag false) :=
    exec_of_hears hears rfl rfl
  have hresume : exec (.resumeProbing tag []) s = .next ((serveResumeProbing [] s).begin 0x42#8 tag false) :=
    exec_of_hears hears rfl rfl
  have hrelease : exec (.releaseLockout tag []) s = .next ((serveReleaseLockout [] s).begin 0x45#8 tag false) :=
    exec_of_hears hears rfl rfl
  refine ⟨fun h => ?resting, fun h => ?held, fun x h => ?round, fun h => ?paused, fun h => ?notPaused, fun h => ?clear,
    fun h hout => ?notThrough, fun h hin => ?through⟩
  case resting => rw [hpause, servePauseProbing_of_resting h, begin_answerOk]
  case held => rw [hpause, servePauseProbing_of_held h, begin_refuse]
  case round =>
    have hmoved := (State.SequencerMoved.of_aborted s x).trans (.of_withMode _ .paused)
    exact ⟨(s.aborted x).withMode .paused, by rw [hpause, servePauseProbing_of_round h, begin_answerOk], rfl, hmoved.frame,
      State.legReturns_aborted h, s.recordReturns_aborted x⟩
  case paused => rw [hresume, serveResumeProbing_of_paused h, begin_answerOk]
  case notPaused => rw [hresume, serveResumeProbing_of_not_paused h, begin_refuse]
  case clear => rw [hrelease, serveReleaseLockout_of_clear h, begin_refuse]
  case notThrough =>
    exact ⟨s.notThrough, by rw [hrelease, serveReleaseLockout_of_not_through h hout, begin_refuseWith],
      s.getLsbD_notThrough, s.toNat_notThrough_lt⟩
  case through =>
    rw [hrelease, serveReleaseLockout_of_through h hin, begin_answerOk]
    rfl

end Machine
end Sys2Proof
end

section
/-! Proofs, family 8, second part: the safety block, and new safety settings by what the sequencer is at. -/

namespace Sys2Proof

/-! ### Numbers and their bytes -/

theorem nat4_eq_nested (b3 b2 b1 b0 : Byte) :
    nat4 b3 b2 b1 b0 = ((b3.toNat * 256 + b2.toNat) * 256 + b1.toNat) * 256 + b0.toNat := by
  rw [nat4]
  omega

theorem nat4_byteOf {n : Nat} (h : n < 4294967296) :
    nat4 (byteOf (n / 16777216)) (byteOf (n / 65536)) (byteOf (n / 256)) (byteOf n) = n := by
  simp only [nat4, byteOf, BitVec.toNat_ofNat]
  omega

theorem clamp_of_mem_range {low high n : Nat} (hlow : low ≤ n) (hhigh : n ≤ high) : clamp low high n = n := by
  rw [clamp, Nat.min_eq_left hhigh, Nat.max_eq_right hlow]

theorem clamp_zero (high n : Nat) : clamp 0 high n = min n high := Nat.zero_max _

/-- A list is the list of its items by their places. -/
theorem eq_map_getD {α : Type} (xs : List α) (x : α) : xs = (List.range xs.length).map fun k => xs.getD k x := by
  refine List.ext_getElem (by simp) fun k hk _ => ?_
  simp [hk]

namespace Machine

/-! ### The safety block (R160, R161, R195) -/

theorem safetyBlock_eq (c : Safety) :
    safetyBlock c = bytes2 c.budgetWindow ++ bytes4 (c.allowance.get 0) ++ bytes4 (c.allowance.get 1) ++
      bytes4 (c.allowance.get 2) ++ bytes4 (c.allowance.get 3) ++ [if c.isolatePermitted then 1#8 else 0#8] ++
      bytes2 c.maxIsolateDwell := rfl

/-- What 21 bytes store, by the place of each byte. -/
def storedSafety (args : List Byte) : Safety :=
  { budgetWindow := clamp 10 600 (nat2 (args.getD 0 0) (args.getD 1 0))
    allowance := PerLeg.ofFn fun l =>
      clamp 0 (clamp 10 600 (nat2 (args.getD 0 0) (args.getD 1 0)) * 1000)
        (nat4 (args.getD (2 + 4 * l.val) 0) (args.getD (3 + 4 * l.val) 0) (args.getD (4 + 4 * l.val) 0)
          (args.getD (5 + 4 * l.val) 0))
    isolatePermitted := (args.getD 18 0).toNat != 0
    maxIsolateDwell := clamp 20 1000 (nat2 (args.getD 19 0) (args.getD 20 0)) }

theorem readSafety_eq {args : List Byte} (h : args.length = 21) : readSafety args = some (storedSafety args) := by
  have hargs := eq_map_getD args 0
  rw [h] at hargs
  exact (congrArg readSafety hargs).trans rfl

/-- Values in range are read back from their block: each is within the bytes that hold it and within its clamp. -/
theorem readSafety_safetyBlock {c : Safety} (h : c.inRange = true) : readSafety (safetyBlock c) = some c := by
  simp only [Safety.inRange, Bool.and_eq_true, decide_eq_true_eq, all_allLegs] at h
  obtain ⟨⟨⟨⟨hwindowLow, hwindowHigh⟩, hallowance⟩, hdwellLow⟩, hdwellHigh⟩ := h
  have hwindow : clamp 10 600 (nat2 (byteOf (c.budgetWindow / 256)) (byteOf c.budgetWindow)) = c.budgetWindow := by
    rw [nat2_byteOf (by omega), clamp_of_mem_range hwindowLow hwindowHigh]
  have hdwell : clamp 20 1000 (nat2 (byteOf (c.maxIsolateDwell / 256)) (byteOf c.maxIsolateDwell)) =
      c.maxIsolateDwell := by
    rw [nat2_byteOf (by omega), clamp_of_mem_range hdwellLow hdwellHigh]
  have hleg (l : Leg) :
      clamp 0 (c.budgetWindow * 1000)
          (nat4 (byteOf (c.allowance.get l / 16777216)) (byteOf (c.allowance.get l / 65536))
            (byteOf (c.allowance.get l / 256)) (byteOf (c.allowance.get l))) =
        c.allowance.get l := by
    have hl := hallowance l
    rw [nat4_byteOf (by omega), clamp_of_mem_range (Nat.zero_le _) hl]
  have hpermitted : ((flagBit c.isolatePermitted 0).toNat != 0) = c.isolatePermitted := by
    cases c.isolatePermitted <;> rfl
  change some
      { budgetWindow := clamp 10 600 (nat2 (byteOf (c.budgetWindow / 256)) (byteOf c.budgetWindow))
        allowance := PerLeg.ofFn fun l =>
          clamp 0 (clamp 10 600 (nat2 (byteOf (c.budgetWindow / 256)) (byteOf c.budgetWindow)) * 1000)
            (nat4 (byteOf (c.allowance.get l / 16777216)) (byteOf (c.allowance.get l / 65536))
              (byteOf (c.allowance.get l / 256)) (byteOf (c.allowance.get l)))
        isolatePermitted := (flagBit c.isolatePermitted 0).toNat != 0
        maxIsolateDwell :=
          clamp 20 1000 (nat2 (byteOf (c.maxIsolateDwell / 256)) (byteOf c.maxIsolateDwell)) : Safety } = some c
  simp only [hwindow, hdwell, hleg, hpermitted]
  rfl

/-! ### New safety settings (R161) -/

/-- Steps 1 to 3 of R161: the values are stored, and the window count and the charges zeroed. -/
def State.storeSafety (c : Safety) (s : State) : State :=
  ((s.withSafety c).withClock { s.clock with windowCount := 0 }).zeroCharges

/-- Steps 4 to 6 of R161: what the values in force no longer allow is ended, and the start test made. -/
def State.applySafety (s : State) : State :=
  (if s.endIsolate.heldWithoutAllowance then s.endIsolate.endHold else s.endIsolate).startTest

theorem State.setSafety_eq (c : Safety) (s : State) : s.setSafety c = (s.storeSafety c).applySafety := rfl

theorem State.switch_storeSafety (c : Safety) (s : State) (l : Leg) :
    (s.storeSafety c).switch l = { s.switch l with charge := 0 } :=
  PerLeg.get_ofFn _ l

section Hold
variable {s : State} {l : Leg} {d : Depth} {o : Origin}

theorem State.endHold_of_manual (h : s.mode = .manual l d o) :
    s.endHold = (s.command l .through s.guardNow).enterMode o.mode := by
  simp [State.endHold, h]

theorem State.heldWithoutAllowance_iff :
    s.heldWithoutAllowance = true ↔ ∃ l d o, s.mode = .manual l d o ∧ s.allowance l = 0 := by
  cases hm : s.mode <;> simp [State.heldWithoutAllowance, hm]

theorem State.heldWithoutAllowance_of_not_manual (h : ∀ l d o, s.mode ≠ .manual l d o) :
    s.heldWithoutAllowance = false :=
  Bool.eq_false_iff.mpr fun hheld =>
    let ⟨l, d, o, hm, _⟩ := State.heldWithoutAllowance_iff.mp hheld
    h l d o hm

/-- A test made in IDLE leaves no hold. -/
theorem State.mode_enterMode_idle_ne_manual (s : State) : ∀ l d o, (s.enterMode .idle).mode ≠ .manual l d o := by
  intro l d o
  rw [s.enterMode_idle, State.startTest_of_waiting (.inl rfl)]
  cases (s.withMode .idle).startOutcome <;> nofun

theorem State.mode_enterMode_origin_ne_manual (s : State) (o : Origin) :
    ∀ l d o', (s.enterMode o.mode).mode ≠ .manual l d o' := by
  cases o with
  | idle => exact s.mode_enterMode_idle_ne_manual
  | paused => nofun

/-- The state that a hold returns to has had its start test, where it makes one. -/
theorem State.startTest_enterMode_origin (s : State) (o : Origin) :
    (s.enterMode o.mode).startTest = s.enterMode o.mode := by
  cases o with
  | idle => exact State.startTest_startTest _
  | paused => exact State.startTest_of_not_waiting nofun nofun

end Hold

namespace State.SequencerMoved
variable {s t : State}

theorem of_abortRound (s : State) (after : Mode) : s.SequencerMoved (s.abortRound after) := by
  cases h : s.round with
  | none =>
    simp only [State.abortRound, h]
    exact refl s
  | some r =>
    rw [State.abortRound_of_round h]
    exact (of_aborted s r).trans (of_enterMode _ after)

theorem of_endHold (s : State) : s.SequencerMoved s.endHold := by
  unfold State.endHold
  split
  · exact (of_command _ _ _ _).trans (of_enterMode _ _)
  all_goals exact refl s

theorem of_endIsolate (s : State) : s.SequencerMoved s.endIsolate := by
  unfold State.endIsolate
  split
  · exact refl s
  split
  · exact of_abortRound s .idle
  split
  · exact of_endHold s
  · exact refl s

theorem of_applySafety (s : State) : s.SequencerMoved s.applySafety := by
  unfold State.applySafety
  split
  · exact ((of_endIsolate s).trans (of_endHold _)).trans (of_startTest _)
  · exact (of_endIsolate s).trans (of_startTest _)

/-- What the sequencer leaves alone. -/
theorem kept (h : s.SequencerMoved t) :
    t.safety = s.safety ∧ t.safetyLock = s.safetyLock ∧ t.clock = s.clock ∧ t.lockout = s.lockout ∧
      t.settings = s.settings ∧ t.plant = s.plant ∧ t.flags = s.flags ∧ t.roundNumber = s.roundNumber := by
  rw [h.frame]
  exact ⟨rfl, rfl, rfl, rfl, rfl, rfl, rfl, rfl⟩

end State.SequencerMoved

/-! ### Steps 4 to 6 by what the sequencer is at -/

section Apply
variable {s : State}

/-- Where the values end nothing, the start test alone is made. -/
theorem State.applySafety_of_nothing_ended (hend : s.endIsolate = s) (hheld : s.heldWithoutAllowance = false) :
    s.applySafety = s.startTest := by
  simp [State.applySafety, hend, hheld]

theorem State.endIsolate_of_permitted (h : s.safety.isolatePermitted = true) : s.endIsolate = s := if_pos h

theorem State.endIsolate_of_not_isolate (hround : s.isolateRound = false) (hhold : s.isolateHold = false) :
    s.endIsolate = s := by
  simp [State.endIsolate, hround, hhold]

/-- Where the sequencer neither runs a round nor holds a leg, the start test alone is made. -/
theorem State.applySafety_of_resting (hround : s.round = none) (hhold : ∀ l d o, s.mode ≠ .manual l d o) :
    s.applySafety = s.startTest := by
  have hisolate : s.isolateHold = false := by
    cases hm : s.mode <;> simp_all [State.isolateHold]
  exact State.applySafety_of_nothing_ended (State.endIsolate_of_not_isolate (by simp [State.isolateRound, hround]) hisolate)
    (State.heldWithoutAllowance_of_not_manual hhold)

theorem State.applySafety_of_waiting (h : s.mode = .idle ∨ s.mode = .waitBudget) : s.applySafety = s.startTest := by
  obtain h | h := h <;> exact State.applySafety_of_resting (by simp [State.round, h]) (by simp [h])

theorem State.mode_applySafety_of_stopped (h : s.mode = .paused ∨ s.mode = .locked) : s.applySafety.mode = s.mode := by
  have happly : s.applySafety = s.startTest := by
    obtain h | h := h <;> exact State.applySafety_of_resting (by simp [State.round, h]) (by simp [h])
  rw [happly]
  obtain h | h := h <;> rw [State.startTest_of_not_waiting (by simp [h]) (by simp [h])]

section Round
variable {r : Round}

theorem State.not_waiting_of_round (h : s.round = some r) :
    s.mode ≠ .idle ∧ s.mode ≠ .waitBudget ∧ ∀ l d o, s.mode ≠ .manual l d o := by
  obtain ⟨p, e, hm⟩ | hm := State.round_eq_some_iff.mp h <;> simp [hm]

theorem State.isolateHold_of_round (h : s.round = some r) : s.isolateHold = false := by
  obtain ⟨p, e, hm⟩ | hm := State.round_eq_some_iff.mp h <;> simp [State.isolateHold, hm]

theorem State.applySafety_of_round_ended (h : s.round = some r) (hdepth : r.snap.depth = .isolate)
    (hpermitted : s.safety.isolatePermitted = false) : s.applySafety = ((s.aborted r).withMode .idle).startTest := by
  have hend : s.endIsolate = (s.aborted r).enterMode .idle := by
    simp [State.endIsolate, hpermitted, State.isolateRound, h, hdepth, State.abortRound_of_round h]
  have hheld := State.heldWithoutAllowance_of_not_manual (s.aborted r).mode_enterMode_idle_ne_manual
  rw [State.applySafety, hend, if_neg (by simp [hheld])]
  exact State.startTest_startTest _

/-- A round that the values end: its leg and its record have returned, and IDLE is entered with its start test. -/
theorem State.applySafety_ends_round (h : s.round = some r) (hdepth : r.snap.depth = .isolate)
    (hpermitted : s.safety.isolatePermitted = false) :
    s.applySafety = (s.applySafety.withMode .idle).startTest ∧ s.legReturns r s.applySafety ∧
      s.recordReturns r s.applySafety := by
  have happly := State.applySafety_of_round_ended h hdepth hpermitted
  refine ⟨?_, (State.legReturns_aborted h).congr ?_, (s.recordReturns_aborted r).congr ?_ ?_⟩
  · rw [happly]
    exact State.startTest_idle_eq _
  all_goals simp [happly]

theorem State.applySafety_of_round_kept (h : s.round = some r)
    (hkept : r.snap.depth = .atten ∨ s.safety.isolatePermitted = true) : s.applySafety = s := by
  obtain ⟨hidle, hwait, hhold⟩ := State.not_waiting_of_round h
  have hend : s.endIsolate = s := by
    obtain hdepth | hpermitted := hkept
    · exact State.endIsolate_of_not_isolate (by simp [State.isolateRound, h, hdepth]) (State.isolateHold_of_round h)
    · exact State.endIsolate_of_permitted hpermitted
  rw [State.applySafety_of_nothing_ended hend (State.heldWithoutAllowance_of_not_manual hhold),
    State.startTest_of_not_waiting hidle hwait]

end Round

section Hold
variable {l : Leg} {d : Depth} {o : Origin}

theorem State.isolateRound_of_manual (h : s.mode = .manual l d o) : s.isolateRound = false := by
  simp [State.isolateRound, State.round, h]

theorem State.applySafety_of_hold_ended (h : s.mode = .manual l d o)
    (hended : (d = .isolate ∧ s.safety.isolatePermitted = false) ∨ s.allowance l = 0) :
    s.applySafety = (s.command l .through s.guardNow).enterMode o.mode := by
  have hendHold := State.endHold_of_manual h
  by_cases hisolate : d = .isolate ∧ s.safety.isolatePermitted = false
  · have hend : s.endIsolate = (s.command l .through s.guardNow).enterMode o.mode := by
      simp [State.endIsolate, hisolate.2, State.isolateRound_of_manual h, State.isolateHold, h, hisolate.1, hendHold]
    have hheld := State.heldWithoutAllowance_of_not_manual
      ((s.command l .through s.guardNow).mode_enterMode_origin_ne_manual o)
    rw [State.applySafety, hend, if_neg (by simp [hheld]), State.startTest_enterMode_origin]
  · have hend : s.endIsolate = s := by
      by_cases hpermitted : s.safety.isolatePermitted = true
      · exact State.endIsolate_of_permitted hpermitted
      · refine State.endIsolate_of_not_isolate (State.isolateRound_of_manual h) ?_
        simpa [State.isolateHold, h] using fun hd => hisolate ⟨hd, by simpa using hpermitted⟩
    have hheld : s.heldWithoutAllowance = true :=
      State.heldWithoutAllowance_iff.mpr ⟨l, d, o, h, hended.resolve_left hisolate⟩
    rw [State.applySafety, hend, if_pos hheld, hendHold, State.startTest_enterMode_origin]

theorem State.applySafety_of_hold_kept (h : s.mode = .manual l d o)
    (hdepth : d = .atten ∨ s.safety.isolatePermitted = true) (hallowance : s.allowance l ≠ 0) : s.applySafety = s := by
  have hend : s.endIsolate = s := by
    obtain hdepth | hpermitted := hdepth
    · exact State.endIsolate_of_not_isolate (State.isolateRound_of_manual h) (by simp [State.isolateHold, h, hdepth])
    · exact State.endIsolate_of_permitted hpermitted
  have hheld : s.heldWithoutAllowance = false := by simp [State.heldWithoutAllowance, h, hallowance]
  rw [State.applySafety_of_nothing_ended hend hheld, State.startTest_of_not_waiting (by simp [h]) (by simp [h])]

/-- A hold that the values end: the leg is commanded THROUGH, and the sequencer is back at the origin of the hold. -/
theorem State.applySafety_ends_hold (h : s.mode = .manual l d o)
    (hended : (d = .isolate ∧ s.safety.isolatePermitted = false) ∨ s.allowance l = 0) :
    (s.applySafety.switch l).commanded = .through ∧
      ((s.switch l).commanded ≠ .through → (s.applySafety.switch l).settle = some s.guardNow) ∧
      (∀ k, k ≠ l → s.applySafety.switch k = s.switch k) ∧ (o = .paused → s.applySafety.mode = .paused) ∧
      (o = .idle → s.applySafety = (s.applySafety.withMode .idle).startTest) := by
  have happly := State.applySafety_of_hold_ended h hended
  have hswitch (k : Leg) : s.applySafety.switch k = (s.command l .through s.guardNow).switch k := by
    rw [happly, State.switch_enterMode]
  refine ⟨?_, fun hout => ?_, fun k hk => ?_, ?_, ?_⟩
  · rw [hswitch, State.commanded_command_through]
  · rw [hswitch, State.command_through_of_out _ hout, State.switch_setSwitch_self]
  · rw [hswitch, s.switch_command_ne _ _ hk]
  · rintro rfl
    rw [happly]
    rfl
  · rintro rfl
    rw [happly]
    exact State.startTest_idle_eq _

/-- A hold either is ended by the values in force or is allowed by them. -/
theorem State.hold_ended_or_kept (s : State) (l : Leg) (d : Depth) :
    ((d = .isolate ∧ s.safety.isolatePermitted = false) ∨ s.allowance l = 0) ∨
      (d = .atten ∨ s.safety.isolatePermitted = true) ∧ s.allowance l ≠ 0 := by
  cases d <;> cases s.safety.isolatePermitted <;> simp [em]

end Hold

/-- While no round is in progress the table and the wait queue stand, and so do the switches while no leg is held. -/
theorem State.applySafety_of_no_round (h : s.round = none) :
    s.applySafety.table = s.table ∧ s.applySafety.waitQueue = s.waitQueue ∧
      ((∀ l d o, s.mode ≠ .manual l d o) → s.applySafety.switches = s.switches) := by
  by_cases hhold : ∀ l d o, s.mode ≠ .manual l d o
  · rw [State.applySafety_of_resting h hhold]
    exact ⟨s.table_startTest, s.waitQueue_startTest, fun _ => s.switches_startTest⟩
  · obtain ⟨l, d, o, hm⟩ : ∃ l d o, s.mode = .manual l d o := by simpa using hhold
    refine ⟨?_, ?_, fun hnone => absurd hm (hnone l d o)⟩
    all_goals
      obtain hended | ⟨hdepth, hallowance⟩ := s.hold_ended_or_kept l d
      · simp [State.applySafety_of_hold_ended hm hended]
      · rw [State.applySafety_of_hold_kept hm hdepth hallowance]

end Apply

/-! ### The owners' answers -/

section Owners
variable {s : State} {args : List Byte} {c : Safety}

theorem serveSetSafety_of_locked (hread : readSafety args = some c) (h : s.safetyLock = true) :
    serveSetSafety args s = refuse .locked s := by
  simp [serveSetSafety, hread, h]

theorem serveSetSafety_of_unlocked (hread : readSafety args = some c) (h : s.safetyLock = false) :
    serveSetSafety args s = answerOk (safetyBlock c) (s.storeSafety c).applySafety := by
  simp [serveSetSafety, hread, h, State.setSafety_eq]

end Owners

/-- Settles O41: the values are read from the block by place; then the new settings are applied by what the sequencer is at. -/
theorem safetyRequestsKeepTheirRules : Obligations.SafetyRequestsKeepTheirRules := by
  unfold Obligations.SafetyRequestsKeepTheirRules
  refine ⟨fun c => ⟨safetyBlock_eq c, readSafety_safetyBlock⟩, fun s tag hears => ?_⟩
  have hreadSafety : exec (.readSafety tag []) s = .next ((serveReadSafety [] s).begin 0x12#8 tag false) :=
    exec_of_hears hears rfl rfl
  have hlockSafety : exec (.lockSafety tag []) s = .next ((serveLockSafety [] s).begin 0x14#8 tag false) :=
    exec_of_hears hears rfl rfl
  have hsetSafety (args : List Byte) :
      exec (.setSafety tag args) s = .next ((serveSetSafety args s).begin 0x13#8 tag false) :=
    exec_of_hears hears rfl rfl
  refine ⟨hreadSafety, hlockSafety, fun args hlength => ?_⟩
  have hread := readSafety_eq hlength
  refine ⟨fun hlocked => ?locked, fun hunlocked => ?unlocked⟩
  case locked => rw [hsetSafety, serveSetSafety_of_locked hread hlocked, begin_refuse]
  case unlocked =>
    have hanswer : exec (.setSafety tag args) s =
        .next ((s.storeSafety (storedSafety args)).applySafety.replied 0x13#8 tag .ok (safetyBlock (storedSafety args))) := by
      rw [hsetSafety, serveSetSafety_of_unlocked hread hunlocked, begin_answerOk]
    have hmoved := State.SequencerMoved.of_applySafety (s.storeSafety (storedSafety args))
    obtain ⟨hsafety, hlock, hclock, hlockout, hsettings, hplant, hflags, hnumber⟩ := hmoved.kept
    have hnoRound := State.applySafety_of_no_round (s := s.storeSafety (storedSafety args))
    have hstopped := State.mode_applySafety_of_stopped (s := s.storeSafety (storedSafety args))
    refine ⟨storedSafety args, (s.storeSafety (storedSafety args)).applySafety, rfl, ?allowances, ?permitted, rfl, hanswer,
      hmoved.frame, hnoRound, hsafety, hlock.trans hunlocked, hclock, ?switches, hlockout, hsettings,
      hplant, hflags, hnumber, hstopped, ?waiting, ?rounds, ?holds⟩
    case allowances =>
      intro l
      rw [storedSafety, PerLeg.get_ofFn, clamp_zero, nat4_eq_nested]
      rfl
    case permitted => exact bne_iff_ne
    case switches =>
      intro l
      have hl := hmoved.switch l
      rwa [State.switch_storeSafety] at hl
    case waiting =>
      intro h
      have hwaiting : (s.storeSafety (storedSafety args)).mode = .idle ∨
          (s.storeSafety (storedSafety args)).mode = .waitBudget := h
      rw [State.applySafety_of_waiting hwaiting, State.withMode_startTest]
      rfl
    case rounds =>
      intro r h
      have hround : (s.storeSafety (storedSafety args)).round = some r := h
      exact ⟨fun ⟨hdepth, hpermitted⟩ => State.applySafety_ends_round hround hdepth hpermitted,
        State.applySafety_of_round_kept hround⟩
    case holds =>
      intro l d o h
      have hhold : (s.storeSafety (storedSafety args)).mode = .manual l d o := h
      refine ⟨fun hended => ?_, fun ⟨hdepth, hallowance⟩ => State.applySafety_of_hold_kept hhold hdepth hallowance⟩
      obtain ⟨hcommanded, hsettle, hrest⟩ := State.applySafety_ends_hold hhold hended
      rw [State.switch_storeSafety] at hsettle
      exact ⟨hcommanded, hsettle, hrest⟩

end Machine
end Sys2Proof
end

section
/-! Proofs, family 9, first part: the requests that write one field of a record, and REPROBE. -/

namespace Sys2Proof

/-- Four bytes read as a number are their concatenation, the first byte highest. -/
theorem nat4_eq_toNat_append (b3 b2 b1 b0 : Byte) : nat4 b3 b2 b1 b0 = (b3 ++ b2 ++ b1 ++ b0).toNat := by
  simp only [nat4_eq_nested, toNat_append_byte]

namespace Machine

/-! ### A name that picks no record (R3) -/

section NamesNothing
variable {s : State} {num gen : Byte} {status : Status} (h : s.namesNothing num gen status)
include h

theorem serveAcknowledge_of_namesNothing : serveAcknowledge [num, gen] s = refuse status s := by
  simp only [serveAcknowledge, State.checkName_of_namesNothing h]

theorem serveAnnotate_of_namesNothing (t3 t2 t1 t0 : Byte) :
    serveAnnotate [num, gen, t3, t2, t1, t0] s = refuse status s := by
  simp only [serveAnnotate, State.checkName_of_namesNothing h]

theorem servePin_of_namesNothing : servePin [num, gen] s = refuse status s := by
  simp only [servePin, State.checkName_of_namesNothing h]

theorem serveUnpin_of_namesNothing : serveUnpin [num, gen] s = refuse status s := by
  simp only [serveUnpin, State.checkName_of_namesNothing h]

theorem serveRetire_of_namesNothing : serveRetire [num, gen] s = refuse status s := by
  simp only [serveRetire, State.checkName_of_namesNothing h]

theorem serveReprobe_of_namesNothing : serveReprobe [num, gen] s = refuse status s := by
  simp only [serveReprobe, State.checkName_of_namesNothing h]

end NamesNothing

/-! ### One field of one record (R172 to R174) -/

theorem ticketOfNat_toNat (w : Word32) :
    (if w.toNat = 0 then none else some (BitVec.ofNat 32 w.toNat)) = if w = 0#32 then none else some w := by
  have hzero : w.toNat = 0 ↔ w = 0#32 := by rw [← BitVec.toNat_inj, BitVec.toNat_zero]
  simp only [hzero, BitVec.ofNat_toNat, BitVec.setWidth_eq]

/-- The ticket that four bytes carry: none where they are all 0 (R173). -/
theorem ticket_eq (t3 t2 t1 t0 : Byte) :
    (if nat4 t3 t2 t1 t0 = 0 then none else some (BitVec.ofNat 32 (nat4 t3 t2 t1 t0))) =
      if (t3 ++ t2 ++ t1 ++ t0 : Word32) = 0#32 then none else some (t3 ++ t2 ++ t1 ++ t0 : Word32) := by
  rw [nat4_eq_toNat_append]
  exact ticketOfNat_toNat (t3 ++ t2 ++ t1 ++ t0)

section Picks
variable {s : State} {num gen : Byte} {n : SlotNo} {r : Record} (h : s.picks num gen n r)
include h

theorem serveAcknowledge_of_picks :
    serveAcknowledge [num, gen] s =
      answerOk [] (s.setSlot n { s.slot n with record := some { r with acknowledged := true } }) := by
  simp only [serveAcknowledge, State.checkName_of_picks h, State.putRecord_eq_setSlot_of_unchanged]

theorem serveAnnotate_of_picks (t3 t2 t1 t0 : Byte) :
    let ticket : Word32 := t3 ++ t2 ++ t1 ++ t0
    serveAnnotate [num, gen, t3, t2, t1, t0] s =
      answerOk [] (s.setSlot n
        { s.slot n with record := some { r with ticket := if ticket = 0#32 then none else some ticket } }) := by
  simp only [serveAnnotate, State.checkName_of_picks h, State.putRecord_eq_setSlot_of_unchanged, ticket_eq]

theorem servePin_of_picks :
    servePin [num, gen] s = answerOk [] (s.setSlot n { s.slot n with record := some { r with pinned := true } }) := by
  simp only [servePin, State.checkName_of_picks h, State.putRecord_eq_setSlot_of_unchanged]

theorem serveUnpin_of_picks :
    serveUnpin [num, gen] s = answerOk [] (s.setSlot n { s.slot n with record := some { r with pinned := false } }) := by
  simp only [serveUnpin, State.checkName_of_picks h, State.putRecord_eq_setSlot_of_unchanged]

end Picks

/-- Settles O47: each request is its owner's answer, a refusal of the name or one field written. -/
theorem flagRequestsWriteOneField : Obligations.FlagRequestsWriteOneField := by
  unfold Obligations.FlagRequestsWriteOneField
  intro s tag num gen hears
  have hacknowledge : exec (.acknowledge tag [num, gen]) s =
      .next ((serveAcknowledge [num, gen] s).begin 0x34#8 tag false) :=
    exec_of_hears hears rfl rfl
  have hannotate (t3 t2 t1 t0 : Byte) : exec (.annotate tag [num, gen, t3, t2, t1, t0]) s =
      .next ((serveAnnotate [num, gen, t3, t2, t1, t0] s).begin 0x35#8 tag false) :=
    exec_of_hears hears rfl rfl
  have hpin : exec (.pin tag [num, gen]) s = .next ((servePin [num, gen] s).begin 0x36#8 tag false) :=
    exec_of_hears hears rfl rfl
  have hunpin : exec (.unpin tag [num, gen]) s = .next ((serveUnpin [num, gen] s).begin 0x37#8 tag false) :=
    exec_of_hears hears rfl rfl
  have hretire : exec (.retire tag [num, gen]) s = .next ((serveRetire [num, gen] s).begin 0x38#8 tag false) :=
    exec_of_hears hears rfl rfl
  have hreprobe : exec (.reprobe tag [num, gen]) s = .next ((serveReprobe [num, gen] s).begin 0x3A#8 tag false) :=
    exec_of_hears hears rfl rfl
  refine ⟨fun status h => ?unnamed, fun n r h => ?named⟩
  case unnamed =>
    refine ⟨?_, fun t3 t2 t1 t0 => ?_, ?_, ?_, ?_, ?_⟩
    · rw [hacknowledge, serveAcknowledge_of_namesNothing h, begin_refuse]
    · rw [hannotate, serveAnnotate_of_namesNothing h, begin_refuse]
    · rw [hpin, servePin_of_namesNothing h, begin_refuse]
    · rw [hunpin, serveUnpin_of_namesNothing h, begin_refuse]
    · rw [hretire, serveRetire_of_namesNothing h, begin_refuse]
    · rw [hreprobe, serveReprobe_of_namesNothing h, begin_refuse]
  case named =>
    intro written
    refine ⟨?_, fun t3 t2 t1 t0 => ?_, ?_, ?_⟩
    · rw [hacknowledge, serveAcknowledge_of_picks h, begin_answerOk]
    · rw [hannotate, serveAnnotate_of_picks h, begin_answerOk]
    · rw [hpin, servePin_of_picks h, begin_answerOk]
    · rw [hunpin, serveUnpin_of_picks h, begin_answerOk]

/-! ### What a sound record holds by its state (R4, R5) -/

theorem State.sound_of_recordsSound {s : State} (h : s.recordsSound = true) {n : SlotNo} {r : Record}
    (hrec : s.record n = some r) : r.sound s.plant = true :=
  List.all_eq_true.mp h (n, r) (State.mem_records.mpr hrec)

section Sound
variable {plant : PerLeg LegMap} {r : Record} {g : IngressPart} (h : r.sound plant = true)
include h

theorem Record.retention_of_sound (hs : r.state ≠ .cleared) : r.retention = none := by
  simp only [Record.sound, Record.rangesSound, Bool.and_eq_true] at h
  obtain ⟨⟨⟨⟨-, hretention⟩, -⟩, -⟩, -⟩ := h
  cases hk : r.retention with
  | none => rfl
  | some k => simp [hk, hs] at hretention

theorem Record.link_of_sound (hr : r.body = .ingress g) (hs : r.state ≠ .confirmed) : g.link = none := by
  simp only [Record.sound, hr, IngressPart.sound, Bool.and_eq_true, Bool.or_eq_true, beq_iff_eq] at h
  obtain ⟨-, -, hlink⟩ := h
  exact hlink.resolve_right hs

theorem Record.leg_of_sound (hr : r.body = .ingress g) (hconfirmed : r.state ≠ .confirmed) (hcleared : r.state ≠ .cleared) :
    g.leg = none := by
  simp only [Record.sound, hr, IngressPart.sound, Bool.and_eq_true] at h
  obtain ⟨-, ⟨-, hleg⟩, -⟩ := h
  cases hg : g.leg with
  | none => rfl
  | some l => simp [hg, hconfirmed, hcleared] at hleg

end Sound

/-! ### REPROBE (R179) -/

/-- An ingress record as REPROBE leaves it (R5, R6, R24, R179). -/
def Record.reprobed (g : IngressPart) (r : Record) : Record :=
  { r with
    state := .probeWait, acknowledged := false, retention := none, frozen := false
    body := .ingress { g with leg := none, attempts := 0, voidStreak := 0, link := none } }

/-- On entry into PROBE_WAIT an ingress record loses the leg and the link that its state allowed it (R5). -/
theorem RecordBody.agree_probeWait {old : RecordState} {g : IngressPart} (hlink : old ≠ .confirmed → g.link = none)
    (hleg : old ≠ .confirmed → old ≠ .cleared → g.leg = none) :
    (RecordBody.ingress g).agree old .probeWait = .ingress { g with leg := none, link := none } := by
  by_cases hconfirmed : old = .confirmed
  · simp [RecordBody.agree, hconfirmed]
  by_cases hcleared : old = .cleared
  · simp [RecordBody.agree, hcleared, hlink]
  · simp [RecordBody.agree, hconfirmed, hcleared, hlink, hleg]

theorem Record.enter_probeWait_eq_reprobed {plant : PerLeg LegMap} {r : Record} {g : IngressPart}
    (h : r.sound plant = true) (hr : r.body = .ingress g) (hs : r.state ≠ .probeWait) :
    Record.enter .probeWait { r with body := .ingress { g with attempts := 0, voidStreak := 0 } } = r.reprobed g := by
  have hagree : (RecordBody.ingress { g with attempts := 0, voidStreak := 0 }).agree r.state .probeWait =
      .ingress { g with leg := none, attempts := 0, voidStreak := 0, link := none } :=
    RecordBody.agree_probeWait (Record.link_of_sound (g := g) h hr) (Record.leg_of_sound (g := g) h hr)
  have hretention : (if r.state = .cleared then none else r.retention) = none :=
    ite_eq_left_iff.mpr (Record.retention_of_sound h)
  simp only [Record.enter, if_neg hs, hagree, hretention, RecordBody.stillFrozen, if_true, Record.reprobed]

/-- The record that REPROBE takes is written under its generation and joins the wait queue. -/
theorem State.reprobe_eq {s : State} {n : SlotNo} {r : Record} {g : IngressPart} (h : r.sound s.plant = true)
    (hr : r.body = .ingress g) (hs : r.state ≠ .probeWait) :
    s.reprobe n r g =
      ((s.setSlot n { gen := (s.slot n).gen, changed := true, record := some (r.reprobed g) }).withWaitQueue
        (insertEntry { name := { num := n, gen := (s.slot n).gen }, excess := r.severity, second := s.clock.seconds }
          s.waitQueue)).startTestIfIdle := by
  simp only [State.reprobe, State.putRecord_eq_setSlot_of_unchanged, State.enterState, State.record_setSlot_self, if_neg hs,
    State.putRecord_setSlot, Record.enter_probeWait_eq_reprobed h hr hs, State.raiseEntry, Bool.or_true,
    State.joinQueue_setSlot, Record.reprobed]

section Picks
variable {s : State} {num gen : Byte} {n : SlotNo} {r : Record} (h : s.picks num gen n r)
include h

theorem serveReprobe_of_echo {e : EchoPart} (hr : r.body = .echo e) :
    serveReprobe [num, gen] s = refuse .wrongState s := by
  simp only [serveReprobe, State.checkName_of_picks h, hr]

theorem serveReprobe_of_probing {g : IngressPart} (hr : r.body = .ingress g)
    (hs : r.state = .probeWait ∨ r.state = .probing) : serveReprobe [num, gen] s = refuse .wrongState s := by
  obtain hs | hs := hs <;> simp only [serveReprobe, State.checkName_of_picks h, hr, hs]

theorem serveReprobe_of_taken {g : IngressPart} (hr : r.body = .ingress g)
    (hs : r.state = .confirmed ∨ r.state = .unresolved ∨ r.state = .dormant ∨ r.state = .cleared) :
    serveReprobe [num, gen] s = answerOk [] (s.reprobe n r g) := by
  obtain hs | hs | hs | hs := hs <;> simp only [serveReprobe, State.checkName_of_picks h, hr, hs]

end Picks

/-- Settles O50: the owner's answer by the kind and the state of the record, and the record by R5 on its entry into
PROBE_WAIT. -/
theorem reprobeQueuesTheRecord : Obligations.ReprobeQueuesTheRecord := by
  unfold Obligations.ReprobeQueuesTheRecord
  intro s tag num gen n r hears hpicks
  have hrun : exec (.reprobe tag [num, gen]) s = .next ((serveReprobe [num, gen] s).begin 0x3A#8 tag false) :=
    exec_of_hears hears rfl rfl
  rw [hrun]
  refine ⟨fun e hr => ?echo, fun g hr => ⟨fun hs => ?probing, fun hs hsound => ?taken⟩⟩
  case echo => rw [serveReprobe_of_echo hpicks hr, begin_refuse]
  case probing => rw [serveReprobe_of_probing hpicks hr hs, begin_refuse]
  case taken =>
    intro joined
    rw [serveReprobe_of_taken hpicks hr hs, begin_answerOk]
    obtain ⟨-, hrec, hgen⟩ := hpicks
    have hne : r.state ≠ .probeWait := by obtain hs | hs | hs | hs := hs <;> simp [hs]
    rw [State.reprobe_eq (State.sound_of_recordsSound hsound hrec) hr hne, State.startTestIfIdle_eq, hgen]
    rfl

end Machine
end Sys2Proof
end

section
/-! Proofs, family 9, second part: the merge of two echo records. -/

namespace Sys2Proof
namespace Machine

/-! ### The merged station list (R177) -/

/-- Appended one by one, b's handles that are not yet listed follow a's until the list holds 8. -/
theorem mergedStations_eq {a b : List Nat} (ha : a.length ≤ 8) (hb : b.Nodup) :
    mergedStations a b = (a ++ b.filter fun h => !a.contains h).take 8 := by
  induction b generalizing a with
  | nil => simpa [mergedStations] using ha
  | cons h rest ih =>
    obtain ⟨hfresh, hrest⟩ := List.nodup_cons.mp hb
    have hstep : mergedStations a (h :: rest) = mergedStations (appendHandle h a) rest := rfl
    rw [hstep]
    by_cases hlisted : a.contains h = true
    · have happend : appendHandle h a = a := by simp only [appendHandle, hlisted, Bool.true_or, if_true]
      rw [happend, ih ha hrest, List.filter_cons_of_neg (by simpa using hlisted)]
    · obtain hroom | hfull := Nat.lt_or_ge a.length 8
      · have happend : appendHandle h a = a ++ [h] := by
          simpa [appendHandle, Config.stationListLimit, Nat.not_le.mpr hroom] using hlisted
        have hfilter : (rest.filter fun x => !(a ++ [h]).contains x) = rest.filter fun x => !a.contains x :=
          List.filter_congr fun x hx => by
            have hne : x ≠ h := fun e => hfresh (e ▸ hx)
            simp [hne]
        rw [happend, ih (by simpa using hroom) hrest, hfilter, List.filter_cons_of_pos (by simpa using hlisted),
          List.append_assoc, List.singleton_append]
      · have happend : appendHandle h a = a := by simp [appendHandle, Config.stationListLimit, hfull]
        have hlength : a.length = 8 := Nat.le_antisymm ha hfull
        rw [happend, ih ha hrest, List.take_left' hlength, List.take_left' hlength]

/-! ### The merged record (R178) -/

theorem Record.stations_of_sound {plant : PerLeg LegMap} {r : Record} {e : EchoPart} (h : r.sound plant = true)
    (hr : r.body = .echo e) : e.stations.length ≤ 8 ∧ e.stations.Nodup := by
  simp only [Record.sound, hr, EchoPart.sound, Bool.and_eq_true, beq_iff_eq, decide_eq_true_eq] at h
  obtain ⟨-, ⟨⟨⟨⟨⟨⟨-, hlength⟩, hdistinct⟩, -⟩, -⟩, -⟩, -⟩⟩ := h
  exact ⟨hlength, List.dedup_eq_self.mp ((List.dedup_sublist _).eq_of_length hdistinct)⟩

theorem mergedState_resting (confirmStations listLength : Nat) (a b : RecordState) :
    mergedState confirmStations listLength a b = .suspect ∨ mergedState confirmStations listLength a b = .confirmed ∨
      mergedState confirmStations listLength a b = .cleared := by
  unfold mergedState
  split
  · exact .inr (.inl rfl)
  · split
    · exact .inl rfl
    · exact .inr (.inr rfl)

theorem EchoPart.retap_of_resting {st : RecordState} (plant : PerLeg LegMap) (e : EchoPart)
    (h : st = .suspect ∨ st = .confirmed ∨ st = .cleared) :
    e.retap plant st =
      { e with tap := if st = .suspect then none else nearestTap (plant.get e.leg).taps e.position } := by
  obtain rfl | rfl | rfl := h <;> rfl

/-- An entry into a state, where retention, frozen flag and body are written over, is another state and, on a change, the
acknowledged flag cleared (R6). -/
theorem Record.enter_overwritten (r : Record) (new : RecordState) (retention : Option Nat) (frozen : Bool)
    (body : RecordBody) :
    { r.enter new with retention := retention, frozen := frozen, body := body } =
      { r with
        state := new, acknowledged := if new = r.state then r.acknowledged else false
        retention := retention, frozen := frozen, body := body } := by
  by_cases hs : r.state = new
  · subst hs
    simp [Record.enter]
  · simp [Record.enter, hs, Ne.symm hs]

theorem Record.retention_enter_of_ne_cleared {r : Record} {new : RecordState} (h : r.state ≠ .cleared → r.retention = none)
    (hnew : new ≠ .cleared) : (r.enter new).retention = none := by
  by_cases hs : r.state = new
  · have hsame : r.enter new = r := if_pos hs
    rw [hsame]
    exact h (hs ▸ hnew)
  · rw [Record.enter, if_neg hs]
    exact ite_eq_left_iff.mpr h

theorem Record.inZone_of_echo {r : Record} {e : EchoPart} (plant : PerLeg LegMap) (hr : r.body = .echo e) :
    r.inZone plant = (plant.get e.leg).zone.any fun z => decide (z.first ≤ e.position ∧ e.position ≤ z.last) := by
  cases hz : (plant.get e.leg).zone <;> simp [Record.inZone, hr, hz, Zone.holds]

section MergeResult
variable {plant : PerLeg LegMap} {a b : Record} {ea eb : EchoPart}

/-- The surviving record of a merge: the fields of R177, and over them what its state, its position and its leg give it. -/
theorem mergeResult_eq (h : a.state ≠ .cleared → a.retention = none) (confirmStations : Nat) :
    let echo := mergedEcho ea eb a.observations b.observations
    let new := mergedState confirmStations echo.stations.length a.state b.state
    mergeResult plant confirmStations a b ea eb =
      { mergedRecord a b ea eb with
        state := new, acknowledged := if new = a.state then a.acknowledged else false
        retention := if new = .cleared then mergedRetention a.retention b.retention else none
        frozen := (plant.get ea.leg).zone.any fun z => decide (z.first ≤ echo.position ∧ echo.position ≤ z.last)
        body := .echo
          { echo with tap := if new = .suspect then none else nearestTap (plant.get ea.leg).taps echo.position } } := by
  intro echo new
  have hretap : echo.retap plant new =
      { echo with tap := if new = .suspect then none else nearestTap (plant.get ea.leg).taps echo.position } :=
    EchoPart.retap_of_resting plant echo (mergedState_resting _ _ _ _)
  rw [← hretap]
  have hretention : (if new = .cleared then mergedRetention a.retention b.retention else none) =
      if new = .cleared then mergedRetention a.retention b.retention else ((mergedRecord a b ea eb).enter new).retention := by
    split
    · rfl
    next hnew => exact (Record.retention_enter_of_ne_cleared (r := mergedRecord a b ea eb) h hnew).symm
  have hfrozen : Record.inZone plant { mergedRecord a b ea eb with body := .echo (echo.retap plant new) } =
      (plant.get ea.leg).zone.any fun z => decide (z.first ≤ echo.position ∧ echo.position ≤ z.last) := by
    rw [Record.inZone_of_echo plant rfl, hretap]
    rfl
  rw [hretention, ← hfrozen]
  refine Eq.trans ?_ (Record.enter_overwritten (mergedRecord a b ea eb) new _ _ _)
  show Record.refreeze plant { (if new = .cleared then _ else _ : Record) with body := _ } = _
  split <;> rfl

/-- A merge changes what a change of state, position, station list or tap changes (R178). -/
theorem mergeChanges_of_echo {result : Record} {e : EchoPart} (ha : a.body = .echo ea) (hresult : result.body = .echo e) :
    mergeChanges a result =
      decide (result.state ≠ a.state ∨ e.position ≠ ea.position ∨ e.stations ≠ ea.stations ∨ e.tap ≠ ea.tap) := by
  rw [Bool.eq_iff_iff]
  simp only [mergeChanges, Record.echo?, ha, hresult, Bool.or_eq_true, bne_iff_ne, decide_eq_true_eq, or_assoc]

end MergeResult

/-! ### The table, the flag and the links (R178) -/

/-- The state once a's slot holds the merged record and b's slot is FREE (R178). -/
def State.mergeWritten (na nb : SlotNo) (result : Record) (changed : Bool) (s : State) : State :=
  (s.setSlot na { gen := (s.slot na).gen, changed := (s.slot na).changed || changed, record := some result }).setSlot nb
    (s.slot nb).freed

section Merge
variable {s : State} {na nb : SlotNo} {a b : Record} {ea eb : EchoPart}

theorem State.merge_eq (hne : na ≠ nb) (hrec : s.record nb = some b) (hb : b.resting) :
    let result := mergeResult s.plant s.settings.confirmStations a b ea eb
    let written := s.mergeWritten na nb result (mergeChanges a result)
    s.merge na nb a b ea eb =
      (if result.state = .confirmed ∧ a.state ≠ .confirmed then written.raise flagConfirmed else written).evaluateLinks
        ea.leg := by
  intro result written
  have hretired : (s.putRecord na result (mergeChanges a result)).retireQuietly nb = written := by
    have hkept : (s.putRecord na result (mergeChanges a result)).record nb = some b := by
      rw [State.record_putRecord_ne _ _ _ hne.symm, hrec]
    rw [State.retireQuietly_of_resting hkept hb, State.putRecord, State.slot_setSlot_ne _ _ hne.symm]
    rfl
  rw [State.merge, hretired]

theorem State.mergeReply_of_echo {n : SlotNo} {gen : Byte} {changed : Bool} {r : Record} {e : EchoPart}
    (h : s.slot n = { gen := gen, changed := changed, record := some r }) (hr : r.body = .echo e) :
    s.mergeReply n = [byteOf n.val, gen, byteOf (recordStateCode r.state)] ++ bytes2 e.position := by
  simp [State.mergeReply, State.nameOf, State.record, nameBytes, h, Record.echo?, hr]

theorem State.mergeReply_merge {e : EchoPart} (hne : na ≠ nb) (hrec : s.record nb = some b) (hb : b.resting) :
    let result := mergeResult s.plant s.settings.confirmStations a b ea eb
    result.body = .echo e →
      (s.merge na nb a b ea eb).mergeReply na =
        [byteOf na.val, (s.slot na).gen, byteOf (recordStateCode result.state)] ++ bytes2 e.position := by
  intro result hbody
  refine State.mergeReply_of_echo (changed := (s.slot na).changed || mergeChanges a result) ?_ hbody
  have hwritten : (s.mergeWritten na nb result (mergeChanges a result)).slot na =
      { gen := (s.slot na).gen, changed := (s.slot na).changed || mergeChanges a result, record := some result } := by
    rw [State.mergeWritten, State.slot_setSlot_ne _ _ hne, State.slot_setSlot_self]
  rw [State.merge_eq hne hrec hb, State.slot_evaluateLinks, apply_ite (State.slot · na), State.slot_raise, ite_self, hwritten]
  exact Slot.relink_of_echo _ rfl hbody

end Merge

/-! ### The owner's answers (R176) -/

section ServeMerge
variable {s : State} {numA genA numB genB : Byte} {na nb : SlotNo} {a b : Record}

theorem serveMerge_of_namesNothing_first {status : Status} (h : s.namesNothing numA genA status) :
    serveMerge [numA, genA, numB, genB] s = refuse status s := by
  simp only [serveMerge, State.checkName_of_namesNothing h]

theorem serveMerge_of_namesNothing_second {status : Status} (ha : s.picks numA genA na a)
    (h : s.namesNothing numB genB status) : serveMerge [numA, genA, numB, genB] s = refuse status s := by
  simp only [serveMerge, State.checkName_of_picks ha, State.checkName_of_namesNothing h]

variable (ha : s.picks numA genA na a) (hb : s.picks numB genB nb b)
include ha hb

theorem serveMerge_of_same (h : na = nb) : serveMerge [numA, genA, numB, genB] s = refuse .badArgument s := by
  simp only [serveMerge, State.checkName_of_picks ha, State.checkName_of_picks hb, if_pos h]

theorem serveMerge_of_ingress (hne : na ≠ nb) (h : ∃ g, a.body = .ingress g ∨ b.body = .ingress g) :
    serveMerge [numA, genA, numB, genB] s = refuse .wrongState s := by
  simp only [serveMerge, State.checkName_of_picks ha, State.checkName_of_picks hb, if_neg hne]
  obtain ⟨g, h | h⟩ := h
  · simp only [h]
  · cases hbody : a.body <;> simp only [h]

theorem serveMerge_of_echoes {ea eb : EchoPart} (hne : na ≠ nb) (hea : a.body = .echo ea) (heb : b.body = .echo eb) :
    serveMerge [numA, genA, numB, genB] s =
      if ea.leg = eb.leg then answerOk ((s.merge na nb a b ea eb).mergeReply na) (s.merge na nb a b ea eb)
      else refuse .wrongState s := by
  simp only [serveMerge, State.checkName_of_picks ha, State.checkName_of_picks hb, if_neg hne, hea, heb]

end ServeMerge

/-- Settles O49: the refusals in the order of the owner's checks; then the merged record field by field, b's slot FREE, the
flag, the links and the reply. -/
theorem mergeJoinsTwoEchoRecords : Obligations.MergeJoinsTwoEchoRecords := by
  unfold Obligations.MergeJoinsTwoEchoRecords
  intro s tag numA genA numB genB hears run refused
  have hrun : run = .next ((serveMerge [numA, genA, numB, genB] s).begin 0x39#8 tag false) :=
    exec_of_hears hears rfl rfl
  have hrefused {status : Status} (h : serveMerge [numA, genA, numB, genB] s = refuse status s) : refused status := by
    show run = _
    rw [hrun, h, begin_refuse]
  refine ⟨fun status h => hrefused (serveMerge_of_namesNothing_first h), fun na a ha =>
    ⟨fun status h => hrefused (serveMerge_of_namesNothing_second ha h), fun nb b hb =>
      ⟨fun h => hrefused (serveMerge_of_same ha hb h), fun hne h => hrefused (serveMerge_of_ingress ha hb hne h),
        fun ea eb hea heb hne => ?_⟩⟩⟩
  have hserve := serveMerge_of_echoes ha hb hne hea heb
  refine ⟨fun hleg => hrefused (hserve.trans (if_neg hleg)), fun hleg hsound => ?_⟩
  intro wa wb position stations state tap merged changed written
  rw [if_pos hleg] at hserve
  obtain ⟨hnumA, hrecA, hgenA⟩ := ha
  obtain ⟨-, hrecB, hgenB⟩ := hb
  have hsoundA := State.sound_of_recordsSound hsound hrecA
  have hrestB := (State.echo_of_recordsSound hsound hrecB heb).1
  have hstations : mergedStations ea.stations eb.stations = stations :=
    mergedStations_eq (Record.stations_of_sound hsoundA hea).1
      (Record.stations_of_sound (State.sound_of_recordsSound hsound hrecB) heb).2
  have hstate : mergedState s.settings.confirmStations (mergedStations ea.stations eb.stations).length a.state b.state =
      state := by
    rw [hstations]
    rfl
  have hmerged : mergeResult s.plant s.settings.confirmStations a b ea eb = merged := by
    rw [mergeResult_eq (Record.retention_of_sound hsoundA)]
    simp only [mergedEcho, mergedRecord, hstate]
    rw [Record.mk.injEq]
    refine ⟨rfl, rfl, rfl, rfl, rfl, ?mergedRetention, rfl, rfl, rfl, rfl, ?mergedFrozen, ?mergedTicket, ?mergedBody⟩
    case mergedRetention =>
      generalize state = new
      cases new with
      | cleared => cases a.retention <;> cases b.retention <;> rfl
      | suspect | probeWait | probing | confirmed | dormant | unresolved => rfl
    case mergedFrozen => cases (s.plant.get ea.leg).zone <;> rfl
    case mergedTicket => cases a.ticket <;> rfl
    case mergedBody => rw [hstations]; rfl
  have hbody : (mergeResult s.plant s.settings.confirmStations a b ea eb).body = merged.body := congrArg Record.body hmerged
  have hwritten : s.mergeWritten na nb merged (mergeChanges a merged) = written := by
    rw [State.mergeWritten, mergeChanges_of_echo hea rfl, Slot.freed, hgenA, hgenB]
  have hnum : byteOf na.val = numA := by rw [← hnumA, byteOf, BitVec.ofNat_toNat, BitVec.setWidth_eq]
  have hreply := State.mergeReply_merge hne hrecB hrestB hbody
  rw [hrun, hserve, begin_answerOk, hreply, State.merge_eq hne hrecB hrestB, hmerged, hwritten, hnum, hgenA]

end Machine
end Sys2Proof
end

section
/-! Proofs, family 10, first part: the line reset and the level of the RESET line, the end of a reply, IDENT and RESTART. -/

namespace Sys2Proof
namespace Machine

/-! ### The level of the RESET line and a line reset (R146, R194)

No block reads the level of the RESET line when it resets: each operation of a line reset commutes with a change of it. -/

section ResetLine
variable (s : State) (level : Bool)

theorem State.startTest_withResetLine : (s.withResetLine level).startTest = s.startTest.withResetLine level := by
  have houtcome : (s.withResetLine level).startOutcome = s.startOutcome := rfl
  unfold State.startTest
  rw [State.withResetLine_mode, houtcome]
  split
  · split <;> rfl
  · split <;> rfl
  all_goals rfl

theorem State.startTestIfIdle_withResetLine :
    (s.withResetLine level).startTestIfIdle = s.startTestIfIdle.withResetLine level := by
  rw [State.startTestIfIdle_eq, State.startTestIfIdle_eq, State.withResetLine_mode, s.startTest_withResetLine]
  split <;> rfl

theorem State.enterMode_withResetLine (m : Mode) :
    (s.withResetLine level).enterMode m = (s.enterMode m).withResetLine level :=
  (s.withMode m).startTestIfIdle_withResetLine level

theorem State.command_withResetLine (l : Leg) (p : SwitchState) (settle : Nat) :
    (s.withResetLine level).command l p settle = (s.command l p settle).withResetLine level := by
  have hother : (s.withResetLine level).otherOut l = s.otherOut l := rfl
  have hswitch : (s.withResetLine level).switch l = s.switch l := rfl
  unfold State.command
  rw [State.withResetLine_lockout, hother, hswitch]
  split
  · rfl
  · split <;> rfl

theorem State.abortCommand_withResetLine :
    (s.withResetLine level).abortCommand = s.abortCommand.withResetLine level := by
  unfold State.abortCommand
  rw [State.withResetLine_mode]
  split
  · exact s.command_withResetLine ..
  · exact s.command_withResetLine ..
  all_goals rfl

theorem State.requeue_withResetLine (name : RecordName) :
    (s.withResetLine level).requeue name = (s.requeue name).withResetLine level := by
  have hnamed : (s.withResetLine level).named name = s.named name := rfl
  cases h : s.named name with
  | none => rw [State.requeue_of_gone h, State.requeue_of_gone (hnamed.trans h)]
  | some x =>
    by_cases hx : x.state = .probing
    · rw [State.requeue_of_probing h hx, State.requeue_of_probing (hnamed.trans h) hx,
        ← State.startTestIfIdle_withResetLine]
      rfl
    · rw [State.requeue_of_not_probing h hx, State.requeue_of_not_probing (hnamed.trans h) hx]

theorem State.abortRound_withResetLine (after : Mode) :
    (s.withResetLine level).abortRound after = (s.abortRound after).withResetLine level := by
  have hround : (s.withResetLine level).round = s.round := rfl
  unfold State.abortRound
  rw [hround, s.abortCommand_withResetLine]
  split
  · rfl
  · rw [State.requeue_withResetLine, State.enterMode_withResetLine]

theorem State.resetSequencer_withResetLine :
    (s.withResetLine level).resetSequencer = s.resetSequencer.withResetLine level := by
  have hguard : (s.withResetLine level).guardNow = s.guardNow := rfl
  unfold State.resetSequencer
  rw [State.withResetLine_mode]
  split
  case h_1 => exact s.abortRound_withResetLine level .idle
  case h_2 => exact s.abortRound_withResetLine level .idle
  case h_3 => exact s.enterMode_withResetLine level .idle
  case h_4 => rw [hguard, s.command_withResetLine, State.enterMode_withResetLine]
  all_goals rfl

theorem State.lineReset_withResetLine : (s.withResetLine level).lineReset = s.lineReset.withResetLine level := by
  rw [State.lineReset, State.lineReset, ← State.resetSequencer_withResetLine]
  rfl

end ResetLine

/-! ### What a line reset leaves of the RESET line and the link (R194) -/

theorem State.SequencerMoved.of_resetSequencer (s : State) : s.SequencerMoved s.resetSequencer := by
  unfold State.resetSequencer
  split
  case h_1 => exact of_abortRound s .idle
  case h_2 => exact of_abortRound s .idle
  case h_3 => exact of_enterMode s .idle
  case h_4 => exact (of_command s _ _ _).trans (of_enterMode _ _)
  all_goals exact refl s

theorem State.resetLine_lineReset (s : State) : s.lineReset.resetLine = s.resetLine := by
  rw [State.lineReset, (State.SequencerMoved.of_resetSequencer _).frame]
  rfl

theorem State.link_lineReset (s : State) : s.lineReset.link = Link.initial := by
  rw [State.lineReset, (State.SequencerMoved.of_resetSequencer _).frame]
  rfl

/-- A line reset forgets the link that it finds. -/
theorem State.lineReset_withLink (s : State) (k : Link) : (s.withLink k).lineReset = s.lineReset := rfl

/-- The RESET line, asserted on a block at rest, gives what a line reset of that block gives, but for the line's own level. -/
theorem exec_lineReset_of_released {s : State} (h : s.nothingDue = true) :
    exec .lineReset (s.withResetLine false) = .next (s.lineReset.withResetLine true) := by
  have hdue : (s.withResetLine false).nothingDue = true := h
  have hexec : exec .lineReset (s.withResetLine false) =
      .next (((s.withResetLine false).caughtUp.withResetLine true).lineReset) := rfl
  rw [hexec, State.caughtUp_of_nothingDue hdue, ← s.lineReset_withResetLine]
  rfl

/-! ### The end of a reply (R183, R187, R188) -/

section EndOfReply
variable {s : State} (h : s.nothingDue = true)
include h

theorem exec_replySent_of_none (hreply : s.link.reply = none) : exec .replySent s = .next s := by
  show execReplySent s = _
  unfold execReplySent
  simp only [State.caughtUp_of_nothingDue h, hreply]

theorem exec_replySent_of_some {reply : Reply} (hreply : s.link.reply = some reply) :
    exec .replySent s = .next ((s.withLink { s.link with reply := none }).endReply reply) := by
  show execReplySent s = _
  unfold execReplySent
  simp only [State.caughtUp_of_nothingDue h, hreply]

theorem exec_lineBreak_of_reply {rate : Rate} {reply : Reply} (hphase : s.link.phase = .ready rate)
    (hreply : s.link.reply = some reply) :
    exec .lineBreak s = .next ((s.withLink Link.initial).endReply reply) := by
  show execLineBreak s = _
  unfold execLineBreak
  simp only [State.caughtUp_of_nothingDue h, hphase, hreply]

end EndOfReply

theorem State.endReply_of_restart {reply : Reply} (hrestart : reply.restart = true) (s : State) (k : Link) :
    (s.withLink k).endReply reply = s.lineReset := by
  rw [State.endReply, if_pos hrestart, State.lineReset_withLink]

theorem State.endReply_of_other {reply : Reply} (hother : reply.restart = false) (s : State) :
    s.endReply reply = s := by
  rw [State.endReply, hother, if_neg Bool.false_ne_true]

/-! ### The owners' answers (R188) -/

theorem serveIdent_nil (s : State) :
    serveIdent [] s =
      answerOk [0x4A#8, 0x46#8, 24#8, 3#8, 96#8, 4#8, 64#8, 2#8, 0#8, 4#8, 0#8, 16#8, 64#8] s := rfl

/-- The reply to a RESTART that is taken carries the line reset to come. -/
theorem begin_serveRestart_nil (tag : Byte) (s : State) :
    (serveRestart [] s).begin 0x02#8 tag true =
      s.withLink
        { s.link with
          frame := none
          reply := some { frame := 0x5A#8 :: framed [0x82#8, tag, 0#8], restart := true } } := rfl

/-- The reply to a RESTART that is refused carries none. -/
theorem begin_serveRestart_cons (tag x : Byte) (xs : List Byte) (s : State) :
    (serveRestart (x :: xs) s).begin 0x02#8 tag true = s.replied 0x02#8 tag .badArgument [] := rfl

/-- Settles O37: the requests are their owners' answers; at either end of the reply to RESTART the line reset is taken, which
neither reads the level of the RESET line nor keeps anything of the link. -/
theorem identAndRestartAnswer : Obligations.IdentAndRestartAnswer := by
  unfold Obligations.IdentAndRestartAnswer
  refine ⟨fun s tag hears => ?requests, fun s due => ⟨exec_replySent_of_none due, fun reply hreply => ?ends⟩⟩
  case requests =>
    have hident : exec (.ident tag []) s = .next ((serveIdent [] s).begin 0x01#8 tag false) :=
      exec_of_hears hears rfl rfl
    have hrestart (args : List Byte) :
        exec (.restart tag args) s = .next ((serveRestart args s).begin 0x02#8 tag true) :=
      exec_of_hears hears rfl rfl
    refine ⟨?ident, ?taken, fun x xs => ?refused⟩
    case ident => rw [hident, serveIdent_nil, begin_answerOk]
    case taken => rw [hrestart, begin_serveRestart_nil]
    case refused => rw [hrestart, begin_serveRestart_cons]
  case ends =>
    have hsent := exec_replySent_of_some due hreply
    refine ⟨fun hother => ?other, fun hrestart => ?restart⟩
    case other => rw [hsent, State.endReply_of_other hother]
    case restart =>
      refine ⟨s.lineReset, ?lastBit, s.resetLine_lineReset, ?phase, exec_lineReset_of_released due,
        fun ⟨rate, hphase⟩ => ?lineBreak⟩
      case lastBit => rw [hsent, State.endReply_of_restart hrestart]
      case phase => rw [s.link_lineReset, Link.initial]
      case lineBreak => rw [exec_lineBreak_of_reply due hphase hreply, State.endReply_of_restart hrestart]

end Machine
end Sys2Proof
end

section
/-! Proofs, family 10, second part: ALERT, and the requests for the clock and the events. -/

namespace Sys2Proof

/-- A word is not 0 exactly where some bit of it is set. -/
theorem ne_zero_iff_exists_getLsbD {w : Nat} {x : BitVec w} : x ≠ 0#w ↔ ∃ n, n < w ∧ x.getLsbD n = true := by
  simp [BitVec.eq_of_getLsbD_eq_iff]

namespace Machine

/-! ### ALERT (R193) -/

theorem State.alert_iff (s : State) :
    s.alert = true ↔ ∃ n, n < 7 ∧ s.flags.getLsbD n = true ∧ s.mask.getLsbD n = true := by
  simp only [State.alert, bne_iff_ne, ne_zero_iff_exists_getLsbD, BitVec.getLsbD_and, Bool.and_eq_true]

/-! ### The owners' answers (R30, R192) -/

section EventOwners
variable (s : State)

theorem serveReadClock_nil : serveReadClock [] s = answerOk (bytes4 s.clock.seconds.toNat ++ bytes2 s.clock.ms) s := rfl

theorem serveSetClock_four (b3 b2 b1 b0 : Byte) :
    serveSetClock [b3, b2, b1, b0] s = answerOk [] (s.withClock { s.clock with seconds := b3 ++ b2 ++ b1 ++ b0 }) := by
  simp only [serveSetClock, nat4_eq_toNat_append, BitVec.ofNat_toNat, BitVec.setWidth_eq]

theorem serveReadEvents_nil : serveReadEvents [] s = answerOk [s.flags.zeroExtend 8, s.mask.zeroExtend 8] s := rfl

theorem serveClearEvents_one (b : Byte) :
    let left := s.flags &&& ~~~(b.truncate 7)
    serveClearEvents [b] s = answerOk [left.zeroExtend 8] (s.withFlags left) := rfl

theorem serveSetEventMask_one (b : Byte) :
    serveSetEventMask [b] s = answerOk [(b.truncate 7 : BitVec 7).zeroExtend 8] (s.withMask (b.truncate 7)) := rfl

end EventOwners

/-- Settles O39: ALERT bit by bit; each request is its owner's answer. -/
theorem clockAndEventRequests : Obligations.ClockAndEventRequests := by
  unfold Obligations.ClockAndEventRequests
  intro s tag
  refine ⟨s.alert_iff, fun hears => ?_⟩
  have hreadClock : exec (.readClock tag []) s = .next ((serveReadClock [] s).begin 0x08#8 tag false) :=
    exec_of_hears hears rfl rfl
  have hsetClock (args : List Byte) : exec (.setClock tag args) s = .next ((serveSetClock args s).begin 0x09#8 tag false) :=
    exec_of_hears hears rfl rfl
  have hreadEvents : exec (.readEvents tag []) s = .next ((serveReadEvents [] s).begin 0x48#8 tag false) :=
    exec_of_hears hears rfl rfl
  have hclearEvents (b : Byte) : exec (.clearEvents tag [b]) s = .next ((serveClearEvents [b] s).begin 0x49#8 tag false) :=
    exec_of_hears hears rfl rfl
  have hsetMask (b : Byte) : exec (.setEventMask tag [b]) s = .next ((serveSetEventMask [b] s).begin 0x4A#8 tag false) :=
    exec_of_hears hears rfl rfl
  refine ⟨?readClock, fun b3 b2 b1 b0 => ?setClock, ?readEvents, fun b => ?clearEvents, fun b => ?setMask⟩
  case readClock => rw [hreadClock, serveReadClock_nil, begin_answerOk]
  case setClock => rw [hsetClock, serveSetClock_four, begin_answerOk]
  case readEvents => rw [hreadEvents, serveReadEvents_nil, begin_answerOk]
  case clearEvents => rw [hclearEvents, serveClearEvents_one, begin_answerOk]
  case setMask => rw [hsetMask, serveSetEventMask_one, begin_answerOk]

end Machine
end Sys2Proof
end

section
/-! Proofs, family 11, first part: which fields of the state an operation can touch, said once for each shared operation. -/

namespace Sys2Proof
namespace Machine

/-! ### Fields and frames -/

/-- The fields of State, by name. -/
inductive Field where
  | clock | table | plant | staging | port | queue | hold | bands | mode | waitQueue | roundNumber | switches | lockout
  | settings | safety | safetyLock | link | flags | mask | resetLine | confirmedNow | pending
  deriving DecidableEq

/-- Every field but the queue of commands and the level of the RESET line, which the part does not reset (log entry 6). -/
def Field.resettable : List Field :=
  [.clock, .table, .plant, .staging, .port, .queue, .hold, .bands, .mode, .waitQueue, .roundNumber, .switches, .lockout,
    .settings, .safety, .safetyLock, .link, .flags, .mask, .confirmedNow]

/-- Two states hold the same in a field. -/
def State.sameAt (s t : State) (f : Field) : Prop :=
  match f with
  | .clock => t.clock = s.clock
  | .table => t.table = s.table
  | .plant => t.plant = s.plant
  | .staging => t.staging = s.staging
  | .port => t.port = s.port
  | .queue => t.queue = s.queue
  | .hold => t.hold = s.hold
  | .bands => t.bands = s.bands
  | .mode => t.mode = s.mode
  | .waitQueue => t.waitQueue = s.waitQueue
  | .roundNumber => t.roundNumber = s.roundNumber
  | .switches => t.switches = s.switches
  | .lockout => t.lockout = s.lockout
  | .settings => t.settings = s.settings
  | .safety => t.safety = s.safety
  | .safetyLock => t.safetyLock = s.safetyLock
  | .link => t.link = s.link
  | .flags => t.flags = s.flags
  | .mask => t.mask = s.mask
  | .resetLine => t.resetLine = s.resetLine
  | .confirmedNow => t.confirmedNow = s.confirmedNow
  | .pending => t.pending = s.pending

/-- `t` differs from `s` at most in these fields. -/
def State.Touches (fs : List Field) (s t : State) : Prop := ∀ f, f ∉ fs → s.sameAt t f

theorem State.sameAt.trans {s t u : State} {f : Field} (hst : s.sameAt t f) (htu : t.sameAt u f) : s.sameAt u f := by
  cases f <;> exact Eq.trans htu hst

namespace State.Touches
variable {fs gs : List Field} {s t u : State}

theorem refl (fs : List Field) (s : State) : s.Touches fs s := fun f _ => by cases f <;> rfl

theorem trans (hst : s.Touches fs t) (htu : t.Touches fs u) : s.Touches fs u := fun f hf => (hst f hf).trans (htu f hf)

theorem mono (h : s.Touches fs t) (hsub : ∀ f ∈ fs, f ∈ gs := by decide) : s.Touches gs t :=
  fun f hf => h f fun hmem => hf (hsub f hmem)

/-! ### One update -/

section Updates
variable (s : State)

theorem of_withClock (x : Clock) : s.Touches [.clock] (s.withClock x) := fun f hf => by
  cases f <;> first | rfl | simp at hf
theorem of_withTable (x : Vector Slot 96) : s.Touches [.table] (s.withTable x) := fun f hf => by
  cases f <;> first | rfl | simp at hf
theorem of_withPlant (x : PerLeg LegMap) : s.Touches [.plant] (s.withPlant x) := fun f hf => by
  cases f <;> first | rfl | simp at hf
theorem of_withStaging (x : Option Staging) : s.Touches [.staging] (s.withStaging x) := fun f hf => by
  cases f <;> first | rfl | simp at hf
theorem of_withPort (x : Port) : s.Touches [.port] (s.withPort x) := fun f hf => by
  cases f <;> first | rfl | simp at hf
theorem of_withQueue (x : List QueuedReport) : s.Touches [.queue] (s.withQueue x) := fun f hf => by
  cases f <;> first | rfl | simp at hf
theorem of_withHold (x : Bool) : s.Touches [.hold] (s.withHold x) := fun f hf => by
  cases f <;> first | rfl | simp at hf
theorem of_withBands (x : Vector BandEntry 16) : s.Touches [.bands] (s.withBands x) := fun f hf => by
  cases f <;> first | rfl | simp at hf
theorem of_withMode (x : Mode) : s.Touches [.mode] (s.withMode x) := fun f hf => by
  cases f <;> first | rfl | simp at hf
theorem of_withWaitQueue (x : List WaitEntry) : s.Touches [.waitQueue] (s.withWaitQueue x) := fun f hf => by
  cases f <;> first | rfl | simp at hf
theorem of_withRoundNumber (x : Byte) : s.Touches [.roundNumber] (s.withRoundNumber x) := fun f hf => by
  cases f <;> first | rfl | simp at hf
theorem of_withSwitches (x : PerLeg LegSwitch) : s.Touches [.switches] (s.withSwitches x) := fun f hf => by
  cases f <;> first | rfl | simp at hf
theorem of_withLockout (x : Bool) : s.Touches [.lockout] (s.withLockout x) := fun f hf => by
  cases f <;> first | rfl | simp at hf
theorem of_withSettings (x : Settings) : s.Touches [.settings] (s.withSettings x) := fun f hf => by
  cases f <;> first | rfl | simp at hf
theorem of_withSafety (x : Safety) : s.Touches [.safety] (s.withSafety x) := fun f hf => by
  cases f <;> first | rfl | simp at hf
theorem of_withSafetyLock (x : Bool) : s.Touches [.safetyLock] (s.withSafetyLock x) := fun f hf => by
  cases f <;> first | rfl | simp at hf
theorem of_withLink (x : Link) : s.Touches [.link] (s.withLink x) := fun f hf => by
  cases f <;> first | rfl | simp at hf
theorem of_withFlags (x : BitVec 7) : s.Touches [.flags] (s.withFlags x) := fun f hf => by
  cases f <;> first | rfl | simp at hf
theorem of_withMask (x : BitVec 7) : s.Touches [.mask] (s.withMask x) := fun f hf => by
  cases f <;> first | rfl | simp at hf
theorem of_withResetLine (x : Bool) : s.Touches [.resetLine] (s.withResetLine x) := fun f hf => by
  cases f <;> first | rfl | simp at hf
theorem of_withConfirmedNow (x : Option RecordName) : s.Touches [.confirmedNow] (s.withConfirmedNow x) := fun f hf => by
  cases f <;> first | rfl | simp at hf

theorem of_raise (n : Nat) : s.Touches [.flags] (s.raise n) := of_withFlags s _
theorem of_setSlot (n : SlotNo) (x : Slot) : s.Touches [.table] (s.setSlot n x) := of_withTable s _
theorem of_putRecord (n : SlotNo) (r : Record) (c : Bool) : s.Touches [.table] (s.putRecord n r c) := of_withTable s _
theorem of_evaluateLinks (leg : Leg) : s.Touches [.table] (s.evaluateLinks leg) := of_withTable s _
theorem of_setSwitch (l : Leg) (x : LegSwitch) : s.Touches [.switches] (s.setSwitch l x) := of_withSwitches s _
theorem of_setBand (b : Band) (x : BandEntry) : s.Touches [.bands] (s.setBand b x) := of_withBands s _

end Updates

/-- A change that makes either of two states makes what both touch. -/
theorem ite {c : Prop} [Decidable c] (ht : s.Touches fs t) (hu : s.Touches fs u) : s.Touches fs (if c then t else u) := by
  split
  · exact ht
  · exact hu

end State.Touches

/-! ### The table -/

section Ops
variable (s : State)

theorem State.touches_raiseEntry (st : RecordState) : s.Touches [.flags] (s.raiseEntry st) := by
  cases st
  case confirmed | cleared | unresolved => exact .of_raise s _
  all_goals exact .refl _ s

theorem State.touches_enterState (n : SlotNo) (st : RecordState) : s.Touches [.table, .flags] (s.enterState n st) := by
  unfold State.enterState
  split
  · exact .refl _ s
  · exact .ite (.refl _ s) ((State.Touches.of_putRecord s _ _ _).mono.trans (State.touches_raiseEntry _ _).mono)

theorem State.touches_evaluateLinkOf (n : SlotNo) : s.Touches [.table] (s.evaluateLinkOf n) := by
  unfold State.evaluateLinkOf
  split
  · exact .refl _ s
  · split
    · exact .refl _ s
    · exact .of_setSlot s _ _

theorem State.touches_ageTable : s.Touches [.table, .flags] s.ageTable := by
  rw [s.ageTable_frame]
  exact (State.Touches.of_withTable s _).mono.trans (State.Touches.of_withFlags _ _).mono

/-! ### The sequencer -/

theorem State.SequencerMoved.touches {s t : State} (h : s.SequencerMoved t) :
    s.Touches [.table, .switches, .waitQueue, .mode] t := by
  rw [h.frame]
  exact ((((State.Touches.of_withTable s _).mono.trans (State.Touches.of_withSwitches _ _).mono).trans
    (State.Touches.of_withWaitQueue _ _).mono).trans (State.Touches.of_withMode _ _).mono)

theorem State.touches_startTest : s.Touches [.mode] s.startTest := by
  rw [s.startTest_eq_withMode]
  exact .of_withMode s _

theorem State.touches_startTestIfIdle : s.Touches [.mode] s.startTestIfIdle := by
  rw [s.startTestIfIdle_eq]
  exact .ite s.touches_startTest (.refl _ s)

theorem State.touches_command (l : Leg) (p : SwitchState) (settle : Nat) :
    s.Touches [.switches] (s.command l p settle) := by
  rw [s.command_eq_withSwitches]
  exact .of_withSwitches s _

theorem State.touches_allThrough (settle : Nat) : s.Touches [.switches] (s.allThrough settle) := by
  unfold State.allThrough
  generalize allLegs = legs
  induction legs generalizing s with
  | nil => exact .refl _ s
  | cons l legs ih => exact (s.touches_command l _ _).trans (ih _)

theorem State.touches_joinQueue (n : SlotNo) (second : Word32) : s.Touches [.waitQueue, .mode] (s.joinQueue n second) := by
  unfold State.joinQueue
  split
  · exact .refl _ s
  · exact (State.Touches.of_withWaitQueue s _).mono.trans (State.touches_startTestIfIdle _).mono

theorem State.touches_leaveQueue (name : RecordName) : s.Touches [.waitQueue, .mode] (s.leaveQueue name) := by
  unfold State.leaveQueue
  have hleft (q : List WaitEntry) : s.Touches [.waitQueue, .mode] (s.withWaitQueue q) := (State.Touches.of_withWaitQueue s q).mono
  refine .ite ?_ (hleft _)
  split
  · exact (hleft _).trans (State.touches_startTest _).mono
  all_goals exact hleft _

theorem State.touches_requeue (name : RecordName) : s.Touches [.table, .waitQueue, .mode] (s.requeue name) := by
  cases h : s.named name with
  | none =>
    rw [State.requeue_of_gone h]
    exact .refl _ s
  | some x =>
    by_cases hx : x.state = .probing
    · rw [State.requeue_of_probing h hx]
      exact ((State.Touches.of_setSlot s _ _).mono.trans (State.Touches.of_withWaitQueue _ _).mono).trans
        (State.touches_startTestIfIdle _).mono
    · rw [State.requeue_of_not_probing h hx]
      exact .refl _ s

theorem State.touches_aborted (r : Round) : s.Touches [.table, .switches, .waitQueue, .mode] (s.aborted r) :=
  (State.SequencerMoved.of_aborted s r).touches

theorem State.touches_nextVisit (r : Round) (legs : List Leg) : s.Touches [.switches, .mode] (s.nextVisit r legs) := by
  induction legs generalizing r with
  | nil => exact (State.Touches.of_withMode s _).mono
  | cons l rest ih =>
    unfold State.nextVisit
    split
    · split
      · exact ih _
      · exact ((State.Touches.of_setSwitch s _ _).mono.trans (State.touches_command _ _ _ _).mono).trans
          (State.Touches.of_withMode _ _).mono
    all_goals exact ih _

theorem State.touches_enterLocked : s.Touches [.table, .switches, .waitQueue, .mode] s.enterLocked := by
  unfold State.enterLocked
  split
  · exact (s.touches_aborted _).trans (State.Touches.of_withMode _ _).mono
  · exact (State.Touches.of_withMode s _).mono

theorem State.touches_startRound : s.Touches [.table, .waitQueue, .mode, .roundNumber, .flags] s.startRound := by
  unfold State.startRound
  split
  · exact .refl _ s
  · refine State.Touches.trans (.ite (State.Touches.trans ?counted (State.touches_enterState _ _ _).mono) ?counted)
      (State.Touches.of_withMode _ _).mono
    exact (State.Touches.of_withRoundNumber s _).mono.trans (State.Touches.of_withWaitQueue _ _).mono

theorem State.touches_applyEvaluation (n : SlotNo) (r : Record) (g : IngressPart) (round : Round) :
    s.Touches [.table, .flags, .waitQueue, .mode, .confirmedNow] (s.applyEvaluation n r g round) := by
  have hentered (x : Record) (st : RecordState) :
      s.Touches [.table, .flags, .waitQueue, .mode, .confirmedNow] ((s.putRecord n x false).enterState n st) :=
    (State.Touches.of_putRecord s _ _ _).mono.trans (State.touches_enterState _ _ _).mono
  unfold State.applyEvaluation
  dsimp only
  split
  · split
    · exact hentered _ _
    · split
      · exact hentered _ _
      · exact (((hentered _ _).trans (State.Touches.of_putRecord _ _ _ _).mono).trans
          (State.touches_evaluateLinkOf _ _).mono).trans (State.Touches.of_withConfirmedNow _ _).mono
  · exact (hentered _ _).trans (State.touches_joinQueue _ _ _).mono
  all_goals exact hentered _ _

theorem State.touches_evaluateRound : s.Touches [.table, .flags, .waitQueue, .mode, .confirmedNow] s.evaluateRound := by
  unfold State.evaluateRound State.enterMode
  split
  · refine State.Touches.trans (State.Touches.trans ?updated (State.Touches.of_withMode _ _).mono)
      (State.touches_startTestIfIdle _).mono
    split
    · exact .refl _ s
    · split
      · exact .refl _ s
      · exact .ite (s.touches_applyEvaluation _ _ _ _) (.refl _ s)
  all_goals exact .refl _ s

/-! ### Retirement, activation, merging -/

theorem State.touches_retireQuietly (n : SlotNo) :
    s.Touches [.table, .switches, .waitQueue, .mode] (s.retireQuietly n) := by
  unfold State.retireQuietly
  split
  · exact .refl _ s
  · refine State.Touches.trans (t := s.freeSlot n) (State.Touches.of_setSlot s _ _).mono ?_
    unfold State.afterRetirement
    split
    · split
      · exact .refl _ _
      · exact .ite (State.SequencerMoved.of_abortRound _ _).touches (.refl _ _)
    · exact (State.touches_leaveQueue _ _).mono
    all_goals exact .refl _ _

theorem State.touches_retire (n : SlotNo) : s.Touches [.table, .switches, .waitQueue, .mode] (s.retire n) := by
  unfold State.retire
  split
  · exact .refl _ s
  · split
    · exact s.touches_retireQuietly n
    · exact (s.touches_retireQuietly n).trans (State.Touches.of_evaluateLinks _ _).mono

theorem State.touches_rescale (leg : Leg) : s.Touches [.table, .switches, .waitQueue, .mode] (s.rescale leg) := by
  unfold State.rescale
  refine State.Touches.trans (t := (s.echoesOn leg true).foldl (fun t n => t.setSlot n (t.slot n).markStale) s) ?kept ?freed
  case kept =>
    generalize s.echoesOn leg true = ns
    induction ns generalizing s with
    | nil => exact .refl _ s
    | cons n ns ih => exact (State.Touches.of_setSlot s _ _).mono.trans (ih _)
  case freed =>
    generalize (s.echoesOn leg true).foldl (fun t n => t.setSlot n (t.slot n).markStale) s = u
    generalize s.echoesOn leg false = ns
    induction ns generalizing u with
    | nil => exact .refl _ u
    | cons n ns ih => exact (u.touches_retireQuietly n).trans (ih _)

theorem State.touches_activate (g : Staging) :
    s.Touches [.plant, .staging, .table, .switches, .waitQueue, .mode] (s.activate g) := by
  rw [s.activate_eq]
  have hmapped : s.Touches [.plant, .staging, .table, .switches, .waitQueue, .mode]
      ((s.withPlant (s.newPlant g)).withStaging none) :=
    (State.Touches.of_withPlant s _).mono.trans (State.Touches.of_withStaging _ _).mono
  have hscaled : s.Touches [.plant, .staging, .table, .switches, .waitQueue, .mode] (s.reattributed g) := by
    unfold State.reattributed
    exact State.Touches.trans (.ite (hmapped.trans (State.touches_rescale _ _).mono) hmapped) (State.Touches.of_withTable _ _).mono
  exact hscaled.trans (State.Touches.of_evaluateLinks _ _).mono

theorem State.touches_merge (na nb : SlotNo) (a b : Record) (ea eb : EchoPart) :
    s.Touches [.table, .switches, .waitQueue, .mode, .flags] (s.merge na nb a b ea eb) := by
  unfold State.merge
  have hretired (r : Record) (c : Bool) :
      s.Touches [.table, .switches, .waitQueue, .mode, .flags] ((s.putRecord na r c).retireQuietly nb) :=
    (State.Touches.of_putRecord s _ _ _).mono.trans (State.touches_retireQuietly _ _).mono
  exact State.Touches.trans (.ite ((hretired _ _).trans (State.Touches.of_raise _ _).mono) (hretired _ _))
    (State.Touches.of_evaluateLinks _ _).mono

theorem State.touches_reprobe (n : SlotNo) (r : Record) (g : IngressPart) :
    s.Touches [.table, .flags, .waitQueue, .mode] (s.reprobe n r g) :=
  ((State.Touches.of_putRecord s _ _ _).mono.trans (State.touches_enterState _ _ _).mono).trans
    (State.touches_joinQueue _ _ _).mono

/-! ### Echo records and ingress records -/

theorem State.touches_concludeObservation (n : SlotNo) (touched : Bool) :
    s.Touches [.table, .flags] (s.concludeObservation n touched) := by
  unfold State.concludeObservation
  split
  · exact .refl _ s
  · split
    · exact .refl _ s
    · refine .ite ?_ (State.Touches.of_putRecord s _ _ _).mono
      exact ((State.Touches.of_putRecord s _ _ _).mono.trans (State.Touches.of_raise _ _).mono).trans
        (State.Touches.of_evaluateLinks _ _).mono

theorem State.touches_observe (o : Observation) : s.Touches [.table, .flags] (s.observe o) := by
  unfold State.observe State.feedEcho State.openEcho
  split
  · split
    · exact .refl _ s
    · split
      · exact .refl _ s
      · exact (State.Touches.of_putRecord s _ _ _).mono.trans (State.touches_concludeObservation _ _ _)
  · split
    · exact (State.Touches.of_raise s _).mono
    · exact (State.Touches.of_setSlot s _ _).mono.trans (State.touches_concludeObservation _ _ _)

theorem State.touches_feedIngress (n : SlotNo) (excess streak : Nat) (second : Word32) :
    s.Touches [.table, .flags, .waitQueue, .mode] (s.feedIngress n excess streak second) := by
  have hfed (r : Record) : s.Touches [.table, .flags, .waitQueue, .mode] (s.putRecord n r false) :=
    (State.Touches.of_putRecord s _ _ _).mono
  have hreopen (t : State) : t.Touches [.table, .flags, .waitQueue, .mode] (t.reopen n second) := by
    unfold State.reopen
    split
    · exact .refl _ t
    · split
      · exact .refl _ t
      · exact ((State.Touches.of_putRecord t _ _ _).mono.trans (State.touches_enterState _ _ _).mono).trans
          (State.touches_joinQueue _ _ _).mono
  unfold State.feedIngress
  split
  · exact .refl _ s
  · dsimp only
    split
    · exact .ite ((hfed _).trans (hreopen _)) (hfed _)
    · exact .ite ((hfed _).trans (hreopen _)) (hfed _)
    all_goals exact hfed _

theorem State.touches_openIngress (b : Band) (excess streak : Nat) (second : Word32) :
    s.Touches [.table, .flags, .waitQueue, .mode] (s.openIngress b excess streak second) := by
  unfold State.openIngress
  refine .ite ?_ (.refl _ s)
  split
  · exact (State.Touches.of_raise s _).mono
  · exact (State.Touches.of_setSlot s _ _).mono.trans (State.touches_joinQueue _ _ _).mono

theorem State.touches_offerReport (x : QueuedReport) : s.Touches [.queue, .hold, .flags] (s.offerReport x) := by
  unfold State.offerReport
  exact .ite ((State.Touches.of_withQueue s _).mono.trans (State.Touches.of_withHold _ _).mono) (State.Touches.of_raise s _).mono

end Ops

end Machine
end Sys2Proof
end

section
/-! Proofs, family 11, second part: the single changes that commands are made of, and that every command is a run of them. An
invariant is then proved change by change. -/

namespace Sys2Proof
namespace Machine

/-! ### The single changes -/

/-- The states of the sequencer in which no leg is held and no round or lockout is in progress. -/
def Mode.resting (m : Mode) : Prop := m = .idle ∨ m = .waitBudget ∨ m = .paused

/-- An observation as the Echo Locator passes it on (R73 to R79): of a mapped station, beyond its drop, in the plant, outside
the work zone, with the level of an echo. -/
def State.Observes (o : Observation) (s : State) : Prop :=
  ∃ handle x distance, s.locate handle = some x ∧ o.leg = x.leg ∧ o.handle = x.station.handle ∧
    x.station.drop < distance ∧
    plantPosition s.settings.matchWindow
      (echoPosition (tapDistance s.plant x.leg x.station.tap) x.station.drop distance) = some o.position ∧
    (∀ z, (s.plant.get x.leg).zone = some z → z.holds o.position = false) ∧
    20 ≤ o.level ∧ o.level ≤ s.settings.echoFloor

/-- What a band's entry may become: a baseline, in range where the one before it was, and a streak of at most 8 (R106 to
R108). -/
def BandEntry.Follows (old new : BandEntry) : Prop :=
  new.streak ≤ 8 ∧ ∃ v, new.baseline = some v ∧
    ((∀ base, old.baseline = some base → -240 ≤ base ∧ base ≤ 240) → -240 ≤ v ∧ v ≤ 240)

/-- The single changes, each with the fields it can touch. A premise says what the command has checked before it makes the
change. -/
inductive State.Event : List Field → State → State → Prop
  | powerOn (s : State) :
    Event Field.resettable s ((State.reset.withResetLine s.resetLine).withPending s.pending)
  -- the link
  | linkReset (s : State) : Event [.link] s (s.withLink Link.initial)
  | frameDropped (s : State) : Event [.link] s s.dropFrame
  | frameGrown (s : State) (f : Frame) (h : s.receives = true ∨ s.link.frame ≠ none) :
    Event [.link] s (s.withLink { s.link with frame := some f })
  | replyBegun (s : State) (reply : Reply) (h : s.receives = true) :
    Event [.link] s (s.withLink { s.link with frame := none, reply := some reply })
  | replyEnded (s : State) : Event [.link] s (s.withLink { s.link with reply := none })
  | phaseMoved (s : State) (p : LinkPhase) (hready : ∀ r, s.link.phase ≠ .ready r)
    (hreset : s.link.phase = .measuring → s.resetLine = false) : Event [.link] s (s.withPhase p)
  | resetAsserted (s : State) (h : s.link = Link.initial) : Event [.resetLine] s (s.withResetLine true)
  | resetReleased (s : State) : Event [.resetLine] s (s.withResetLine false)
  -- the clock
  | ticked (s : State) (hsecond : s.secondDue = false) (haging : s.agingDue = false)
    (hwindow : s.windowDue = true → s.clock.windowCount = 0) :
    Event [.clock] s (s.withClock { s.clock with ms := s.clock.ms + 1 })
  | secondTicked (s : State) (h : s.secondDue = true) : Event [.clock] s s.second
  | agingCounted (s : State) : Event [.clock] s (s.withClock { s.clock with agingCount := 0 })
  | tableAged (s : State) : Event [.table, .flags] s s.ageTable
  | windowStarted (s : State) :
    Event [.clock, .switches] s ((s.withClock { s.clock with windowCount := 0 }).withSwitches
      (PerLeg.ofFn fun l => { s.switch l with charge := s.chargeAfterWindow l }))
  | clockSet (s : State) (x : Word32) : Event [.clock] s (s.withClock { s.clock with seconds := x })
  | forgotten (s : State) : Event [.confirmedNow] s (s.withConfirmedNow none)
  -- the sequencer and the switches
  | rested (s : State) (m : Mode) (hs : s.mode.resting) (hm : m.resting) : Event [.mode] s (s.withMode m)
  | stepped (s : State) (r : Round) (p p' : ProbeStep) (e e' : Nat) (h : s.mode = .active r p e)
    (hheld : (Mode.active r p e).heldLeg = (Mode.active r p' e').heldLeg) :
    Event [.mode] s (s.withMode (.active r p' e'))
  | rounded (s : State) (r r' : Round) (h : s.round = some r) (hrecord : r'.record = r.record) (hsnap : r'.snap = r.snap) :
    Event [.mode] s (s.withRound r')
  | visited (s : State) (r : Round) (p : ProbeStep) (e : Nat) (legs : List Leg) (h : s.mode = .active r p e)
    (hheld : s.mode.heldLeg = none) : Event [.switches, .mode] s (s.nextVisit r legs)
  | legReturned (s : State) (r : Round) (l : Leg) (e guard : Nat) (h : s.mode = .active r (.probe l) e) :
    Event [.switches, .mode] s ((s.command l .through guard).withMode (.active r (.settleOut l) 0))
  | roundStarted (s : State) (h : s.roundStartDue = true) :
    Event [.table, .waitQueue, .mode, .roundNumber, .flags] s s.startRound
  | roundEvaluated (s : State) (r : Round) (h : s.mode = .closing r) :
    Event [.table, .flags, .waitQueue, .mode, .confirmedNow] s s.evaluateRound
  | roundAborted (s : State) (r : Round) (m : Mode) (h : s.round = some r) (hm : m.resting) :
    Event [.table, .switches, .waitQueue, .mode] s ((s.aborted r).withMode m)
  | holdBegun (s : State) (l : Leg) (d : Depth) (o : Origin) (hmode : s.mode.resting ∨ ∃ c k, s.mode = .manual l c k)
    (hcharge : (s.switch l).charge < s.allowance l) : Event [.switches, .mode] s (s.beginHold l d o)
  | holdEnded (s : State) (l : Leg) (d : Depth) (o : Origin) (guard : Nat) (m : Mode) (h : s.mode = .manual l d o)
    (hm : m.resting) : Event [.switches, .mode] s ((s.command l .through guard).withMode m)
  | holdCharged (s : State) (l : Leg) (hcharge : (s.switch l).charge < s.allowance l) : Event [.switches] s (s.charge l 1)
  | locked (s : State) (guard : Nat) (h : s.lockout = false) :
    Event [.table, .switches, .waitQueue, .mode, .lockout] s ((s.withLockout true).allThrough guard).enterLocked
  | unlocked (s : State) (h : s.lockout = true) :
    Event [.switches, .mode, .lockout] s ((s.clearLatches.withLockout false).withMode .idle)
  | latched (s : State) (l : Leg) : Event [.switches] s (s.latchFault l)
  | unsettled (s : State) (l : Leg) : Event [.switches] s (s.setSwitch l { s.switch l with settle := none })
  | sampled (s : State) (sense : PerLeg LinePair) : Event [.switches] s (s.sampleLegs sense)
  -- the settings and the events
  | settingsStored (s : State) (c : Settings) (h : c.inRange = true) :
    Event [.settings, .clock] s
      ((s.withSettings c).withClock
        (if c.agingCode = s.settings.agingCode then s.clock else { s.clock with agingCount := 0 }))
  | safetyStored (s : State) (c : Safety) (h : c.inRange = true) : Event [.safety, .clock, .switches] s (s.storeSafety c)
  | safetyLocked (s : State) : Event [.safetyLock] s (s.withSafetyLock true)
  | flagged (s : State) (x : BitVec 7) : Event [.flags] s (s.withFlags x)
  | masked (s : State) (x : BitVec 7) : Event [.mask] s (s.withMask x)
  -- the port and the queue
  | ported (s : State) (p : Port) : Event [.port] s (s.withPort p)
  | offered (s : State) (x : QueuedReport) : Event [.queue, .hold, .flags] s (s.offerReport x)
  | queueCleared (s : State) : Event [.queue, .hold] s ((s.withQueue []).withHold false)
  | popped (s : State) (x : QueuedReport) (rest : List QueuedReport) (h : s.queue = x :: rest) :
    Event [.queue, .hold] s (s.popped rest)
  -- the map
  | staged (s : State) (g : Staging) (h : (∀ old, s.staging = some old → old.sound = true) → g.sound = true) :
    Event [.staging] s (s.withStaging (some g))
  | stagingDropped (s : State) : Event [.staging] s (s.withStaging none)
  | activated (s : State) (g : Staging) (hg : s.staging = some g) (hconflict : s.conflict g = none)
    (hfits : g.stations.length + s.stationsElsewhere g.leg ≤ 1024) :
    Event [.plant, .staging, .table, .switches, .waitQueue, .mode] s (s.activate g)
  | zoned (s : State) (l : Leg) (zone : Option Zone) (h : ∀ z, zone = some z → z.first ≤ z.last ∧ z.last ≤ 20000) :
    Event [.plant, .table] s (s.putZone l zone)
  | stationMarked (s : State) (l : Leg) (handle : Nat) (f : Station → Station)
    (h : ∀ x, (f x).handle = x.handle ∧ (f x).tap = x.tap ∧ (f x).drop = x.drop) :
    Event [.plant] s (s.updateStation l handle f)
  -- the records and the bands
  | observed (s : State) (o : Observation) (h : s.Observes o) : Event [.table, .flags] s (s.observe o)
  | bandSet (s : State) (b : Band) (x : BandEntry) (h : (s.band b).Follows x) : Event [.bands] s (s.setBand b x)
  | ingressFed (s : State) (n : SlotNo) (r : Record) (g : IngressPart) (excess streak : Nat) (second : Word32)
    (hrec : s.record n = some r) (hr : r.body = .ingress g) :
    Event [.table, .flags, .waitQueue, .mode] s (s.feedIngress n excess streak second)
  | ingressOpened (s : State) (b : Band) (excess streak : Nat) (second : Word32) (hbase : (s.band b).baseline.isSome = true)
    (hnone : ∀ n r, s.record n = some r → r.ingressOf b = false) :
    Event [.table, .flags, .waitQueue, .mode] s (s.openIngress b excess streak second)
  | listed (s : State) : Event [.table] s (s.withTable (s.table.map fun x => { x with changed := false }))
  | noted (s : State) (n : SlotNo) (r : Record) (acknowledged pinned : Bool) (ticket : Option Word32)
    (hrec : s.record n = some r) (hticket : ticket = r.ticket ∨ ticket ≠ some 0) :
    Event [.table] s
      (s.putRecord n { r with acknowledged := acknowledged, pinned := pinned, ticket := ticket } false)
  | retired (s : State) (n : SlotNo) : Event [.table, .switches, .waitQueue, .mode] s (s.retire n)
  | merged (s : State) (na nb : SlotNo) (a b : Record) (ea eb : EchoPart) (hne : na ≠ nb) (ha : s.record na = some a)
    (hb : s.record nb = some b) (hea : a.body = .echo ea) (heb : b.body = .echo eb) (hleg : ea.leg = eb.leg) :
    Event [.table, .switches, .waitQueue, .mode, .flags] s (s.merge na nb a b ea eb)
  | reprobed (s : State) (n : SlotNo) (r : Record) (g : IngressPart) (hrec : s.record n = some r) (hr : r.body = .ingress g)
    (hstate : r.state = .confirmed ∨ r.state = .unresolved ∨ r.state = .dormant ∨ r.state = .cleared) :
    Event [.table, .flags, .waitQueue, .mode] s (s.reprobe n r g)

/-- A change of the round's own values moves the sequencer's state alone. -/
theorem State.touches_withRound (s : State) (r : Round) : s.Touches [.mode] (s.withRound r) := by
  unfold State.withRound
  split <;> exact .of_withMode s _

/-- A change touches no field but those it names. -/
theorem State.Event.touches {fs : List Field} {s t : State} (h : Event fs s t) : s.Touches fs t := by
  cases h with
  | powerOn => exact fun f hf => by cases f <;> first | rfl | exact absurd (by decide) hf
  | linkReset | frameDropped | frameGrown | replyBegun | replyEnded | phaseMoved => exact .of_withLink s _
  | resetAsserted | resetReleased => exact .of_withResetLine s _
  | ticked | secondTicked | agingCounted | clockSet => exact .of_withClock s _
  | tableAged => exact s.touches_ageTable
  | windowStarted => exact (State.Touches.of_withClock s _).mono.trans (State.Touches.of_withSwitches _ _).mono
  | forgotten => exact .of_withConfirmedNow s _
  | rested | stepped => exact .of_withMode s _
  | rounded => exact s.touches_withRound _
  | visited => exact s.touches_nextVisit _ _
  | legReturned | holdBegun | holdEnded => exact (s.touches_command _ _ _).mono.trans (State.Touches.of_withMode _ _).mono
  | roundStarted => exact s.touches_startRound
  | roundEvaluated => exact s.touches_evaluateRound
  | roundAborted => exact (s.touches_aborted _).trans (State.Touches.of_withMode _ _).mono
  | holdCharged | latched | unsettled => exact .of_setSwitch s _ _
  | locked =>
    exact ((State.Touches.of_withLockout s _).mono.trans (State.touches_allThrough _ _).mono).trans
      (State.touches_enterLocked _).mono
  | unlocked =>
    exact ((State.Touches.of_withSwitches s _).mono.trans (State.Touches.of_withLockout _ _).mono).trans
      (State.Touches.of_withMode _ _).mono
  | sampled => exact .of_withSwitches s _
  | settingsStored => exact (State.Touches.of_withSettings s _).mono.trans (State.Touches.of_withClock _ _).mono
  | safetyStored =>
    exact ((State.Touches.of_withSafety s _).mono.trans (State.Touches.of_withClock _ _).mono).trans
      (State.Touches.of_withSwitches _ _).mono
  | safetyLocked => exact .of_withSafetyLock s _
  | flagged => exact .of_withFlags s _
  | masked => exact .of_withMask s _
  | ported => exact .of_withPort s _
  | offered => exact s.touches_offerReport _
  | queueCleared | popped => exact (State.Touches.of_withQueue s _).mono.trans (State.Touches.of_withHold _ _).mono
  | staged | stagingDropped => exact .of_withStaging s _
  | activated => exact s.touches_activate _
  | zoned => exact (State.Touches.of_withPlant s _).mono.trans (State.Touches.of_withTable _ _).mono
  | stationMarked => exact .of_withPlant s _
  | observed => exact s.touches_observe _
  | bandSet => exact .of_setBand s _ _
  | ingressFed => exact s.touches_feedIngress _ _ _ _
  | ingressOpened => exact s.touches_openIngress _ _ _ _
  | listed => exact .of_withTable s _
  | noted => exact .of_putRecord s _ _ _
  | retired => exact s.touches_retire _
  | merged => exact s.touches_merge _ _ _ _ _ _
  | reprobed => exact s.touches_reprobe _ _ _

/-- An invariant that reads the fields `reads` alone is kept by a change that touches none of them, so only the others need a
proof. -/
theorem State.Event.keeps {P : State → Prop} (reads : List Field)
    (hcongr : ∀ s t, (∀ f ∈ reads, s.sameAt t f) → P s → P t)
    (hkeeps : ∀ fs s t, Event fs s t → ¬ (∀ f ∈ reads, f ∉ fs) → P s → P t)
    {fs : List Field} {s t : State} (h : Event fs s t) (hs : P s) : P t := by
  by_cases hdisjoint : ∀ f ∈ reads, f ∉ fs
  · exact hcongr s t (fun f hf => h.touches f (hdisjoint f hf)) hs
  · exact hkeeps fs s t h hdisjoint hs

/-! ### Runs of changes -/

/-- `t` comes from `s` by a run of single changes. -/
inductive State.Leads : State → State → Prop
  | refl (s : State) : Leads s s
  | tail {s t u : State} {fs : List Field} (hst : Leads s t) (h : State.Event fs t u) : Leads s u

namespace State.Leads
variable {s t u : State}

theorem one {fs : List Field} (h : State.Event fs s t) : s.Leads t := .tail (.refl s) h

theorem trans (hst : s.Leads t) (htu : t.Leads u) : s.Leads u := by
  induction htu with
  | refl => exact hst
  | tail _ h ih => exact .tail ih h

theorem ite {c : Prop} [Decidable c] (ht : s.Leads t) (hu : s.Leads u) : s.Leads (if c then t else u) := by
  split
  · exact ht
  · exact hu

/-- What every single change keeps, a run of them keeps. -/
theorem keeps {P : State → Prop} (h : ∀ fs s t, State.Event fs s t → P s → P t) (hst : s.Leads t) (hs : P s) : P t := by
  induction hst with
  | refl => exact hs
  | tail _ hev ih => exact h _ _ _ hev ih

/-- A run of changes leaves the queue of commands alone. -/
theorem pending_eq (hst : s.Leads t) : t.pending = s.pending := by
  refine hst.keeps (P := fun t => t.pending = s.pending) (fun fs u v hev hu => ?_) rfl
  refine State.Event.keeps (P := fun t => t.pending = s.pending) [.pending] (fun u v h hu => ?_) (fun fs u v hev hf hu => ?_) hev hu
  · have hsame : v.pending = u.pending := h .pending (by simp)
    exact hsame.trans hu
  · cases hev <;> exact absurd (by decide) hf

end State.Leads

end Machine
end Sys2Proof
end

section
/-! Proofs, family 11, third part: every command is a run of the single changes. -/

namespace Sys2Proof
namespace Machine

open State (Leads Event)

/-! ### The start test and the sequencer -/

section Sequencer
variable (s : State)

theorem Mode.resting_idle : Mode.idle.resting := .inl rfl

theorem Origin.mode_resting (o : Origin) : o.mode.resting := by
  cases o
  · exact .inl rfl
  · exact .inr (.inr rfl)

theorem State.leads_startTest : s.Leads s.startTest := by
  by_cases hwait : s.mode = .idle ∨ s.mode = .waitBudget
  · have hs : s.mode.resting := by
      obtain h | h := hwait
      · exact .inl h
      · exact .inr (.inl h)
    rw [State.startTest_of_waiting hwait]
    cases s.startOutcome
    case settlePending => exact .refl s
    case short => exact .one (.rested s _ hs (.inr (.inl rfl)))
    all_goals exact .one (.rested s _ hs (.inl rfl))
  · rw [not_or] at hwait
    rw [State.startTest_of_not_waiting hwait.1 hwait.2]
    exact .refl s

theorem State.leads_startTestIfIdle : s.Leads s.startTestIfIdle := by
  rw [s.startTestIfIdle_eq]
  exact .ite s.leads_startTest (.refl s)

/-- What leads to a state of the sequencer leads to that state entered. -/
theorem State.Leads.enterMode {s t : State} {m : Mode} (h : s.Leads (t.withMode m)) : s.Leads (t.enterMode m) :=
  h.trans (State.leads_startTestIfIdle _)

theorem State.leads_abortRound {m : Mode} (hm : m.resting) : s.Leads (s.abortRound m) := by
  cases h : s.round with
  | none =>
    rw [State.abortRound, h]
    exact .refl s
  | some r =>
    rw [State.abortRound_of_round h]
    exact .enterMode (.one (.roundAborted s r m h hm))

theorem State.leads_endHold : s.Leads s.endHold := by
  cases h : s.mode with
  | manual l d o =>
    rw [State.endHold_of_manual h]
    exact .enterMode (.one (.holdEnded s l d o _ _ h o.mode_resting))
  | _ =>
    simp only [State.endHold, h]
    exact .refl s

theorem State.leads_mismatch (l : Leg) : s.Leads (s.mismatch l) := by
  unfold State.mismatch
  have hlatched : s.Leads (s.latchFault l) := .one (.latched s l)
  dsimp only
  split
  · exact .tail hlatched (.flagged _ _)
  · rename_i hclear
    exact .tail (.tail hlatched (.locked _ _ (Bool.eq_false_iff.mpr hclear))) (.flagged _ _)

theorem State.leads_settlePassed (l : Leg) : s.Leads (s.settlePassed l) := by
  unfold State.settlePassed
  split
  · rename_i r k e hmode
    split
    · rename_i hk
      subst hk
      exact .one (.stepped s r _ _ e _ hmode rfl)
    · exact .refl s
  · rename_i r k e hmode
    exact .ite (.one (.visited s r _ e _ hmode (by rw [hmode]; rfl))) (.refl s)
  · exact .refl s
  · exact .refl s
  · exact s.leads_startTest
  all_goals exact .refl s

theorem State.leads_checkSettle (l : Leg) : s.Leads (s.checkSettle l) := by
  have hdone : s.Leads (s.setSwitch l { s.switch l with settle := none }) := .one (.unsettled s l)
  exact .ite (hdone.trans (State.leads_settlePassed _ l)) (hdone.trans (State.leads_mismatch _ l))

theorem State.leads_endDwell : s.Leads s.endDwell := by
  unfold State.endDwell
  split
  · rename_i r e hmode
    exact .one (.visited s r _ e _ hmode (by rw [hmode]; rfl))
  · rename_i r l e hmode
    exact .one (.legReturned s r l e _ hmode)
  all_goals exact .refl s

theorem State.leads_window : s.Leads s.window :=
  .trans (.one (.windowStarted s)) (State.leads_startTest _)

theorem State.leads_aging : s.Leads s.aging :=
  .tail (.one (.agingCounted s)) (.tableAged _)

/-! ### The due steps -/

theorem State.leads_takeTimeout : s.Leads s.takeTimeout := .ite (.one (.frameDropped s)) (.refl s)

theorem State.leads_takeSettle (l : Leg) : s.Leads (s.takeSettle l) := .ite (s.leads_checkSettle l) (.refl s)

theorem State.leads_takeHold : s.Leads s.takeHold := .ite s.leads_endHold (.refl s)

theorem State.leads_takeDwell : s.Leads s.takeDwell := .ite s.leads_endDwell (.refl s)

theorem State.leads_takeEvaluation : s.Leads s.takeEvaluation := by
  unfold State.takeEvaluation State.evaluateRound
  cases h : s.mode with
  | closing r =>
    have hev := Event.roundEvaluated s r h
    rw [State.evaluateRound, h] at hev
    exact .ite (.one hev) (.refl s)
  | _ => exact .ite (.refl s) (.refl s)

theorem State.leads_takeStart : s.Leads s.takeStart := by
  unfold State.takeStart
  split
  · rename_i h
    exact .one (.roundStarted s h)
  · exact .refl s

/-- The end of a hold leaves the clock. -/
theorem State.clock_takeHold : s.takeHold.clock = s.clock := by
  unfold State.takeHold
  split
  · exact (State.SequencerMoved.of_endHold s).kept.2.2.1
  · rfl

theorem State.leads_takeSecond : s.Leads s.takeSecond := by
  unfold State.takeSecond
  split
  · rename_i h
    have hdue : s.takeHold.secondDue = true := by rw [State.secondDue, s.clock_takeHold]; exact h
    exact .tail s.leads_takeHold (.secondTicked _ hdue)
  · exact .refl s

theorem State.leads_takeAging : s.Leads s.takeAging := .ite s.leads_aging (.refl s)

theorem State.leads_takeWindow : s.Leads s.takeWindow := .ite s.leads_window (.refl s)

theorem State.leads_caughtUp : s.Leads s.caughtUp :=
  s.leads_takeTimeout |>.trans (State.leads_takeSettle _ 0) |>.trans (State.leads_takeSettle _ 1)
    |>.trans (State.leads_takeSettle _ 2) |>.trans (State.leads_takeSettle _ 3) |>.trans (State.leads_takeHold _)
    |>.trans (State.leads_takeDwell _) |>.trans (State.leads_takeEvaluation _) |>.trans (State.leads_takeStart _)
    |>.trans (State.leads_takeSecond _) |>.trans (State.leads_takeAging _) |>.trans (State.leads_takeWindow _)
    |>.trans (State.leads_takeHold _) |>.trans (State.leads_takeStart _)

end Sequencer

/-! ### The millisecond tick -/

/-- No held leg has used up its allowance. -/
def State.holdWithin (s : State) : Prop := ∀ l d o, s.mode = .manual l d o → (s.switch l).charge < s.allowance l

/-- The clock's own steps have been taken, and no held leg has used up its allowance. -/
structure State.AtTick (s : State) : Prop where
  second : s.secondDue = false
  aging : s.agingDue = false
  window : s.windowDue = true → s.clock.windowCount = 0
  hold : s.holdWithin

theorem agingInterval_pos (code : Nat) : 0 < agingInterval code := by
  unfold agingInterval
  split <;> decide

section CaughtUp
variable (s : State)

/-- The last two due steps leave the clock, the settings and the safety settings as they are. -/
theorem State.takeHold_takeStart_kept :
    s.takeHold.takeStart.clock = s.clock ∧ s.takeHold.takeStart.settings = s.settings ∧
      s.takeHold.takeStart.safety = s.safety := by
  have hstart (t : State) : t.takeStart.clock = t.clock ∧ t.takeStart.settings = t.settings ∧ t.takeStart.safety = t.safety := by
    unfold State.takeStart
    split
    · exact ⟨t.touches_startRound .clock (by decide), t.touches_startRound .settings (by decide),
        t.touches_startRound .safety (by decide)⟩
    · exact ⟨rfl, rfl, rfl⟩
  have hhold : s.takeHold.settings = s.settings ∧ s.takeHold.safety = s.safety := by
    unfold State.takeHold
    split
    · obtain ⟨hsafety, -, -, -, hsettings, -⟩ := (State.SequencerMoved.of_endHold s).kept
      exact ⟨hsettings, hsafety⟩
    · exact ⟨rfl, rfl⟩
  obtain ⟨hclock, hsettings, hsafety⟩ := hstart s.takeHold
  exact ⟨hclock.trans s.clock_takeHold, hsettings.trans hhold.1, hsafety.trans hhold.2⟩

/-- Once the clock's steps are taken none of them is due, but for a window start under a budget window of 0. -/
theorem State.clock_taken :
    let t := s.takeSecond.takeAging.takeWindow
    t.secondDue = false ∧ t.agingDue = false ∧ (t.windowDue = true → t.clock.windowCount = 0) := by
  have hsecond : s.takeSecond.secondDue = false := by
    by_cases h : s.secondDue = true
    · rw [State.takeSecond, if_pos h]
      rfl
    · rw [State.takeSecond, if_neg h]
      exact Bool.eq_false_iff.mpr h
  have haging (u : State) (hu : u.secondDue = false) : u.takeAging.secondDue = false ∧ u.takeAging.agingDue = false := by
    by_cases h : u.agingDue = true
    · have hclock : u.aging.clock = { u.clock with agingCount := 0 } := by rw [u.aging_frame]; rfl
      have hsettings : u.aging.settings = u.settings := by rw [u.aging_frame]; rfl
      rw [State.takeAging, if_pos h]
      refine ⟨?_, ?_⟩
      · rw [State.secondDue, hclock]
        exact hu
      · rw [State.agingDue, hclock, hsettings, decide_eq_false_iff_not]
        exact Nat.not_le.mpr (agingInterval_pos _)
    · rw [State.takeAging, if_neg h]
      exact ⟨hu, Bool.eq_false_iff.mpr h⟩
  have hwindow (u : State) (hu : u.secondDue = false ∧ u.agingDue = false) :
      u.takeWindow.secondDue = false ∧ u.takeWindow.agingDue = false ∧
        (u.takeWindow.windowDue = true → u.takeWindow.clock.windowCount = 0) := by
    by_cases h : u.windowDue = true
    · have hclock : u.window.clock = { u.clock with windowCount := 0 } := by
        rw [State.window, State.startTest_eq_withMode]; rfl
      have hsettings : u.window.settings = u.settings := by rw [State.window, State.startTest_eq_withMode]; rfl
      rw [State.takeWindow, if_pos h]
      refine ⟨?_, ?_, fun _ => by rw [hclock]⟩
      · rw [State.secondDue, hclock]
        exact hu.1
      · rw [State.agingDue, hclock, hsettings]
        exact hu.2
    · rw [State.takeWindow, if_neg h]
      exact ⟨hu.1, hu.2, fun hdue => absurd hdue h⟩
  exact hwindow _ (haging _ hsecond)

/-- Where the clock's steps are taken, no window start comes at this tick. -/
theorem State.windowComes_of_taken {s : State} (hsecond : s.secondDue = false)
    (hwindow : s.windowDue = true → s.clock.windowCount = 0) : s.windowComes = false := by
  simp only [State.windowComes, hsecond, Bool.false_and, Bool.or_false, Bool.and_eq_false_iff, bne_eq_false_iff_eq]
  cases h : s.windowDue with
  | false => exact .inl rfl
  | true => exact .inr (hwindow h)

/-- The end of the exhausted hold leaves no hold exhausted. -/
theorem State.holdWithin_takeHold_takeStart (hcomes : s.windowComes = false) : s.takeHold.takeStart.holdWithin := by
  intro l d o hmode
  have hstart : s.takeHold.takeStart = s.takeHold := by
    unfold State.takeStart
    split
    · rename_i hdue
      rw [State.takeStart, if_pos hdue, State.startRound] at hmode
      split at hmode
      · rw [State.startRound]
        simp only [*]
      · exact absurd hmode nofun
    · rfl
  rw [hstart] at hmode ⊢
  unfold State.takeHold at hmode ⊢
  split at hmode
  · rename_i hdue
    obtain ⟨k, c, p, hm, -⟩ := s.holdExhausted_iff.mp hdue
    rw [State.endHold_of_manual hm] at hmode
    exact absurd hmode (State.mode_enterMode_origin_ne_manual _ p l d o)
  · rename_i hdue
    rw [if_neg hdue]
    by_contra hcharge
    exact hdue (s.holdExhausted_iff.mpr ⟨l, d, o, hmode, Nat.not_lt.mp hcharge, hcomes⟩)

theorem State.atTick_caughtUp : s.caughtUp.AtTick := by
  generalize hu : ((s.takeTimeout).takeSettle 0 |>.takeSettle 1 |>.takeSettle 2 |>.takeSettle 3
    |>.takeHold |>.takeDwell |>.takeEvaluation |>.takeStart) = u
  have hcaught : s.caughtUp = u.takeSecond.takeAging.takeWindow.takeHold.takeStart := by rw [State.caughtUp, hu]
  obtain ⟨hsecond, haging, hwindow⟩ := u.clock_taken
  rw [hcaught]
  generalize u.takeSecond.takeAging.takeWindow = t at hsecond haging hwindow
  obtain ⟨hclock, hsettings, hsafety⟩ := t.takeHold_takeStart_kept
  refine ⟨?_, ?_, ?_, t.holdWithin_takeHold_takeStart (State.windowComes_of_taken hsecond hwindow)⟩
  · rw [State.secondDue, hclock]
    exact hsecond
  · rw [State.agingDue, hclock, hsettings]
    exact haging
  · rw [State.windowDue, hclock, hsafety]
    exact hwindow

end CaughtUp

section Tick
variable (s : State)

theorem State.touches_countStep : s.Touches [.mode] s.countStep := by
  unfold State.countStep
  split
  · exact .of_withMode s _
  all_goals exact .refl _ s

theorem State.touches_countGap : s.Touches [.link] s.countGap := by
  unfold State.countGap
  split
  · exact .refl _ s
  · exact .of_withLink s _

theorem State.leads_countStep : s.Leads s.countStep := by
  unfold State.countStep
  split
  · rename_i r p e hmode
    exact .one (.stepped s r p p e _ hmode (by cases p <;> rfl))
  all_goals exact .refl s

theorem State.leads_countGap : s.Leads s.countGap := by
  unfold State.countGap
  split
  · exact .refl s
  · rename_i f hframe
    exact .one (.frameGrown s _ (.inr (by rw [hframe]; exact Option.some_ne_none f)))

theorem State.leads_judgeSense (before : State) (l : Leg) : s.Leads (before.judgeSense l s) := by
  unfold State.judgeSense
  exact .ite (s.leads_mismatch l) (.refl s)

/-- The counts of a millisecond tick, before the sense pairs are sampled (R29, R121, R185). -/
def State.counted (s : State) : State :=
  (((s.withClock { s.clock with ms := s.clock.ms + 1 }).withConfirmedNow none).countStep).countGap

theorem State.millisecond_eq (sense : PerLeg LinePair) :
    s.millisecond sense =
      (allLegs.foldl (fun t l => State.judgeSense s.counted l t) (s.counted.sampleLegs sense)).chargeHold := rfl

theorem State.touches_counted : s.Touches [.clock, .confirmedNow, .mode, .link] s.counted :=
  (((State.Touches.of_withClock s _).mono.trans (State.Touches.of_withConfirmedNow _ _).mono).trans
    (State.touches_countStep _).mono).trans (State.touches_countGap _).mono

/-- The counts begin and end no hold. -/
theorem State.mode_of_counted {l : Leg} {d : Depth} {o : Origin} (h : s.counted.mode = .manual l d o) :
    s.mode = .manual l d o := by
  have hgap (t : State) : t.countGap.mode = t.mode := t.touches_countGap .mode (by decide)
  rw [State.counted, hgap, State.countStep] at h
  split at h
  · exact absurd h nofun
  all_goals exact h

theorem State.holdWithin_sampleLegs_counted (h : s.holdWithin) (sense : PerLeg LinePair) :
    (s.counted.sampleLegs sense).holdWithin := by
  intro l d o hmode
  have hswitches : s.counted.switches = s.switches := s.touches_counted .switches (by decide)
  have hsafety : s.counted.safety = s.safety := s.touches_counted .safety (by decide)
  have hcharge : ((s.counted.sampleLegs sense).switch l).charge = (s.counted.switch l).charge := by
    simp [State.sampleLegs, State.switch, LegSwitch.sample, LegSwitch.countSettle]
  have hallowance : (s.counted.sampleLegs sense).allowance l = s.counted.allowance l := rfl
  rw [hcharge, hallowance, State.switch, hswitches, State.allowance, hsafety]
  exact h l d o (s.mode_of_counted hmode)

theorem State.mode_enterLocked : s.enterLocked.mode = .locked := by
  unfold State.enterLocked
  split <;> rfl

/-- A mismatch with the lockout clear leaves the sequencer LOCKED, and with it set leaves it as it is; no charge moves. -/
theorem State.holdWithin_mismatch (l : Leg) (h : s.holdWithin) : (s.mismatch l).holdWithin := by
  intro k d o
  unfold State.mismatch
  dsimp only
  split
  · intro hmode
    have hcharge : ((s.latchFault l).switch k).charge = (s.switch k).charge := by
      by_cases hk : k = l
      · subst hk
        simp [State.latchFault]
      · simp [State.latchFault, s.switch_setSwitch_ne _ hk]
    exact hcharge ▸ h k d o hmode
  · intro hmode
    rw [State.raise, State.withFlags_mode, State.mode_enterLocked] at hmode
    exact absurd hmode nofun

theorem State.holdWithin_judgeSense (before : State) (l : Leg) (h : s.holdWithin) : (before.judgeSense l s).holdWithin := by
  unfold State.judgeSense
  split
  · exact s.holdWithin_mismatch l h
  · exact h

theorem State.leads_judged (before : State) (legs : List Leg) (h : s.holdWithin) :
    s.Leads (legs.foldl (fun t l => State.judgeSense before l t) s) ∧
      (legs.foldl (fun t l => State.judgeSense before l t) s).holdWithin := by
  induction legs generalizing s with
  | nil => exact ⟨.refl s, h⟩
  | cons l legs ih =>
    obtain ⟨hleads, hwithin⟩ := ih (before.judgeSense l s) (s.holdWithin_judgeSense before l h)
    exact ⟨(s.leads_judgeSense before l).trans hleads, hwithin⟩

theorem State.leads_chargeHold (h : s.holdWithin) : s.Leads s.chargeHold := by
  unfold State.chargeHold
  split
  · rename_i l d o hmode
    exact .ite (.one (.holdCharged s l (h l d o hmode))) (.refl s)
  all_goals exact .refl s

/-- The tick of a part whose clock's steps are taken and whose hold is not exhausted: the counts, the sample, the mismatches of
the sense changes, and the charge of the hold that outlives them. -/
theorem State.leads_millisecond (h : s.AtTick) (sense : PerLeg LinePair) : s.Leads (s.millisecond sense) := by
  have hcounted : s.Leads s.counted :=
    ((Leads.one (.ticked s h.second h.aging h.window)).trans (.one (.forgotten _))).trans (State.leads_countStep _)
      |>.trans (State.leads_countGap _)
  obtain ⟨hjudged, hwithin⟩ :=
    State.leads_judged _ s.counted allLegs (s.holdWithin_sampleLegs_counted h.hold sense)
  rw [s.millisecond_eq]
  exact (Leads.tail hcounted (.sampled _ sense)).trans hjudged |>.trans (State.leads_chargeHold _ hwithin)

end Tick

end Machine
end Sys2Proof
end

section
/-! Proofs, family 11, fourth part: the requests, the reports and the link's events as runs of the single changes, and so every
command. -/

namespace Sys2Proof
namespace Machine

open State (Leads Event)

/-! ### The owners' answers -/

/-- An answer whose state comes from `s` by a run of changes that leaves the link alone. -/
structure Answer.From (s : State) (a : Answer) : Prop where
  leads : s.Leads a.state
  link : a.state.link = s.link

namespace Answer.From
variable {s : State}

theorem of_unchanged {a : Answer} (h : a.state = s) : a.From s := ⟨h ▸ .refl _, h ▸ rfl⟩

theorem refusal (st : Status) (s : State) : (refuse st s).From s := of_unchanged rfl

theorem of_event {fs : List Field} {t : State} (data : List Byte) (h : Event fs s t) (hlink : .link ∉ fs := by decide) :
    (answerOk data t).From s := ⟨.one h, h.touches .link hlink⟩

theorem of_leads {fs : List Field} {t : State} (data : List Byte) (h : s.Leads t) (ht : s.Touches fs t)
    (hlink : .link ∉ fs := by decide) : (answerOk data t).From s := ⟨h, ht .link hlink⟩

/-- The start test in IDLE may follow. -/
theorem startTestIfIdle {data : List Byte} {t : State} (h : (answerOk data t).From s) :
    (answerOk data t.startTestIfIdle).From s := by
  have hlink : t.startTestIfIdle.link = t.link := t.touches_startTestIfIdle .link (by decide)
  exact ⟨h.leads.trans t.leads_startTestIfIdle, hlink.trans h.link⟩

end Answer.From

section Reads
variable (args : List Byte) (s : State)

theorem from_serveIdent : (serveIdent args s).From s := .of_unchanged (by cases args <;> rfl)
theorem from_serveRestart : (serveRestart args s).From s := .of_unchanged (by cases args <;> rfl)
theorem from_serveReadClock : (serveReadClock args s).From s := .of_unchanged (by cases args <;> rfl)
theorem from_serveReadSettings : (serveReadSettings args s).From s := .of_unchanged (by cases args <;> rfl)
theorem from_serveReadSafety : (serveReadSafety args s).From s := .of_unchanged (by cases args <;> rfl)
theorem from_serveReadZones : (serveReadZones args s).From s := .of_unchanged (by cases args <;> rfl)
theorem from_serveReadProbe : (serveReadProbe args s).From s := .of_unchanged (by cases args <;> rfl)
theorem from_serveReadEvents : (serveReadEvents args s).From s := .of_unchanged (by cases args <;> rfl)
theorem from_serveUnknown : (serveUnknown s).From s := .refusal _ s

theorem from_serveReadLeg : (serveReadLeg args s).From s := by
  refine .of_unchanged ?_
  unfold serveReadLeg
  split
  · split <;> rfl
  · rfl

theorem from_serveReadStations : (serveReadStations args s).From s := by
  refine .of_unchanged ?_
  unfold serveReadStations
  split
  · split <;> rfl
  · rfl

theorem from_serveLookup : (serveLookup args s).From s := by
  refine .of_unchanged ?_
  unfold serveLookup
  split
  · split <;> rfl
  · rfl

theorem from_serveFind : (serveFind args s).From s := by
  refine .of_unchanged ?_
  unfold serveFind
  split
  · split <;> rfl
  · rfl

theorem from_serveFindStation : (serveFindStation args s).From s := by
  refine .of_unchanged ?_
  unfold serveFindStation
  split <;> rfl

end Reads

section PartRequests
variable (args : List Byte) (s : State)

theorem from_serveSetClock : (serveSetClock args s).From s := by
  unfold serveSetClock
  split
  · exact .of_event _ (.clockSet s _)
  · exact .refusal _ s

theorem clamp_mem_range {low high : Nat} (h : low ≤ high) (n : Nat) : low ≤ clamp low high n ∧ clamp low high n ≤ high := by
  unfold clamp
  omega

theorem Settings.inRange_iff (c : Settings) :
    c.inRange = true ↔
      20 ≤ c.echoFloor ∧ c.echoFloor ≤ 120 ∧ 10 ≤ c.matchWindow ∧ c.matchWindow ≤ 200 ∧
        1 ≤ c.confirmStations ∧ c.confirmStations ≤ 8 ∧ 1 ≤ c.scoreAdd ∧ c.scoreAdd ≤ 50 ∧
        1 ≤ c.agingStep ∧ c.agingStep ≤ 10 ∧ c.agingCode ≤ 3 ∧ c.retention ≤ 255 ∧
        16 ≤ c.ingressExcess ∧ c.ingressExcess ≤ 120 ∧ 1 ≤ c.ingressStreak ∧ c.ingressStreak ≤ 8 ∧
        4 ≤ c.dropHigh ∧ c.dropHigh ≤ 80 ∧ c.dropLow ≤ 40 ∧ c.dropLow < c.dropHigh ∧
        19 ≤ c.dwell ∧ c.dwell ≤ 999 ∧ 1 ≤ c.guard ∧ c.guard ≤ 49 ∧
        1 ≤ c.maxAttempts ∧ c.maxAttempts ≤ 32 ∧ 1 ≤ c.minSamples ∧ c.minSamples ≤ 16 := by
  simp only [Settings.inRange, Bool.and_eq_true, decide_eq_true_eq, and_assoc]

theorem Safety.inRange_iff (c : Safety) :
    c.inRange = true ↔
      10 ≤ c.budgetWindow ∧ c.budgetWindow ≤ 600 ∧ (∀ l, c.allowance.get l ≤ c.budgetWindow * 1000) ∧
        20 ≤ c.maxIsolateDwell ∧ c.maxIsolateDwell ≤ 1000 := by
  simp only [Safety.inRange, Bool.and_eq_true, decide_eq_true_eq, all_allLegs, and_assoc]

/-- The values that CONFIGURE stores lie in range (R13, R72, R117, R122). -/
theorem inRange_of_readSettings {args : List Byte} {c : Settings} (h : readSettings args = some c) : c.inRange = true := by
  unfold readSettings at h
  split at h
  · rename_i echoFloor matchWindow confirm scoreAdd agingStep agingCode retention excess streak depth high low dwell1 dwell0
      guard attempts samples
    obtain rfl := Option.some.inj h
    have hhigh := clamp_mem_range (low := 4) (high := 80) (by decide) high.toNat
    have hlow := clamp_mem_range (low := 0) (high := 40) (by decide) low.toNat
    generalize clamp 4 80 high.toNat = dropHigh at hhigh ⊢
    generalize clamp 0 40 low.toNat = dropLow at hlow ⊢
    have hdrop : (if dropLow < dropHigh then dropLow else dropHigh - 1) ≤ 40 ∧
        (if dropLow < dropHigh then dropLow else dropHigh - 1) < dropHigh := by
      split <;> omega
    rw [Settings.inRange_iff]
    simp only [clamp]
    generalize (if dropLow < dropHigh then dropLow else dropHigh - 1) = drop at hdrop ⊢
    omega
  · exact absurd h nofun

/-- The values that SET_SAFETY stores lie in range, each allowance within the window (R160). -/
theorem inRange_of_readSafety {args : List Byte} {c : Safety} (h : readSafety args = some c) : c.inRange = true := by
  have hlen : args.length = 21 := by
    unfold readSafety at h
    split at h
    · rfl
    · exact absurd h nofun
  rw [readSafety_eq hlen] at h
  obtain rfl := Option.some.inj h
  obtain ⟨hwindow, hwindow'⟩ := clamp_mem_range (low := 10) (high := 600) (by decide) (nat2 (args.getD 0 0) (args.getD 1 0))
  obtain ⟨hdwell, hdwell'⟩ := clamp_mem_range (low := 20) (high := 1000) (by decide) (nat2 (args.getD 19 0) (args.getD 20 0))
  refine (Safety.inRange_iff _).mpr ⟨hwindow, hwindow', fun l => ?_, hdwell, hdwell'⟩
  simp only [storedSafety, PerLeg.get_ofFn]
  exact (clamp_mem_range (Nat.zero_le _) _).2

theorem from_serveConfigure : (serveConfigure args s).From s := by
  unfold serveConfigure
  split
  · exact .refusal _ s
  · rename_i c hread
    have hstored := Answer.From.of_event (settingsBlock c) (.settingsStored s c (inRange_of_readSettings hread))
    have hconfigured : s.configure c =
        ((s.withSettings c).withClock
          (if c.agingCode = s.settings.agingCode then s.clock else { s.clock with agingCount := 0 })).startTestIfIdle := by
      unfold State.configure
      split <;> rfl
    rw [hconfigured]
    exact hstored.startTestIfIdle

theorem State.leads_applySafety : s.Leads s.applySafety := by
  have hended : s.Leads s.endIsolate := by
    unfold State.endIsolate
    exact .ite (.refl s) (.ite (s.leads_abortRound Mode.resting_idle) (.ite s.leads_endHold (.refl s)))
  exact hended.trans ((Leads.ite (State.leads_endHold _) (.refl _)).trans (State.leads_startTest _))

theorem from_serveSetSafety : (serveSetSafety args s).From s := by
  unfold serveSetSafety
  split
  · exact .refusal _ s
  · rename_i c hread
    split
    · exact .refusal _ s
    · rw [s.setSafety_eq]
      have hstored := Event.safetyStored s c (inRange_of_readSafety hread)
      exact .of_leads _ ((Leads.one hstored).trans (State.leads_applySafety _))
        (hstored.touches.mono.trans (State.SequencerMoved.of_applySafety _).touches.mono
          (fs := [.safety, .clock, .switches, .table, .waitQueue, .mode]))

theorem from_serveLockSafety : (serveLockSafety args s).From s := by
  unfold serveLockSafety
  split
  · exact .of_event _ (.safetyLocked s)
  · exact .refusal _ s

theorem from_serveClearEvents : (serveClearEvents args s).From s := by
  unfold serveClearEvents
  split
  · exact .of_event _ (.flagged s _)
  · exact .refusal _ s

theorem from_serveSetEventMask : (serveSetEventMask args s).From s := by
  unfold serveSetEventMask
  split
  · exact .of_event _ (.masked s _)
  · exact .refusal _ s

end PartRequests

section MapRequests
variable (args : List Byte) (s : State)

theorem from_serveMapOpen : (serveMapOpen args s).From s := by
  unfold serveMapOpen
  split
  · rename_i leg v1 v0
    split
    · exact .refusal _ s
    · split
      · exact .refusal _ s
      · refine .of_event _ (.staged s _ fun _ => ?_)
        obtain ⟨hlow, hhigh⟩ := clamp_mem_range (low := 600) (high := 990) (by decide) (nat2 v1 v0)
        simp [Staging.sound, tapsSound, tapsFollow, handlesDiffer, hlow, hhigh]
  · exact .refusal _ s

/-- Distances that follow the last one staged go on with the staged ones in rising order (R36, R43). -/
theorem tapsFollow_append {last : Option Nat} {taps distances : List Nat} (htaps : tapsFollow last taps = true)
    (h : tapsFollow (taps.getLast?.or last) distances = true) : tapsFollow last (taps ++ distances) = true := by
  induction taps generalizing last with
  | nil => simpa using h
  | cons d ds ih =>
    rw [tapsFollow_cons_iff] at htaps
    rw [List.cons_append, tapsFollow_cons_iff]
    obtain ⟨hmax, hlast, hds⟩ := htaps
    refine ⟨hmax, hlast, ih hds ?_⟩
    cases ds with
    | nil => simpa using h
    | cons e es =>
      rw [List.getLast?_cons_cons] at h
      have hsome : (e :: es).getLast? ≠ none := by simp
      obtain ⟨x, hx⟩ := Option.ne_none_iff_exists'.mp hsome
      rw [hx] at h ⊢
      exact h

theorem from_serveMapTaps : (serveMapTaps args s).From s := by
  unfold serveMapTaps
  split
  · exact .refusal _ s
  · rename_i distances _
    split
    · exact .refusal _ s
    · split
      · exact .refusal _ s
      · rename_i g hg
        split
        · exact .refusal _ s
        · rename_i hfollow
          split
          · exact .refusal _ s
          · rename_i hfull
            refine .of_event _ (.staged s _ fun hsound => ?_)
            have hold := hsound g hg
            simp only [Staging.sound, tapsSound, Bool.and_eq_true, decide_eq_true_eq] at hold ⊢
            obtain ⟨⟨⟨⟨⟨⟨hlen, htaps⟩, hstations⟩, hall⟩, hdiffer⟩, hvlow⟩, hvhigh⟩ := hold
            refine ⟨⟨⟨⟨⟨⟨?_, tapsFollow_append htaps ?_⟩, hstations⟩, ?_⟩, hdiffer⟩, hvlow⟩, hvhigh⟩
            · rw [List.length_append]
              exact Nat.not_lt.mp hfull
            · simpa using hfollow
            · rw [List.all_eq_true] at hall ⊢
              intro x hx
              have hx := hall x hx
              simp only [Station.sound, Bool.and_eq_true, decide_eq_true_eq, List.length_append] at hx ⊢
              omega

/-- The handles of an entry list read from bytes fit 16 bits, and its drops are those of R44. -/
theorem readStations_sound {args : List Byte} {entries : List (Station × Bool)} (h : readStations args = some entries) :
    ∀ e ∈ entries, e.1.handle ≤ 65535 ∧ (e.2 = true → e.1.drop ≤ 1000) := by
  fun_induction readStations args generalizing entries with
  | case1 => simp_all
  | case2 h1 h0 tap d1 d0 rest drop entry =>
    rename_i ih
    obtain ⟨es, hes, rfl⟩ := Option.map_eq_some_iff.mp h
    intro e he
    obtain rfl | he := List.mem_cons.mp he
    · refine ⟨?_, fun hfits => ?_⟩
      · show nat2 h1 h0 ≤ 65535
        have := h1.isLt
        have := h0.isLt
        unfold nat2
        omega
      · show (if drop = 65535 then 300 else drop) ≤ 1000
        simp only [Bool.or_eq_true, decide_eq_true_eq] at hfits
        split <;> omega
    · exact ih hes e he
  | case3 => simp_all

theorem handlesDiffer_iff {stations : List Station} :
    handlesDiffer stations = true ↔ (stations.map fun x => x.handle).Nodup := by
  have hcount (x : Station) :
      (stations.countP fun y => y.handle == x.handle) = (stations.map fun y => y.handle).count x.handle := by
    rw [List.count, List.countP_map]
    rfl
  simp only [handlesDiffer, List.all_eq_true, beq_iff_eq, hcount, List.nodup_iff_count_eq_one, List.forall_mem_map]

theorem from_serveMapStations : (serveMapStations args s).From s := by
  unfold serveMapStations
  split
  · exact .refusal _ s
  · rename_i entries hread
    split
    · exact .refusal _ s
    · split
      · exact .refusal _ s
      · rename_i g hg
        split
        · exact .refusal _ s
        · rename_i hfit
          split
          · exact .refusal _ s
          · rename_i hfull
            refine .of_event _ (.staged s _ fun hsound => ?_)
            have hold := hsound g hg
            obtain ⟨hentries, hnodup⟩ := stationsFit_iff.mp (Bool.eq_true_of_not_eq_false hfit)
            simp only [Staging.sound, Bool.and_eq_true, decide_eq_true_eq] at hold ⊢
            obtain ⟨⟨⟨⟨⟨htaps, hstations⟩, hall⟩, hdiffer⟩, hvlow⟩, hvhigh⟩ := hold
            refine ⟨⟨⟨⟨⟨htaps, ?_⟩, ?_⟩, ?_⟩, hvlow⟩, hvhigh⟩
            · rw [List.length_append, List.length_map]
              exact Nat.not_lt.mp hfull
            · rw [List.all_append, Bool.and_eq_true]
              refine ⟨hall, List.all_eq_true.mpr fun x hx => ?_⟩
              obtain ⟨e, he, rfl⟩ := List.mem_map.mp hx
              obtain ⟨hzero, htap, hdrop, -⟩ := hentries e he
              obtain ⟨hhandle, hfits⟩ := readStations_sound hread e he
              have := hfits hdrop
              simp only [Station.sound, Bool.and_eq_true, decide_eq_true_eq]
              omega
            · rw [handlesDiffer_iff] at hdiffer ⊢
              rw [List.map_append, List.map_map]
              refine List.nodup_append.mpr ⟨hdiffer, hnodup, fun a ha b hb => ?_⟩
              obtain ⟨e, he, rfl⟩ := List.mem_map.mp hb
              obtain ⟨-, -, -, hheld⟩ := hentries e he
              intro hab
              rw [hab] at ha
              exact hheld ha

theorem from_serveMapDiscard : (serveMapDiscard args s).From s := by
  unfold serveMapDiscard
  split
  · exact .of_event _ (.stagingDropped s)
  · exact .refusal _ s

theorem from_serveMapActivate : (serveMapActivate args s).From s := by
  unfold serveMapActivate
  split
  · exact .refusal _ s
  · split
    · exact .refusal _ s
    · rename_i g hg
      split
      · exact .of_unchanged rfl
      · rename_i hconflict
        dsimp only
        split
        · exact .of_unchanged rfl
        · rename_i hfull
          exact .of_event _ (.activated s g hg hconflict (Nat.not_lt.mp hfull))

/-- A SET_ZONE leaves the round's record and the values it has latched. -/
theorem Round.zoned_kept (l : Leg) (r : Round) : (r.zoned l).record = r.record ∧ (r.zoned l).snap = r.snap := by
  unfold Round.zoned
  split <;> exact ⟨rfl, rfl⟩

theorem State.leads_zoneRound (l : Leg) : s.Leads (s.zoneRound l) := by
  unfold State.zoneRound
  split
  · rename_i r p e hmode
    obtain ⟨hrecord, hsnap⟩ := r.zoned_kept l
    have hround : s.round = some r := by rw [State.round, hmode]
    have hev := Event.rounded s r (r.zoned l) hround hrecord hsnap
    rw [State.withRound, hmode] at hev
    exact .one hev
  · rename_i r hmode
    obtain ⟨hrecord, hsnap⟩ := r.zoned_kept l
    have hround : s.round = some r := by rw [State.round, hmode]
    have hev := Event.rounded s r (r.zoned l) hround hrecord hsnap
    rw [State.withRound, hmode] at hev
    exact .one hev
  all_goals exact .refl s

theorem State.touches_zoneRound (l : Leg) : s.Touches [.mode] (s.zoneRound l) := by
  unfold State.zoneRound
  split
  · exact .of_withMode s _
  · exact .of_withMode s _
  all_goals exact .refl _ s

theorem from_serveSetZone : (serveSetZone args s).From s := by
  unfold serveSetZone
  split
  · dsimp only
    split
    · exact .refusal _ s
    · split
      · exact .refusal _ s
      · rename_i l _ hspan
        have hzone := Event.zoned s l (some { first := _, last := _ }) fun z hz => by
          obtain rfl := Option.some.inj hz
          simpa [Config.maxDistance] using hspan
        exact (Answer.From.of_leads _ ((Leads.one hzone).trans (State.leads_zoneRound _ l))
          (hzone.touches.mono.trans (State.touches_zoneRound _ l).mono (fs := [.plant, .table, .mode]))).startTestIfIdle
  · exact .refusal _ s

theorem from_serveClearZone : (serveClearZone args s).From s := by
  unfold serveClearZone
  split
  · split
    · exact .refusal _ s
    · rename_i l _
      exact (Answer.From.of_event _ (.zoned s l none nofun)).startTestIfIdle
  · exact .refusal _ s

end MapRequests

section RecordRequests
variable (args : List Byte) (s : State)

theorem from_serveListChanged : (serveListChanged args s).From s := by
  unfold serveListChanged
  split
  · exact .of_event _ (.listed s)
  · exact .refusal _ s

/-- A name that passes the check of R3 picks a record. -/
theorem State.record_of_checkName {s : State} {num gen : Byte} {n : SlotNo} {r : Record}
    (h : s.checkName num gen = .ok (n, r)) : s.record n = some r := by
  unfold State.checkName at h
  split at h
  · split at h
    · exact absurd h nofun
    · split at h
      · rename_i hrec _
        obtain ⟨rfl, rfl⟩ := Prod.mk.inj (Except.ok.inj h)
        exact hrec
      · exact absurd h nofun
  · exact absurd h nofun

theorem from_serveAcknowledge : (serveAcknowledge args s).From s := by
  unfold serveAcknowledge
  split
  · split
    · exact .refusal _ s
    · rename_i n r hname
      exact .of_event _ (.noted s n r true r.pinned r.ticket (State.record_of_checkName hname) (.inl rfl))
  · exact .refusal _ s

theorem nat4_lt (b3 b2 b1 b0 : Byte) : nat4 b3 b2 b1 b0 < 4294967296 := by
  have := b3.isLt
  have := b2.isLt
  have := b1.isLt
  have := b0.isLt
  unfold nat4
  omega

theorem from_serveAnnotate : (serveAnnotate args s).From s := by
  unfold serveAnnotate
  split
  · rename_i num gen t3 t2 t1 t0
    split
    · exact .refusal _ s
    · rename_i n r hname
      refine .of_event _ (.noted s n r r.acknowledged r.pinned _ (State.record_of_checkName hname) (.inr ?_))
      split
      · exact Option.some_ne_none _ |>.symm
      · rename_i hne
        intro h
        have hzero := congrArg BitVec.toNat (Option.some.inj h)
        rw [BitVec.toNat_ofNat, Nat.mod_eq_of_lt (nat4_lt t3 t2 t1 t0)] at hzero
        exact hne hzero
  · exact .refusal _ s

theorem from_servePin : (servePin args s).From s := by
  unfold servePin
  split
  · split
    · exact .refusal _ s
    · rename_i n r hname
      exact .of_event _ (.noted s n r r.acknowledged true r.ticket (State.record_of_checkName hname) (.inl rfl))
  · exact .refusal _ s

theorem from_serveUnpin : (serveUnpin args s).From s := by
  unfold serveUnpin
  split
  · split
    · exact .refusal _ s
    · rename_i n r hname
      exact .of_event _ (.noted s n r r.acknowledged false r.ticket (State.record_of_checkName hname) (.inl rfl))
  · exact .refusal _ s

theorem from_serveRetire : (serveRetire args s).From s := by
  unfold serveRetire
  split
  · split
    · exact .refusal _ s
    · exact .of_event _ (.retired s _)
  · exact .refusal _ s

theorem from_serveMerge : (serveMerge args s).From s := by
  unfold serveMerge
  split
  · split
    · exact .refusal _ s
    · rename_i na a hname
      split
      · exact .refusal _ s
      · rename_i nb b hname'
        split
        · exact .refusal _ s
        · rename_i hne
          split
          · rename_i ea eb hea heb
            dsimp only
            split
            · rename_i hleg
              exact .of_event _ (.merged s na nb a b ea eb hne (State.record_of_checkName hname)
                (State.record_of_checkName hname') hea heb hleg)
            · exact .refusal _ s
          all_goals exact .refusal _ s
  · exact .refusal _ s

theorem from_serveReprobe : (serveReprobe args s).From s := by
  unfold serveReprobe
  split
  · split
    · exact .refusal _ s
    · rename_i n r hname
      have hrec := State.record_of_checkName hname
      split
      · exact .refusal _ s
      · rename_i g hr
        cases hstate : r.state
        case probeWait | probing | suspect => exact .refusal _ s
        all_goals exact .of_event _ (.reprobed s n r g hrec hr (by simp [hstate]))
  · exact .refusal _ s

end RecordRequests

section ProbeRequests
variable (args : List Byte) (s : State)

theorem from_servePauseProbing : (servePauseProbing args s).From s := by
  unfold servePauseProbing
  split
  · exact .refusal _ s
  · have hpaused : Mode.paused.resting := .inr (.inr rfl)
    have habort : (answerOk [] (s.abortRound .paused)).From s :=
      .of_leads _ (s.leads_abortRound hpaused) (State.SequencerMoved.of_abortRound s _).touches
    split
    · rename_i hmode
      exact .of_event _ (.rested s _ (.inl hmode) hpaused)
    · rename_i hmode
      exact .of_event _ (.rested s _ (.inr (.inl hmode)) hpaused)
    · exact habort
    · exact habort
    · exact .of_unchanged rfl
    all_goals exact .refusal _ s

theorem from_serveResumeProbing : (serveResumeProbing args s).From s := by
  unfold serveResumeProbing
  split
  · exact .refusal _ s
  · split
    · rename_i hmode
      exact (Answer.From.of_event _ (.rested s .idle (.inr (.inr hmode)) Mode.resting_idle)).startTestIfIdle
    all_goals exact .refusal _ s

theorem from_grantHold (l : Leg) (d : Depth) (o : Origin) (hmode : s.mode.resting ∨ ∃ c k, s.mode = .manual l c k) :
    (s.grantHold l d o).From s := by
  unfold State.grantHold
  split
  · exact .refusal _ s
  · split
    · exact .refusal _ s
    · rename_i hcharge
      exact .of_event _ (.holdBegun s l d o hmode (Nat.not_le.mp hcharge))

theorem from_serveLegManual : (serveLegManual args s).From s := by
  unfold serveLegManual
  split
  · split
    · rename_i l d _ _
      split
      · exact .refusal _ s
      · exact .refusal _ s
      · exact .refusal _ s
      · exact .refusal _ s
      · rename_i hmode
        exact from_grantHold s l d _ (.inl (.inl hmode))
      · rename_i hmode
        exact from_grantHold s l d _ (.inl (.inr (.inr hmode)))
      · rename_i k c o hmode
        split
        · rename_i hk
          subst hk
          exact from_grantHold s k d o (.inr ⟨c, o, hmode⟩)
        · exact .refusal _ s
    all_goals exact .refusal _ s
  · exact .refusal _ s

theorem from_serveLegRelease : (serveLegRelease args s).From s := by
  unfold serveLegRelease
  split
  · exact .refusal _ s
  · split
    · exact .of_leads _ s.leads_endHold (State.SequencerMoved.of_endHold s).touches
    all_goals exact .refusal _ s

theorem from_serveReleaseLockout : (serveReleaseLockout args s).From s := by
  unfold serveReleaseLockout
  split
  · exact .refusal _ s
  · split
    · exact .refusal _ s
    · rename_i hlockout
      split
      · exact .of_unchanged rfl
      · exact (Answer.From.of_event _ (.unlocked s (Bool.eq_true_of_not_eq_false hlockout))).startTestIfIdle

end ProbeRequests

/-! ### A request taken -/

theorem State.receives_congr {s t : State} (h : t.link = s.link) : t.receives = s.receives := by
  rw [State.receives, State.receives, h]

theorem State.leads_takeRequest (s : State) (code tag : Byte) (restart : Bool) {serve : State → Answer}
    (h : (serve s).From s) : s.Leads (s.takeRequest code tag restart serve) := by
  obtain ⟨-, hs⟩ | ⟨hreceives, hs⟩ := s.takeRequest_cases code tag restart serve
  · rw [hs]
    exact .refl s
  · rw [hs]
    exact .tail h.leads (.replyBegun _ _ ((State.receives_congr h.link).trans hreceives))

/-- The request that a frame carries, taken by its owner. -/
theorem State.leads_serve (s : State) (i : Instr) : s.Leads (s.serve i) := by
  cases i with
  | unknownRequest code tag args => exact .ite (.refl s) (s.leads_takeRequest _ _ _ (from_serveUnknown s))
  | ident tag args => exact s.leads_takeRequest _ _ _ (from_serveIdent args s)
  | restart tag args => exact s.leads_takeRequest _ _ _ (from_serveRestart args s)
  | readClock tag args => exact s.leads_takeRequest _ _ _ (from_serveReadClock args s)
  | setClock tag args => exact s.leads_takeRequest _ _ _ (from_serveSetClock args s)
  | readSettings tag args => exact s.leads_takeRequest _ _ _ (from_serveReadSettings args s)
  | configure tag args => exact s.leads_takeRequest _ _ _ (from_serveConfigure args s)
  | readSafety tag args => exact s.leads_takeRequest _ _ _ (from_serveReadSafety args s)
  | setSafety tag args => exact s.leads_takeRequest _ _ _ (from_serveSetSafety args s)
  | lockSafety tag args => exact s.leads_takeRequest _ _ _ (from_serveLockSafety args s)
  | mapOpen tag args => exact s.leads_takeRequest _ _ _ (from_serveMapOpen args s)
  | mapTaps tag args => exact s.leads_takeRequest _ _ _ (from_serveMapTaps args s)
  | mapStations tag args => exact s.leads_takeRequest _ _ _ (from_serveMapStations args s)
  | mapActivate tag args => exact s.leads_takeRequest _ _ _ (from_serveMapActivate args s)
  | mapDiscard tag args => exact s.leads_takeRequest _ _ _ (from_serveMapDiscard args s)
  | readLeg tag args => exact s.leads_takeRequest _ _ _ (from_serveReadLeg args s)
  | readStations tag args => exact s.leads_takeRequest _ _ _ (from_serveReadStations args s)
  | setZone tag args => exact s.leads_takeRequest _ _ _ (from_serveSetZone args s)
  | clearZone tag args => exact s.leads_takeRequest _ _ _ (from_serveClearZone args s)
  | readZones tag args => exact s.leads_takeRequest _ _ _ (from_serveReadZones args s)
  | lookup tag args => exact s.leads_takeRequest _ _ _ (from_serveLookup args s)
  | find tag args => exact s.leads_takeRequest _ _ _ (from_serveFind args s)
  | findStation tag args => exact s.leads_takeRequest _ _ _ (from_serveFindStation args s)
  | listChanged tag args => exact s.leads_takeRequest _ _ _ (from_serveListChanged args s)
  | acknowledge tag args => exact s.leads_takeRequest _ _ _ (from_serveAcknowledge args s)
  | annotate tag args => exact s.leads_takeRequest _ _ _ (from_serveAnnotate args s)
  | pin tag args => exact s.leads_takeRequest _ _ _ (from_servePin args s)
  | unpin tag args => exact s.leads_takeRequest _ _ _ (from_serveUnpin args s)
  | retire tag args => exact s.leads_takeRequest _ _ _ (from_serveRetire args s)
  | merge tag args => exact s.leads_takeRequest _ _ _ (from_serveMerge args s)
  | reprobe tag args => exact s.leads_takeRequest _ _ _ (from_serveReprobe args s)
  | readProbe tag args => exact s.leads_takeRequest _ _ _ (from_serveReadProbe args s)
  | pauseProbing tag args => exact s.leads_takeRequest _ _ _ (from_servePauseProbing args s)
  | resumeProbing tag args => exact s.leads_takeRequest _ _ _ (from_serveResumeProbing args s)
  | legManual tag args => exact s.leads_takeRequest _ _ _ (from_serveLegManual args s)
  | legRelease tag args => exact s.leads_takeRequest _ _ _ (from_serveLegRelease args s)
  | releaseLockout tag args => exact s.leads_takeRequest _ _ _ (from_serveReleaseLockout args s)
  | readEvents tag args => exact s.leads_takeRequest _ _ _ (from_serveReadEvents args s)
  | clearEvents tag args => exact s.leads_takeRequest _ _ _ (from_serveClearEvents args s)
  | setEventMask tag args => exact s.leads_takeRequest _ _ _ (from_serveSetEventMask args s)
  | _ => exact .refl s

end Machine
end Sys2Proof
end

section
/-! Proofs, family 11, fifth part: the reports, the link's events and the line reset as runs of the single changes, and so every
command. -/

namespace Sys2Proof
namespace Machine

open State (Leads Event)

/-! ### Dispatch -/

section Reports
variable (s : State)

theorem State.dispatchHead_of_queue {s : State} {x : QueuedReport} {rest : List QueuedReport} (h : s.queue = x :: rest) :
    s.dispatchHead = (s.popped rest).handleReport x := by
  have hhold : holdAfterDispatch s.hold rest.length = (s.hold && decide (49 ≤ rest.length)) := by
    rw [holdAfterDispatch, ← decide_not, Config.holdReleaseAt]
    simp only [Nat.not_le, Nat.succ_le_iff]
  simp only [State.dispatchHead, h, State.popped, hhold]

/-- An echo with a level from 20 to ECHO_FLOOR: the drop-echo mark, nothing, or an observation. -/
theorem State.leads_placeEcho {x : Located} {handle : Nat} (hx : s.locate handle = some x) (rate delay level : Nat)
    (second : Word32) (hlevel : 20 ≤ level) (hfloor : level ≤ s.settings.echoFloor) :
    s.Leads (s.placeEcho x rate delay level second) := by
  unfold State.placeEcho
  dsimp only
  split
  · exact .one (.stationMarked s _ _ _ fun _ => ⟨rfl, rfl, rfl⟩)
  · rename_i hdrop
    split
    · exact .refl s
    · rename_i p hp
      have hobserved (hout : ∀ z, (s.plant.get x.leg).zone = some z → z.holds p = false) :
          s.Leads (s.observe { leg := x.leg, position := p, level := level, handle := x.station.handle, second := second }) :=
        .one (.observed s _ ⟨handle, x, _, hx, rfl, rfl, Nat.not_le.mp hdrop, hp, hout, hlevel, hfloor⟩)
      cases hzone : (s.plant.get x.leg).zone with
      | none => exact hobserved (by rw [hzone]; exact nofun)
      | some z =>
        dsimp only
        split
        · exact .refl s
        · rename_i hin
          refine hobserved fun y hy => ?_
          obtain rfl := Option.some.inj (hzone.symm.trans hy)
          exact Bool.eq_false_iff.mpr hin

theorem State.leads_markMisplaced (x : Located) (second : Word32) : s.Leads (s.markMisplaced x second) := by
  unfold State.markMisplaced
  split
  · exact .refl s
  · exact .tail
      (.one (.stationMarked s x.leg x.station.handle (fun y => { y with misplaced := some second }) fun _ => ⟨rfl, rfl, rfl⟩))
      (.flagged _ _)

theorem State.leads_handleBurst (rate handle delay level : Nat) (isEcho : Bool) (stamps : Stamps)
    (h : isEcho = true → 20 ≤ level ∧ level ≤ s.settings.echoFloor) :
    s.Leads (s.handleBurst rate handle delay level isEcho stamps) := by
  unfold State.handleBurst
  split
  · exact .refl s
  · rename_i x hx
    split
    · exact s.leads_markMisplaced x _
    · split
      · rename_i hecho
        exact s.leads_placeEcho hx rate delay level _ (h hecho).1 (h hecho).2
      · exact .refl s

/-- The entry of a band after a baseline has moved toward the power reported, within the range of both (R107). -/
theorem BandEntry.follows_moved {x : BandEntry} {base power : Int} (hbase : x.baseline = some base)
    (hpower : -240 ≤ power ∧ power ≤ 240) :
    x.Follows { baseline := some (base + (power - base).tdiv 16), streak := 0 } := by
  refine ⟨Nat.zero_le _, _, rfl, fun hrange => ?_⟩
  have := hrange base hbase
  obtain h | h := tdiv_sixteen_cases (power - base) <;> omega

theorem State.band_setBand_self (b : Band) (x : BandEntry) : (s.setBand b x).band b = x := by
  simp [State.setBand, State.band]

theorem State.leads_detect (b : Band) (excess : Nat) (second : Word32) (hbase : (s.band b).baseline ≠ none) :
    s.Leads (s.detect b excess second) := by
  obtain ⟨base, hbase⟩ := Option.ne_none_iff_exists'.mp hbase
  unfold State.detect
  dsimp only
  have hcounted := Event.bandSet s b { baseline := (s.band b).baseline, streak := min 8 ((s.band b).streak + 1) }
    ⟨Nat.min_le_left _ _, base, hbase, fun hrange => hrange base hbase⟩
  split
  · rename_i n hn
    obtain ⟨p, hp, rfl⟩ := Option.map_eq_some_iff.mp hn
    have hmem := State.mem_records.mp (List.mem_of_find?_eq_some hp)
    have hof := List.find?_some hp
    cases hbody : p.2.body with
    | echo e => simp [Record.ingressOf, hbody] at hof
    | ingress g => exact .tail (.one hcounted) (.ingressFed _ p.1 p.2 g _ _ _ hmem hbody)
  · rename_i hn
    refine .tail (.one hcounted) (.ingressOpened _ b _ _ _ ?_ fun n r hrec => ?_)
    · rw [State.band_setBand_self, hbase]
      rfl
    · have hfind := List.find?_eq_none.mp (Option.map_eq_none_iff.mp hn)
      exact Bool.eq_false_iff.mpr (hfind (n, r) (State.mem_records.mpr hrec))

theorem State.leads_quietBand (b : Band) {power : Int} (second : Word32) (hpower : -240 ≤ power ∧ power ≤ 240) :
    s.Leads (s.quietBand b power second) := by
  unfold State.quietBand
  split
  · exact .one (.bandSet s b _ ⟨Nat.zero_le _, power, rfl, fun _ => hpower⟩)
  · rename_i base hbase
    dsimp only
    split
    · exact .one (.bandSet s b _ (BandEntry.follows_moved hbase hpower))
    · exact s.leads_detect b _ second (by rw [hbase]; exact Option.some_ne_none base)

/-- A report added to a sum leaves the round's record and the values it has latched. -/
theorem Round.addSum_kept (tag : StepTag) (power : Int) (r : Round) :
    (r.addSum tag power).record = r.record ∧ (r.addSum tag power).snap = r.snap := by
  unfold Round.addSum
  split
  · exact ⟨rfl, rfl⟩
  · exact ⟨rfl, rfl⟩
  · exact ⟨rfl, rfl⟩
  · split <;> exact ⟨rfl, rfl⟩

theorem State.leads_dwellBand (b : Band) (power : Int) (tag : StepTag) : s.Leads (s.dwellBand b power tag) := by
  by_cases h : ∃ r, s.round = some r ∧ tag.belongsTo s.roundNumber = true ∧ s.probedBand r = some b
  · obtain ⟨r, hround, htag, hband⟩ := h
    obtain ⟨hrecord, hsnap⟩ := r.addSum_kept tag power
    rw [State.dwellBand_of_probed hround htag hband]
    exact .one (.rounded s r _ hround hrecord hsnap)
  · rw [State.dwellBand_of_other]
    · exact .refl s
    · cases hround : s.round with
      | none => exact .inl rfl
      | some r =>
        by_cases htag : tag.belongsTo s.roundNumber = true
        · exact .inr (.inr ⟨r, rfl, fun hband => h ⟨r, hround, htag, hband⟩⟩)
        · exact .inr (.inl (Bool.eq_false_iff.mpr htag))

theorem State.leads_handleReport (x : QueuedReport) : s.Leads (s.handleReport x) := by
  unfold State.handleReport
  split
  · exact .refl s
  · rename_i rate handle delay level _
    dsimp only
    refine .ite (s.leads_handleBurst _ _ _ _ _ _ fun hecho => ?_) (.refl s)
    simp only [classedEcho, Bool.and_eq_true, decide_eq_true_eq] at hecho
    exact ⟨Nat.le_max_left _ _, hecho.2⟩
  · rename_i band power _
    split
    · have hclamp : -240 ≤ clampPower power ∧ clampPower power ≤ 240 := by
        unfold clampPower
        omega
      unfold State.handleBand
      split
      · exact s.leads_quietBand _ _ hclamp
      · exact .refl s
      all_goals exact s.leads_dwellBand _ _ _
    · exact .refl s

theorem State.leads_dispatchHead : s.Leads s.dispatchHead := by
  cases h : s.queue with
  | nil =>
    rw [State.dispatchHead, h]
    exact .refl s
  | cons x rest =>
    rw [State.dispatchHead_of_queue h]
    exact .trans (.one (.popped s x rest h)) (State.leads_handleReport _ x)

/-! ### The port -/

theorem State.leads_receiveBit (bit : Bool) : s.Leads (s.receiveBit bit) := by
  unfold State.receiveBit
  exact .ite (.ite (.one (.ported s _)) (.one (.ported s _))) (.refl s)

theorem State.leads_releaseSelect : s.Leads s.releaseSelect := by
  unfold State.releaseSelect
  have hidle : s.Leads (s.withPort Port.initial) := .one (.ported s _)
  dsimp only
  split
  · exact .ite (.tail hidle (.offered _ _)) hidle
  all_goals exact hidle

/-! ### The link and the line reset -/

theorem State.leads_judgeFrame (bytes : List Byte) : s.Leads (s.judgeFrame bytes) := by
  unfold State.judgeFrame
  refine .ite ?_ (.one (.frameDropped s))
  split
  · exact s.leads_serve _
  · exact .one (.frameDropped s)

theorem State.leads_takeByte (b : Byte) (h : s.receives = true) : s.Leads (s.takeByte b) := by
  unfold State.takeByte
  split
  · exact .ite (.one (.frameGrown s _ (.inl h))) (.refl s)
  · exact .ite (.one (.frameDropped s)) (.ite (s.leads_judgeFrame _) (.one (.frameGrown s _ (.inl h))))

theorem State.leads_resetSequencer : s.Leads s.resetSequencer := by
  unfold State.resetSequencer
  split
  · exact s.leads_abortRound Mode.resting_idle
  · exact s.leads_abortRound Mode.resting_idle
  · rename_i hmode
    exact .enterMode (.one (.rested s _ (.inr (.inl hmode)) Mode.resting_idle))
  · rename_i l d o hmode
    exact .enterMode (.one (.holdEnded s l d o _ _ hmode Mode.resting_idle))
  all_goals exact .refl s

theorem State.leads_lineReset : s.Leads s.lineReset :=
  ((((Leads.one (.ported s _)).trans (.one (.queueCleared _))).trans (.one (.stagingDropped _))).trans
    (.one (.linkReset _))).trans (State.leads_resetSequencer _)

theorem State.leads_endReply (reply : Reply) : s.Leads (s.endReply reply) := by
  unfold State.endReply
  exact .ite s.leads_lineReset (.refl s)

end Reports

/-! ### Every command -/

theorem execLineReset_leads {s t : State} (h : execLineReset s = .next t) : s.Leads t := by
  unfold execLineReset at h
  split at h
  · obtain rfl := Host.Outcome.next.inj h
    exact s.leads_caughtUp
  · obtain rfl := Host.Outcome.next.inj h
    rw [State.lineReset_withResetLine]
    exact .tail (s.leads_caughtUp.trans (State.leads_lineReset _)) (.resetAsserted _ (State.link_lineReset _))

theorem execAlignRun_leads {s t : State} {periods : Nat} (h : execAlignRun periods s = .next t) : s.Leads t := by
  unfold execAlignRun at h
  dsimp only at h
  split at h
  · rename_i hphase hline _
    obtain rfl := Host.Outcome.next.inj h
    exact .tail s.leads_caughtUp (.phaseMoved _ _ (by rw [hphase]; exact nofun) fun _ => hline)
  · obtain rfl := Host.Outcome.next.inj h
    exact s.leads_caughtUp

theorem execAlignIdleElapsed_leads {s t : State} (h : execAlignIdleElapsed s = .next t) : s.Leads t := by
  unfold execAlignIdleElapsed at h
  dsimp only at h
  split at h <;> obtain rfl := Host.Outcome.next.inj h
  · rename_i hphase
    exact .tail s.leads_caughtUp (.phaseMoved _ _ (by rw [hphase]; exact nofun) (by rw [hphase]; exact nofun))
  all_goals exact s.leads_caughtUp

theorem execAlignComplete_leads {s t : State} (h : execAlignComplete s = .next t) : s.Leads t := by
  unfold execAlignComplete at h
  dsimp only at h
  split at h <;> obtain rfl := Host.Outcome.next.inj h
  · rename_i hphase
    exact .tail s.leads_caughtUp (.phaseMoved _ _ (by rw [hphase]; exact nofun) (by rw [hphase]; exact nofun))
  all_goals exact s.leads_caughtUp

theorem execLineBreak_leads {s t : State} (h : execLineBreak s = .next t) : s.Leads t := by
  unfold execLineBreak at h
  dsimp only at h
  have hreset : s.Leads (s.caughtUp.withLink Link.initial) := .tail s.leads_caughtUp (.linkReset _)
  split at h
  · split at h <;> obtain rfl := Host.Outcome.next.inj h
    · exact hreset
    · exact hreset.trans (State.leads_endReply _ _)
  all_goals
    obtain rfl := Host.Outcome.next.inj h
    exact s.leads_caughtUp

theorem execReplySent_leads {s t : State} (h : execReplySent s = .next t) : s.Leads t := by
  unfold execReplySent at h
  dsimp only at h
  split at h <;> obtain rfl := Host.Outcome.next.inj h
  · exact s.leads_caughtUp
  · exact (Leads.tail s.leads_caughtUp (.replyEnded _)).trans (State.leads_endReply _ _)

theorem execReceivedByte_leads {s t : State} {b : Byte} (h : execReceivedByte b s = .next t) : s.Leads t := by
  unfold execReceivedByte at h
  dsimp only at h
  split at h <;> obtain rfl := Host.Outcome.next.inj h
  · rename_i hreceives
    exact s.leads_caughtUp.trans (State.leads_takeByte _ b hreceives)
  · exact s.leads_caughtUp

/-- Every command is a run of the single changes. -/
theorem exec_leads {i : Instr} {s t : State} (h : exec i s = .next t) : s.Leads t := by
  have caughtUp {f : State → State} (hf : ∀ u : State, u.Leads (f u)) : s.Leads (f s.caughtUp) := s.leads_caughtUp.trans (hf _)
  cases i with
  | powerOnReset => exact Host.Outcome.next.inj h ▸ .one (.powerOn s)
  | lineReset => exact execLineReset_leads h
  | resetRelease => exact Host.Outcome.next.inj h ▸ caughtUp fun u => .one (.resetReleased u)
  | millisecondTick sense =>
    exact Host.Outcome.next.inj h ▸ s.leads_caughtUp.trans (State.leads_millisecond _ s.atTick_caughtUp sense)
  | secondTick => exact Host.Outcome.next.inj h ▸ s.leads_takeSecond
  | agingTick => exact Host.Outcome.next.inj h ▸ s.leads_takeAging
  | windowStart => exact Host.Outcome.next.inj h ▸ s.leads_takeWindow
  | settleExpiry l => exact Host.Outcome.next.inj h ▸ s.leads_takeSettle l
  | dwellExpiry => exact Host.Outcome.next.inj h ▸ s.leads_takeDwell
  | holdExhausted => exact Host.Outcome.next.inj h ▸ s.leads_takeHold
  | reportArrival => exact Host.Outcome.next.inj h ▸ caughtUp State.leads_releaseSelect
  | dispatch => exact Host.Outcome.next.inj h ▸ caughtUp State.leads_dispatchHead
  | roundStart => exact Host.Outcome.next.inj h ▸ s.leads_takeStart
  | roundEvaluation => exact Host.Outcome.next.inj h ▸ s.leads_takeEvaluation
  | alignRun periods => exact execAlignRun_leads h
  | alignIdleElapsed => exact execAlignIdleElapsed_leads h
  | alignComplete => exact execAlignComplete_leads h
  | lineBreak => exact execLineBreak_leads h
  | framingError => exact Host.Outcome.next.inj h ▸ caughtUp fun u => .one (.frameDropped u)
  | frameTimeout => exact Host.Outcome.next.inj h ▸ s.leads_takeTimeout
  | frameDiscard => exact Host.Outcome.next.inj h ▸ caughtUp fun u => .one (.frameDropped u)
  | replySent => exact execReplySent_leads h
  | receivedByte b => exact execReceivedByte_leads h
  | selectAssertion => exact Host.Outcome.next.inj h ▸ caughtUp fun u => .one (.ported u _)
  | reportBitReceived bit => exact Host.Outcome.next.inj h ▸ caughtUp fun u => u.leads_receiveBit bit
  | _ => exact Host.Outcome.next.inj h ▸ caughtUp fun u => u.leads_serve _

/-- What every single change keeps, and what does not speak of the queue of commands, every step keeps. -/
theorem step_keeps {P : State → Prop} (reads : List Field) (hcongr : ∀ s t, (∀ f ∈ reads, s.sameAt t f) → P s → P t)
    (hkeeps : ∀ fs s t, Event fs s t → ¬ (∀ f ∈ reads, f ∉ fs) → P s → P t) (hpending : .pending ∉ reads := by decide)
    {s t : State} (h : step s = .next t) (hs : P s) : P t := by
  unfold step at h
  split at h
  · exact Host.Outcome.next.inj h ▸ hs
  · rename_i c rest _
    have hrest : P (s.withPending rest) := by
      refine hcongr s _ (fun f hf => ?_) hs
      cases f <;> first | rfl | exact absurd hf hpending
    exact (exec_leads h).keeps (fun fs u v hev => hev.keeps reads hcongr hkeeps) hrest

/-- Settles O1: by the two cases of the queue. -/
theorem stepTakesTheFrontCommand : Obligations.StepTakesTheFrontCommand := by
  unfold Obligations.StepTakesTheFrontCommand
  refine fun s => ⟨fun hempty => ?idle, fun c rest hqueue => ?front⟩
  case idle => rw [step, hempty]
  case front => rw [step, hqueue]

/-- Settles O2: every meaning answers a next state, and no single change touches the queue of commands. -/
theorem commandsCompleteAndLeaveTheQueue : Obligations.CommandsCompleteAndLeaveTheQueue := by
  unfold Obligations.CommandsCompleteAndLeaveTheQueue
  intro i s
  obtain ⟨t, ht⟩ := exec_next i s
  exact ⟨t, ht, (exec_leads ht).pending_eq⟩

/-- Settles O5: POWER_ON_RESET is defined by the power-on state. -/
theorem powerOnResetStartsAfresh : Obligations.PowerOnResetStartsAfresh := by
  unfold Obligations.PowerOnResetStartsAfresh
  exact fun s => rfl

end Machine
end Sys2Proof
end

section
/-! Proofs, family 11, sixth part: what the sequencer's operations make of its state, and so that at most one leg is out and no
charge passes its allowance. -/

namespace Sys2Proof
namespace Machine

open State (Event)

/-! ### The sequencer's state after the start test and after a retirement -/

/-- The sequencer is where it was, or has gone from one waiting state to the other. -/
def Mode.Alike (m m' : Mode) : Prop := m' = m ∨ ((m = .idle ∨ m = .waitBudget) ∧ (m' = .idle ∨ m' = .waitBudget))

namespace Mode.Alike
variable {m m' m'' : Mode}

theorem refl (m : Mode) : m.Alike m := .inl rfl

theorem trans (h : m.Alike m') (h' : m'.Alike m'') : m.Alike m'' := by
  obtain rfl | ⟨hm, hm'⟩ := h
  · exact h'
  · obtain rfl | ⟨-, hm''⟩ := h'
    · exact .inr ⟨hm, hm'⟩
    · exact .inr ⟨hm, hm''⟩

theorem heldLeg_eq (h : m.Alike m') : m'.heldLeg = m.heldLeg := by
  obtain rfl | ⟨rfl | rfl, rfl | rfl⟩ := h <;> rfl

theorem locked_iff (h : m.Alike m') : m' = .locked ↔ m = .locked := by
  obtain rfl | ⟨rfl | rfl, rfl | rfl⟩ := h <;> simp

end Mode.Alike

theorem State.round_of_alike {s t : State} (h : s.mode.Alike t.mode) : t.round = s.round := by
  obtain h | ⟨h | h, h' | h'⟩ := h
  · rw [State.round, State.round, h]
  all_goals rw [State.round, State.round, h, h']

section AlikeOps
variable (s : State)

theorem State.alike_startTest : s.mode.Alike s.startTest.mode := by
  by_cases h : s.mode = .idle ∨ s.mode = .waitBudget
  · rw [State.startTest_of_waiting h]
    cases s.startOutcome
    case settlePending => exact .refl _
    case short => exact .inr ⟨h, .inr rfl⟩
    all_goals exact .inr ⟨h, .inl rfl⟩
  · rw [not_or] at h
    rw [State.startTest_of_not_waiting h.1 h.2]
    exact .refl _

theorem State.alike_startTestIfIdle : s.mode.Alike s.startTestIfIdle.mode := by
  rw [s.startTestIfIdle_eq]
  split
  · exact s.alike_startTest
  · exact .refl _

theorem State.alike_joinQueue (n : SlotNo) (second : Word32) : s.mode.Alike (s.joinQueue n second).mode := by
  unfold State.joinQueue
  split
  · exact .refl _
  · exact State.alike_startTestIfIdle (s.withWaitQueue _)

theorem State.alike_leaveQueue (name : RecordName) : s.mode.Alike (s.leaveQueue name).mode := by
  unfold State.leaveQueue
  dsimp only
  split
  · split
    · exact State.alike_startTest (s.withWaitQueue _)
    all_goals exact .refl _
  · exact .refl _

theorem State.mode_enterState (n : SlotNo) (st : RecordState) : (s.enterState n st).mode = s.mode :=
  s.touches_enterState n st .mode (by decide)

theorem State.alike_reopen (n : SlotNo) (second : Word32) : s.mode.Alike (s.reopen n second).mode := by
  unfold State.reopen
  split
  · exact .refl _
  · split
    · exact .refl _
    · dsimp only
      refine Mode.Alike.trans ?_ (State.alike_joinQueue _ _ _)
      rw [State.mode_enterState]
      exact .refl _

theorem State.alike_feedIngress (n : SlotNo) (excess streak : Nat) (second : Word32) :
    s.mode.Alike (s.feedIngress n excess streak second).mode := by
  unfold State.feedIngress
  split
  · exact .refl _
  · dsimp only
    split
    · split
      · exact State.alike_reopen (s.putRecord n _ false) n second
      · exact .refl _
    · split
      · exact State.alike_reopen (s.putRecord n _ false) n second
      · exact .refl _
    all_goals exact .refl _

theorem State.alike_openIngress (b : Band) (excess streak : Nat) (second : Word32) :
    s.mode.Alike (s.openIngress b excess streak second).mode := by
  unfold State.openIngress
  split
  · split
    · exact .refl _
    · exact State.alike_joinQueue (s.allocateAt _ _) _ second
  · exact .refl _

theorem State.alike_reprobe (n : SlotNo) (r : Record) (g : IngressPart) : s.mode.Alike (s.reprobe n r g).mode := by
  unfold State.reprobe
  refine Mode.Alike.trans ?_ (State.alike_joinQueue _ _ _)
  rw [State.mode_enterState]
  exact .refl _

/-- Everything that a quiet retirement can do to the sequencer: leave it, make its start test, or end its round (R20). -/
theorem State.retireQuietly_cases (n : SlotNo) :
    ((s.retireQuietly n).switches = s.switches ∧ s.mode.Alike (s.retireQuietly n).mode) ∨
      ∃ r, (s.freeSlot n).round = some r ∧ s.retireQuietly n = ((s.freeSlot n).aborted r).enterMode .idle := by
  have hleft (t : State) : (t.leaveQueue (s.nameOf n)).switches = t.switches := t.touches_leaveQueue _ .switches (by decide)
  unfold State.retireQuietly
  split
  · exact .inl ⟨rfl, .refl _⟩
  · unfold State.afterRetirement
    split
    · cases hround : (s.freeSlot n).round with
      | none => exact .inl ⟨rfl, .refl _⟩
      | some r =>
        dsimp only
        split
        · exact .inr ⟨r, rfl, State.abortRound_of_round hround .idle⟩
        · exact .inl ⟨rfl, .refl _⟩
    · exact .inl ⟨hleft _, State.alike_leaveQueue (s.freeSlot n) _⟩
    all_goals exact .inl ⟨rfl, .refl _⟩

end AlikeOps

/-- An invariant that speaks of neither the table nor the map, kept by a quiet retirement, is kept by every operation that is
made of them. -/
structure State.QuietlyKept (P : State → Prop) : Prop where
  congr : ∀ s t : State, s.Touches [.table, .plant, .staging, .flags] t → P s → P t
  quiet : ∀ (s : State) (n : SlotNo), P s → P (s.retireQuietly n)

namespace State.QuietlyKept
variable {P : State → Prop} (h : State.QuietlyKept P) {s : State}
include h

theorem retire (n : SlotNo) (hs : P s) : P (s.retire n) := by
  unfold State.retire
  split
  · exact hs
  · split
    · exact h.quiet s n hs
    · exact h.congr _ _ (State.Touches.of_evaluateLinks _ _).mono (h.quiet s n hs)

theorem rescale (leg : Leg) (hs : P s) : P (s.rescale leg) := by
  unfold State.rescale
  have hkept (ns : List SlotNo) (s : State) (hs : P s) : P (ns.foldl (fun t n => t.setSlot n (t.slot n).markStale) s) := by
    induction ns generalizing s with
    | nil => exact hs
    | cons n ns ih => exact ih _ (h.congr _ _ (State.Touches.of_setSlot s _ _).mono hs)
  have hfreed (ns : List SlotNo) (s : State) (hs : P s) : P (ns.foldl (fun t n => State.retireQuietly n t) s) := by
    induction ns generalizing s with
    | nil => exact hs
    | cons n ns ih => exact ih _ (h.quiet s n hs)
  exact hfreed _ _ (hkept _ _ hs)

theorem activate (g : Staging) (hs : P s) : P (s.activate g) := by
  rw [s.activate_eq, State.reattributed]
  have hmapped : P ((s.withPlant (s.newPlant g)).withStaging none) :=
    h.congr _ _ ((State.Touches.of_withPlant s _).mono.trans (State.Touches.of_withStaging _ _).mono) hs
  refine h.congr _ _ ((State.Touches.of_withTable _ _).mono.trans (State.Touches.of_evaluateLinks _ _).mono) ?_
  split
  · exact h.rescale _ hmapped
  · exact hmapped

theorem merge (na nb : SlotNo) (a b : Record) (ea eb : EchoPart) (hs : P s) : P (s.merge na nb a b ea eb) := by
  have hretired (r : Record) (c : Bool) : P ((s.putRecord na r c).retireQuietly nb) :=
    h.quiet _ nb (h.congr _ _ (State.Touches.of_putRecord s _ _ _).mono hs)
  unfold State.merge
  refine h.congr _ _ (State.Touches.of_evaluateLinks _ _).mono ?_
  split
  · exact h.congr _ _ (State.Touches.of_raise _ _).mono (hretired _ _)
  · exact hretired _ _

end State.QuietlyKept

/-! ### The legs that are out (R121, R149, R154) -/

theorem State.isOut_iff {s : State} {l : Leg} : s.isOut l = true ↔ (s.switch l).commanded ≠ .through := by
  rw [State.isOut, bne_iff_ne]

theorem State.isOut_eq_false_iff {s : State} {l : Leg} : s.isOut l = false ↔ (s.switch l).commanded = .through := by
  rw [State.isOut, bne_eq_false_iff_eq]

theorem State.legsSound_iff (s : State) :
    s.legsSound = true ↔
      (∀ l, s.isOut l = true → s.mode.heldLeg = some l) ∧ (s.lockout = true ↔ s.mode = .locked) := by
  simp only [State.legsSound, Bool.and_eq_true, all_allLegs, Bool.or_eq_true, Bool.not_eq_true', beq_iff_eq]
  refine and_congr (forall_congr' fun l => ?_) ?_
  · cases s.isOut l <;> simp
  · rw [Bool.eq_iff_iff, beq_iff_eq]

section Legs
variable {s t : State}

/-- Where the commands, the held leg and the lockout stand, the legs stay sound. -/
theorem State.legsSound_of_same (h : s.legsSound = true) (hout : ∀ l, t.isOut l = true → s.isOut l = true)
    (hheld : t.mode.heldLeg = s.mode.heldLeg) (hlocked : t.mode = .locked ↔ s.mode = .locked)
    (hlockout : t.lockout = s.lockout) : t.legsSound = true := by
  rw [State.legsSound_iff] at h ⊢
  rw [hheld, hlocked, hlockout]
  exact ⟨fun l hl => h.1 l (hout l hl), h.2⟩

theorem State.legsSound_of_alike (h : s.legsSound = true) (hswitches : t.switches = s.switches) (hmode : s.mode.Alike t.mode)
    (hlockout : t.lockout = s.lockout) : t.legsSound = true :=
  State.legsSound_of_same h (fun l hl => by rwa [State.isOut, State.switch, hswitches] at hl) hmode.heldLeg_eq
    hmode.locked_iff hlockout

/-- Where every leg is THROUGH, only the lockout must agree with the sequencer. -/
theorem State.legsSound_of_through (hin : ∀ l, t.isOut l = false) (hlockout : t.lockout = true ↔ t.mode = .locked) :
    t.legsSound = true :=
  (State.legsSound_iff t).mpr ⟨fun l hl => absurd ((hin l).symm.trans hl) Bool.false_ne_true, hlockout⟩

theorem State.isOut_of_held_none (h : s.legsSound = true) (hheld : s.mode.heldLeg = none) (l : Leg) : s.isOut l = false := by
  refine Bool.eq_false_iff.mpr fun hl => ?_
  have := ((State.legsSound_iff s).mp h).1 l hl
  exact absurd (hheld.symm.trans this) nofun

theorem Mode.heldLeg_of_resting {m : Mode} (h : m.resting) : m.heldLeg = none ∧ m ≠ .locked := by
  obtain rfl | rfl | rfl := h <;> exact ⟨rfl, nofun⟩

theorem State.lockout_of_not_locked (h : s.legsSound = true) (hmode : s.mode ≠ .locked) : s.lockout = false :=
  Bool.eq_false_iff.mpr fun hl => hmode (((State.legsSound_iff s).mp h).2.mp hl)

/-- A leg commanded THROUGH is THROUGH, and a command to THROUGH brings no other leg out. -/
theorem State.isOut_command_through (s : State) (l k : Leg) (settle : Nat) :
    (s.command l .through settle).isOut k = true ↔ k ≠ l ∧ s.isOut k = true := by
  by_cases hk : k = l
  · subst hk
    simp [State.isOut_iff, State.commanded_command_through]
  · rw [State.isOut_iff, State.isOut_iff, s.switch_command_ne _ _ hk]
    simp [hk]

theorem State.isOut_allThrough (s : State) (settle : Nat) (l : Leg) : (s.allThrough settle).isOut l = false := by
  have hfold (legs : List Leg) (s : State) :
      (legs.foldl (fun t k => State.command k .through settle t) s).isOut l = true → l ∉ legs ∧ s.isOut l = true := by
    induction legs generalizing s with
    | nil => exact fun h => ⟨List.not_mem_nil, h⟩
    | cons k legs ih =>
      intro h
      obtain ⟨hmem, hout⟩ := ih _ h
      obtain ⟨hne, hout⟩ := (s.isOut_command_through k l settle).mp hout
      exact ⟨by simp [hne, hmem], hout⟩
  exact Bool.eq_false_iff.mpr fun h => (hfold allLegs s h).1 (mem_allLegs l)

/-- The legs out once the leg that the round holds has returned: none. -/
theorem State.isOut_aborted {r : Round} (h : s.legsSound = true) (hround : s.round = some r) (l : Leg) :
    (s.aborted r).isOut l = false := by
  have hswitches : (s.aborted r).switches = s.abortCommand.switches := State.switches_requeue _ _
  rw [State.isOut, State.switch, hswitches, ← State.switch, ← State.isOut]
  have hheld := ((State.legsSound_iff s).mp h).1
  obtain ⟨p, e, hmode⟩ | hmode := State.round_eq_some_iff.mp hround
  · have hreturned (k : Leg) (guard : Nat) (hk : s.mode.heldLeg = some k) : (s.command k .through guard).isOut l = false := by
      refine Bool.eq_false_iff.mpr fun hout => ?_
      obtain ⟨hne, hout⟩ := (s.isOut_command_through k l guard).mp hout
      exact hne (Option.some.inj ((hheld l hout).symm.trans hk))
    cases p
    case settleIn k | probe k =>
      simp only [State.abortCommand, hmode]
      exact hreturned k _ (by rw [hmode]; rfl)
    case ref | settleOut k =>
      simp only [State.abortCommand, hmode]
      exact State.isOut_of_held_none h (by rw [hmode]; rfl) l
  · simp only [State.abortCommand, hmode]
    exact State.isOut_of_held_none h (by rw [hmode]; rfl) l

theorem State.mode_ne_locked_of_round {r : Round} (h : s.round = some r) : s.mode ≠ .locked := by
  obtain ⟨p, e, hmode⟩ | hmode := State.round_eq_some_iff.mp h <;> rw [hmode] <;> exact nofun

theorem State.lockout_aborted (s : State) (r : Round) : (s.aborted r).lockout = s.lockout :=
  s.touches_aborted r .lockout (by decide)

theorem State.legsSound_aborted {r : Round} {m : Mode} (h : s.legsSound = true) (hround : s.round = some r) (hm : m.resting) :
    ((s.aborted r).withMode m).legsSound = true := by
  refine State.legsSound_of_through (fun l => State.isOut_aborted h hround l) ?_
  have hlockout : ((s.aborted r).withMode m).lockout = false :=
    (s.lockout_aborted r).trans (State.lockout_of_not_locked h (State.mode_ne_locked_of_round hround))
  rw [hlockout]
  exact ⟨nofun, fun hlocked => absurd hlocked (Mode.heldLeg_of_resting hm).2⟩

/-- A visit that the round goes on to: no leg out, or the one that its SETTLE_IN holds. -/
theorem State.legsSound_nextVisit (legs : List Leg) (r : Round) (hin : ∀ l, s.isOut l = false) (hlockout : s.lockout = false) :
    (s.nextVisit r legs).legsSound = true := by
  induction legs generalizing r with
  | nil => exact State.legsSound_of_through hin (by rw [State.nextVisit, State.withMode_lockout, hlockout]; simp)
  | cons l legs ih =>
    unfold State.nextVisit
    split
    · split
      · exact ih _
      · refine (State.legsSound_iff _).mpr ⟨fun k hk => ?_, ?_⟩
        · by_contra hne
          have hkl : k ≠ l := fun h => hne (by rw [h]; rfl)
          have hcharged : (((s.charge l r.snap.visitCost).command l r.snap.depth.position r.snap.guardLength).withMode
              (.active (r.mark l .visited) (.settleIn l) 0)).switch k = s.switch k :=
            (State.switch_command_ne _ _ _ hkl).trans (s.switch_setSwitch_ne _ hkl)
          rw [State.isOut, hcharged, ← State.isOut, hin k] at hk
          exact Bool.false_ne_true hk
        · have hkept : (((s.charge l r.snap.visitCost).command l r.snap.depth.position r.snap.guardLength).withMode
              (.active (r.mark l .visited) (.settleIn l) 0)).lockout = s.lockout :=
            State.touches_command _ _ _ _ .lockout (by decide)
          rw [hkept, hlockout]
          simp
    all_goals exact ih _

theorem State.legsSound_retireQuietly (s : State) (n : SlotNo) (h : s.legsSound = true) :
    (s.retireQuietly n).legsSound = true := by
  obtain ⟨hswitches, hmode⟩ | ⟨r, hround, heq⟩ := s.retireQuietly_cases n
  · exact State.legsSound_of_alike h hswitches hmode (s.touches_retireQuietly n .lockout (by decide))
  · have haborted := State.legsSound_aborted (s := s.freeSlot n) h hround Mode.resting_idle
    rw [heq]
    exact State.legsSound_of_alike haborted (State.switches_startTestIfIdle _) (State.alike_startTestIfIdle _)
      (State.touches_startTestIfIdle _ .lockout (by decide))

end Legs

/-- The fields that `State.legsSound` reads. -/
theorem State.legsSound_congr (s t : State) (hsame : ∀ f ∈ [Field.switches, .mode, .lockout], s.sameAt t f)
    (hs : s.legsSound = true) : t.legsSound = true :=
  State.legsSound_of_alike hs (hsame .switches (by decide)) (.inl (hsame .mode (by decide))) (hsame .lockout (by decide))

theorem State.quietlyKept_legsSound : State.QuietlyKept fun s => s.legsSound = true where
  congr s t ht := State.legsSound_congr s t fun f hf => ht f (by revert f; decide)
  quiet s n := s.legsSound_retireQuietly n

section SequencerSteps
variable {s : State} (h : s.legsSound = true)
include h

/-- The leg that a step or a hold has held returns to THROUGH, and the sequencer goes on. -/
theorem State.legsSound_returned {l : Leg} {m : Mode} (guard : Nat) (hheld : s.mode.heldLeg = some l)
    (hlocked : m ≠ .locked) : ((s.command l .through guard).withMode m).legsSound = true := by
  have hnot : s.mode ≠ .locked := fun hmode => by rw [hmode] at hheld; exact nomatch hheld
  have hlockout : ((s.command l .through guard).withMode m).lockout = s.lockout :=
    s.touches_command l .through guard .lockout (by decide)
  refine State.legsSound_of_through (fun k => Bool.eq_false_iff.mpr fun hk => ?_) ?_
  · obtain ⟨hne, hout⟩ := (s.isOut_command_through l k guard).mp hk
    exact hne (Option.some.inj ((((State.legsSound_iff s).mp h).1 k hout).symm.trans hheld))
  · rw [hlockout, State.lockout_of_not_locked h hnot]
    exact ⟨nofun, fun hl => absurd hl hlocked⟩

theorem State.legsSound_startRound (hdue : s.roundStartDue = true) : s.startRound.legsSound = true := by
  have hidle : s.mode = .idle := by
    unfold State.roundStartDue at hdue
    split at hdue
    · assumption
    all_goals exact absurd hdue nofun
  have hswitches : s.startRound.switches = s.switches := s.touches_startRound .switches (by decide)
  have hmode : s.startRound.mode.heldLeg = none ∧ s.startRound.mode ≠ .locked := by
    unfold State.startRound
    split
    · exact Mode.heldLeg_of_resting (.inl hidle)
    · exact ⟨rfl, nofun⟩
  refine State.legsSound_of_same h (fun l hl => by rwa [State.isOut, State.switch, hswitches] at hl) ?_ ?_
    (s.touches_startRound .lockout (by decide))
  · rw [hmode.1, hidle]
    rfl
  · rw [hidle]
    exact ⟨fun hl => absurd hl hmode.2, nofun⟩

theorem State.legsSound_evaluateRound {r : Round} (hmode : s.mode = .closing r) : s.evaluateRound.legsSound = true := by
  have hswitches : s.evaluateRound.switches = s.switches := s.touches_evaluateRound .switches (by decide)
  have hlockout : s.evaluateRound.lockout = s.lockout := s.touches_evaluateRound .lockout (by decide)
  have hnot : s.evaluateRound.mode ≠ .locked := by
    simp only [State.evaluateRound, hmode]
    exact fun hl => absurd ((State.alike_startTestIfIdle _).locked_iff.mp hl) nofun
  refine State.legsSound_of_through (fun l => ?_) ?_
  · rw [State.isOut, State.switch, hswitches]
    exact State.isOut_of_held_none h (by rw [hmode]; rfl) l
  · rw [hlockout, State.lockout_of_not_locked h (by rw [hmode]; exact nofun)]
    exact ⟨nofun, fun hl => absurd hl hnot⟩

theorem State.legsSound_beginHold {l : Leg} (d : Depth) (o : Origin)
    (hmode : s.mode.resting ∨ ∃ c k, s.mode = .manual l c k) : (s.beginHold l d o).legsSound = true := by
  have hlocked : s.mode ≠ .locked := by
    obtain hrest | ⟨c, p, hmanual⟩ := hmode
    · exact (Mode.heldLeg_of_resting hrest).2
    · rw [hmanual]
      exact nofun
  have hlockout : (s.beginHold l d o).lockout = s.lockout := s.touches_command l d.position s.guardNow .lockout (by decide)
  refine (State.legsSound_iff _).mpr ⟨fun k hk => ?_, ?_⟩
  · by_cases hkl : k = l
    · rw [hkl]
      rfl
    · have hswitch : (s.beginHold l d o).switch k = s.switch k := s.switch_command_ne _ _ hkl
      rw [State.isOut, hswitch] at hk
      have hheld := ((State.legsSound_iff s).mp h).1 k hk
      obtain hrest | ⟨c, p, hmanual⟩ := hmode
      · exact absurd ((Mode.heldLeg_of_resting hrest).1.symm.trans hheld) nofun
      · rw [hmanual] at hheld
        exact absurd (Option.some.inj hheld).symm hkl
  · rw [hlockout, State.lockout_of_not_locked h hlocked]
    exact ⟨nofun, nofun⟩

theorem State.legsSound_withRound {r : Round} (r' : Round) (hround : s.round = some r) :
    (s.withRound r').legsSound = true := by
  obtain ⟨p, e, hmode⟩ | hmode := State.round_eq_some_iff.mp hround <;> rw [State.withRound, hmode] <;>
    refine State.legsSound_of_same h (fun l hl => hl) ?_ ?_ rfl <;> rw [hmode]
  · cases p <;> rfl
  · exact ⟨nofun, nofun⟩
  · rfl
  · exact ⟨nofun, nofun⟩

end SequencerSteps

/-- A lockout commands every leg THROUGH before the sequencer is LOCKED. -/
theorem State.legsSound_locked (s : State) (guard : Nat) :
    ((s.withLockout true).allThrough guard).enterLocked.legsSound = true := by
  have hthrough := (s.withLockout true).isOut_allThrough guard
  have hlockout : ((s.withLockout true).allThrough guard).lockout = true :=
    State.touches_allThrough (s.withLockout true) guard .lockout (by decide)
  generalize (s.withLockout true).allThrough guard = u at hthrough hlockout
  refine State.legsSound_of_through (fun l => ?_) ?_
  · have hcommand (k : Leg) (g : Nat) : (u.command k .through g).isOut l = false :=
      Bool.eq_false_iff.mpr fun hout =>
        absurd ((hthrough l).symm.trans ((u.isOut_command_through k l g).mp hout).2) Bool.false_ne_true
    have habort : u.abortCommand.isOut l = false := by
      unfold State.abortCommand
      split
      · exact hcommand _ _
      · exact hcommand _ _
      all_goals exact hthrough l
    unfold State.enterLocked
    split
    · rename_i r _
      have hswitches : (u.abortCommand.requeue r.record).switches = u.abortCommand.switches := State.switches_requeue _ _
      rw [State.isOut, State.switch, State.withMode_switches, hswitches]
      exact habort
    · exact hthrough l
  · have hkept : u.enterLocked.lockout = u.lockout := u.touches_enterLocked .lockout (by decide)
    rw [hkept, hlockout, State.mode_enterLocked]
    simp

theorem State.legsSound_unlocked {s : State} (h : s.legsSound = true) (hlockout : s.lockout = true) :
    ((s.clearLatches.withLockout false).withMode .idle).legsSound = true := by
  have hlocked := ((State.legsSound_iff s).mp h).2.mp hlockout
  refine State.legsSound_of_through (fun l => ?_) ⟨nofun, nofun⟩
  have hin := State.isOut_of_held_none h (by rw [hlocked]; rfl) l
  rw [State.isOut] at hin ⊢
  simpa [State.clearLatches, State.switch] using hin

theorem Event.keeps_legsSound (fs : List Field) (s t : State) (hev : Event fs s t)
    (hreads : ¬ ∀ f ∈ [Field.switches, .mode, .lockout], f ∉ fs) (h : s.legsSound = true) : t.legsSound = true := by
  have hcommand {t : State} (hswitch : ∀ l, (t.switch l).commanded = (s.switch l).commanded) (hmode : t.mode = s.mode)
      (hlockout : t.lockout = s.lockout) : t.legsSound = true :=
    State.legsSound_of_same h (fun l hl => by rwa [State.isOut, hswitch] at hl) (by rw [hmode]) (by rw [hmode]) hlockout
  have hsetSwitch (l : Leg) (x : LegSwitch) (hx : x.commanded = (s.switch l).commanded) :
      (s.setSwitch l x).legsSound = true := by
    refine hcommand (fun k => ?_) rfl rfl
    by_cases hk : k = l
    · subst hk
      rw [State.switch_setSwitch_self, hx]
    · rw [s.switch_setSwitch_ne _ hk]
  cases hev with
  | powerOn => exact show State.reset.legsSound = true by decide
  | windowStarted => exact hcommand (fun l => by simp [State.switch]) rfl rfl
  | rested _ m hs hm =>
    obtain ⟨hheld, hlocked⟩ := Mode.heldLeg_of_resting hs
    obtain ⟨hheld', hlocked'⟩ := Mode.heldLeg_of_resting hm
    exact State.legsSound_of_same h (fun l hl => hl) (hheld'.trans hheld.symm)
      ⟨fun hl => absurd hl hlocked', fun hl => absurd hl hlocked⟩ rfl
  | stepped _ r p p' e e' hmode hheld =>
    refine State.legsSound_of_same h (fun l hl => hl) ?_ ?_ rfl
    · rw [hmode]
      exact hheld.symm
    · rw [hmode]
      exact ⟨nofun, nofun⟩
  | rounded _ r r' hround => exact State.legsSound_withRound h r' hround
  | visited _ r p e legs hmode hheld =>
    exact State.legsSound_nextVisit legs r (State.isOut_of_held_none h hheld)
      (State.lockout_of_not_locked h (by rw [hmode]; exact nofun))
  | legReturned _ r l e guard hmode => exact State.legsSound_returned h guard (by rw [hmode]; rfl) nofun
  | holdEnded _ l d o guard m hmode hm =>
    exact State.legsSound_returned h guard (by rw [hmode]; rfl) (Mode.heldLeg_of_resting hm).2
  | roundStarted _ hdue => exact State.legsSound_startRound h hdue
  | roundEvaluated _ r hmode => exact State.legsSound_evaluateRound h hmode
  | roundAborted _ r m hround hm => exact State.legsSound_aborted h hround hm
  | holdBegun _ l d o hmode => exact State.legsSound_beginHold h d o hmode
  | holdCharged _ l | latched _ l | unsettled _ l => exact hsetSwitch l _ rfl
  | locked _ guard => exact s.legsSound_locked guard
  | unlocked _ hlockout => exact State.legsSound_unlocked h hlockout
  | sampled _ sense =>
    exact hcommand (fun l => by simp [State.sampleLegs, State.switch, LegSwitch.sample, LegSwitch.countSettle]) rfl rfl
  | safetyStored _ c => exact hcommand (fun l => by rw [State.switch_storeSafety]) rfl rfl
  | activated _ g => exact State.quietlyKept_legsSound.activate g h
  | retired _ n => exact State.quietlyKept_legsSound.retire n h
  | merged _ na nb a b ea eb => exact State.quietlyKept_legsSound.merge na nb a b ea eb h
  | ingressFed _ n r g excess streak second =>
    exact State.legsSound_of_alike h (s.touches_feedIngress _ _ _ _ .switches (by decide)) (s.alike_feedIngress _ _ _ _)
      (s.touches_feedIngress _ _ _ _ .lockout (by decide))
  | ingressOpened _ b excess streak second =>
    exact State.legsSound_of_alike h (s.touches_openIngress _ _ _ _ .switches (by decide)) (s.alike_openIngress _ _ _ _)
      (s.touches_openIngress _ _ _ _ .lockout (by decide))
  | reprobed _ n r g =>
    exact State.legsSound_of_alike h (s.touches_reprobe _ _ _ .switches (by decide)) (s.alike_reprobe _ _ _)
      (s.touches_reprobe _ _ _ .lockout (by decide))
  | _ => exact absurd (by decide) hreads

/-- Settles O54: every single change keeps the legs sound, and the sequencer holds at most one leg. -/
theorem atMostOneLegIsOut : Obligations.AtMostOneLegIsOut := by
  unfold Obligations.AtMostOneLegIsOut
  intro s t hs hstep
  have ht : t.legsSound = true :=
    step_keeps [.switches, .mode, .lockout] State.legsSound_congr Event.keeps_legsSound (by decide) hstep hs
  refine ⟨ht, fun k l hk hl => ?_⟩
  have hheld := ((State.legsSound_iff t).mp ht).1
  exact Option.some.inj ((hheld k hk).symm.trans (hheld l hl))

end Machine
end Sys2Proof
end

section
/-! Proofs, family 11, seventh part: the charges, the settings and the clock, the report queue, the bands and the link stay
sound. -/

namespace Sys2Proof
namespace Machine

open State (Event)

/-! ### The charges (R157 to R159) -/

theorem State.chargesSound_iff (s : State) : s.chargesSound = true ↔ ∀ l, (s.switch l).charge ≤ s.allowance l := by
  simp only [State.chargesSound, all_allLegs, decide_eq_true_eq]

section Charges
variable {s t : State}

theorem State.chargesSound_of_le (h : s.chargesSound = true) (hcharge : ∀ l, (t.switch l).charge ≤ (s.switch l).charge)
    (hsafety : t.safety = s.safety) : t.chargesSound = true := by
  rw [State.chargesSound_iff] at h ⊢
  intro l
  rw [State.allowance, hsafety]
  exact (hcharge l).trans (h l)

theorem State.chargesSound_of_moved (h : s.chargesSound = true) (hmoved : s.SequencerMoved t) : t.chargesSound = true :=
  State.chargesSound_of_le h (fun l => ((hmoved.switch l).1).le) hmoved.kept.1

theorem State.chargesSound_congr (s t : State) (hsame : ∀ f ∈ [Field.switches, .safety], s.sameAt t f)
    (h : s.chargesSound = true) : t.chargesSound = true := by
  have hswitches : t.switches = s.switches := hsame .switches (by decide)
  exact State.chargesSound_of_le h (fun l => by rw [State.switch, State.switch, hswitches]) (hsame .safety (by decide))

theorem State.SequencerMoved.of_leaveQueue (s : State) (name : RecordName) : s.SequencerMoved (s.leaveQueue name) := by
  unfold State.leaveQueue
  dsimp only
  split
  · split
    · exact (State.SequencerMoved.of_withWaitQueue s _).trans (.of_startTest _)
    all_goals exact .of_withWaitQueue s _
  · exact .of_withWaitQueue s _

theorem State.SequencerMoved.of_retireQuietly (s : State) (n : SlotNo) : s.SequencerMoved (s.retireQuietly n) := by
  unfold State.retireQuietly
  split
  · exact .refl s
  · refine (State.SequencerMoved.of_setSlot s n { gen := (s.slot n).gen, changed := true, record := none }).trans ?_
    unfold State.afterRetirement
    split
    · split
      · exact .refl _
      · split
        · exact .of_abortRound _ _
        · exact .refl _
    · exact .of_leaveQueue _ _
    all_goals exact .refl _

theorem State.quietlyKept_chargesSound : State.QuietlyKept fun s => s.chargesSound = true where
  congr s t ht := State.chargesSound_congr s t fun f hf => ht f (by revert f; decide)
  quiet s n hs := State.chargesSound_of_moved hs (.of_retireQuietly s n)

/-- A visit is charged only where the allowance has room for its cost (R158). -/
theorem State.chargesSound_nextVisit (legs : List Leg) (r : Round) (h : s.chargesSound = true) :
    (s.nextVisit r legs).chargesSound = true := by
  induction legs generalizing r with
  | nil => exact h
  | cons l legs ih =>
    unfold State.nextVisit
    split
    · split
      · exact ih _
      · rename_i hrefused
        have hcost : (s.switch l).charge + r.snap.visitCost ≤ s.allowance l := by
          simp only [State.visitRefused, Bool.or_eq_true, decide_eq_true_eq, not_or] at hrefused
          exact Nat.not_lt.mp hrefused.2
        have hcharged : (s.charge l r.snap.visitCost).chargesSound = true := by
          rw [State.chargesSound_iff] at h ⊢
          intro k
          by_cases hk : k = l
          · subst hk
            rw [State.charge, State.switch_setSwitch_self]
            exact hcost
          · rw [State.charge, s.switch_setSwitch_ne _ hk]
            exact h k
        exact State.chargesSound_of_moved hcharged ((State.SequencerMoved.of_command _ _ _ _).trans (.of_withMode _ _))
    all_goals exact ih _

theorem State.SequencerMoved.of_allThrough (s : State) (guard : Nat) : s.SequencerMoved (s.allThrough guard) := by
  unfold State.allThrough
  generalize allLegs = legs
  induction legs generalizing s with
  | nil => exact .refl s
  | cons l legs ih => exact (State.SequencerMoved.of_command s l _ _).trans (ih _)

theorem State.SequencerMoved.of_enterLocked (s : State) : s.SequencerMoved s.enterLocked := by
  unfold State.enterLocked
  split
  · exact (State.SequencerMoved.of_aborted s _).trans (.of_withMode _ _)
  · exact .of_withMode s _

end Charges

theorem Event.keeps_chargesSound (fs : List Field) (s t : State) (hev : Event fs s t)
    (hreads : ¬ ∀ f ∈ [Field.switches, .safety], f ∉ fs) (h : s.chargesSound = true) : t.chargesSound = true := by
  have hiff := (State.chargesSound_iff s).mp h
  have hsetSwitch (l : Leg) (x : LegSwitch) (hx : x.charge ≤ s.allowance l) : (s.setSwitch l x).chargesSound = true := by
    refine (State.chargesSound_iff _).mpr fun k => ?_
    by_cases hk : k = l
    · subst hk
      rw [State.switch_setSwitch_self]
      exact hx
    · rw [s.switch_setSwitch_ne _ hk]
      exact hiff k
  cases hev with
  | powerOn => exact show State.reset.chargesSound = true by decide
  | windowStarted =>
    refine State.chargesSound_of_le h (fun l => ?_) rfl
    simp only [State.switch, State.withSwitches_switches, PerLeg.get_ofFn]
    obtain hzero | ⟨-, -, hone⟩ := s.chargeAfterWindow_cases l
    · rw [hzero]
      exact Nat.zero_le _
    · rw [hone]
      exact Nat.min_le_right _ _
  | visited _ r p e legs => exact State.chargesSound_nextVisit legs r h
  | legReturned | holdBegun | holdEnded =>
    exact State.chargesSound_of_moved h ((State.SequencerMoved.of_command s _ _ _).trans (.of_withMode _ _))
  | roundAborted _ r m =>
    exact State.chargesSound_of_moved h ((State.SequencerMoved.of_aborted s r).trans (.of_withMode _ _))
  | holdCharged _ l hcharge => exact hsetSwitch l _ hcharge
  | latched _ l | unsettled _ l => exact hsetSwitch l _ (hiff l)
  | locked _ guard =>
    exact State.chargesSound_of_moved (s := s.withLockout true) h
      ((State.SequencerMoved.of_allThrough _ guard).trans (.of_enterLocked _))
  | unlocked => exact State.chargesSound_of_le h (fun l => by simp [State.clearLatches, State.switch]) rfl
  | sampled _ sense =>
    exact State.chargesSound_of_le h
      (fun l => by simp [State.sampleLegs, State.switch, LegSwitch.sample, LegSwitch.countSettle]) rfl
  | safetyStored _ c =>
    refine (State.chargesSound_iff _).mpr fun l => ?_
    rw [State.switch_storeSafety]
    exact Nat.zero_le _
  | activated _ g => exact State.quietlyKept_chargesSound.activate g h
  | retired _ n => exact State.quietlyKept_chargesSound.retire n h
  | merged _ na nb a b ea eb => exact State.quietlyKept_chargesSound.merge na nb a b ea eb h
  | _ => exact absurd (by decide) hreads

/-- Settles O55: a charge grows by a visit that its allowance has room for, or by a millisecond of a hold below it. -/
theorem chargesStayWithinTheAllowance : Obligations.ChargesStayWithinTheAllowance := by
  unfold Obligations.ChargesStayWithinTheAllowance
  intro s t hs hstep
  exact (State.chargesSound_iff t).mp
    (step_keeps [.switches, .safety] State.chargesSound_congr Event.keeps_chargesSound (by decide) hstep hs)

/-! ### The settings and what a round has latched (R122, R128, R160) -/

theorem Snapshot.inRange_iff (c : Snapshot) :
    c.inRange = true ↔
      19 ≤ c.dwell ∧ c.dwell ≤ 999 ∧ 1 ≤ c.guard ∧ c.guard ≤ 49 ∧ 4 ≤ c.dropHigh ∧ c.dropHigh ≤ 80 ∧
        c.dropLow < c.dropHigh ∧ 1 ≤ c.minSamples ∧ c.minSamples ≤ 16 ∧
        ((c.depth = .atten ∧ c.maxIsolateDwell = none) ∨
          (c.depth = .isolate ∧ ∃ most, c.maxIsolateDwell = some most ∧ 20 ≤ most ∧ most ≤ 1000)) := by
  simp only [Snapshot.inRange, Bool.and_eq_true, decide_eq_true_eq, and_assoc]
  cases c.depth <;> cases c.maxIsolateDwell <;> simp

theorem State.settingsSound_iff (s : State) :
    s.settingsSound = true ↔
      s.settings.inRange = true ∧ s.safety.inRange = true ∧ ∀ r, s.round = some r → r.snap.inRange = true := by
  simp only [State.settingsSound, Bool.and_eq_true, and_assoc]
  cases s.round <;> simp

section Settings
variable {s t : State}

/-- The round in progress, if any, is one with values latched before. -/
def State.SnapKept (s t : State) : Prop := ∀ r, t.round = some r → ∃ old, s.round = some old ∧ r.snap = old.snap

theorem State.SnapKept.of_none (h : t.round = none) : s.SnapKept t := fun _ hr => absurd (h.symm.trans hr) nofun

theorem State.SnapKept.of_eq (h : t.round = s.round) : s.SnapKept t := fun r hr => ⟨r, h.symm.trans hr, rfl⟩

theorem State.settingsSound_of_snapKept (h : s.settingsSound = true) (hsettings : t.settings = s.settings)
    (hsafety : t.safety = s.safety) (hsnap : s.SnapKept t) : t.settingsSound = true := by
  rw [State.settingsSound_iff] at h ⊢
  obtain ⟨hset, hsafe, hround⟩ := h
  refine ⟨hsettings ▸ hset, hsafety ▸ hsafe, fun r hr => ?_⟩
  obtain ⟨old, hold, hsame⟩ := hsnap r hr
  exact hsame ▸ hround old hold

theorem State.settingsSound_congr (s t : State) (hsame : ∀ f ∈ [Field.settings, .safety, .mode], s.sameAt t f)
    (h : s.settingsSound = true) : t.settingsSound = true := by
  have hmode : t.mode = s.mode := hsame .mode (by decide)
  exact State.settingsSound_of_snapKept h (hsame .settings (by decide)) (hsame .safety (by decide))
    (.of_eq (State.round_of_alike (.inl hmode)))

theorem Mode.round_none_of_resting {m : Mode} (hm : m.resting) (s : State) : (s.withMode m).round = none := by
  obtain rfl | rfl | rfl := hm <;> rfl

theorem State.round_nextVisit (legs : List Leg) (r : Round) (s : State) :
    ∃ r', (s.nextVisit r legs).round = some r' ∧ r'.snap = r.snap ∧ r'.record = r.record := by
  induction legs generalizing r with
  | nil => exact ⟨r, rfl, rfl, rfl⟩
  | cons l legs ih =>
    unfold State.nextVisit
    split
    · split
      · exact ih (r.mark l .skipped)
      · exact ⟨r.mark l .visited, rfl, rfl, rfl⟩
    all_goals exact ih r

theorem State.round_retireQuietly (s : State) (n : SlotNo) :
    (s.retireQuietly n).round = s.round ∨ (s.retireQuietly n).round = none := by
  obtain ⟨-, hmode⟩ | ⟨r, hround, heq⟩ := s.retireQuietly_cases n
  · exact .inl (State.round_of_alike hmode)
  · rw [heq]
    exact .inr ((State.round_of_alike (State.alike_startTestIfIdle _)).trans rfl)

theorem State.quietlyKept_settingsSound : State.QuietlyKept fun s => s.settingsSound = true where
  congr s t ht := State.settingsSound_congr s t fun f hf => ht f (by revert f; decide)
  quiet s n hs := by
    refine State.settingsSound_of_snapKept hs (s.touches_retireQuietly n .settings (by decide))
      (s.touches_retireQuietly n .safety (by decide)) ?_
    obtain hsame | hnone := s.round_retireQuietly n
    · exact .of_eq hsame
    · exact .of_none hnone

/-- The values that a round started now would latch lie in range (R128). -/
theorem State.snapshotNow_inRange (hsettings : s.settings.inRange = true) (hsafety : s.safety.inRange = true) :
    s.snapshotNow.inRange = true := by
  rw [Settings.inRange_iff] at hsettings
  rw [Safety.inRange_iff] at hsafety
  rw [Snapshot.inRange_iff]
  obtain ⟨-, -, hlow, hhigh⟩ := hsafety.2
  have hdepth : (s.snapshotNow.depth = .atten ∧ s.snapshotNow.maxIsolateDwell = none) ∨
      (s.snapshotNow.depth = .isolate ∧ s.snapshotNow.maxIsolateDwell = some s.safety.maxIsolateDwell) := by
    simp only [State.snapshotNow]
    split <;> simp
  have hvalues : s.snapshotNow.dwell = s.settings.dwell ∧ s.snapshotNow.guard = s.settings.guard ∧
      s.snapshotNow.dropHigh = s.settings.dropHigh ∧ s.snapshotNow.dropLow = s.settings.dropLow ∧
      s.snapshotNow.minSamples = s.settings.minSamples := ⟨rfl, rfl, rfl, rfl, rfl⟩
  obtain ⟨hdwell, hguard, hdropHigh, hdropLow, hsamples⟩ := hvalues
  rw [hdwell, hguard, hdropHigh, hdropLow, hsamples]
  refine ⟨by omega, by omega, by omega, by omega, by omega, by omega, by omega, by omega, by omega, ?_⟩
  obtain hatten | ⟨hisolate, hmost⟩ := hdepth
  · exact .inl hatten
  · exact .inr ⟨hisolate, _, hmost, hlow, hhigh⟩

theorem State.settingsSound_startRound (h : s.settingsSound = true) : s.startRound.settingsSound = true := by
  obtain ⟨hsettings, hsafety, hround⟩ := (State.settingsSound_iff s).mp h
  have hsettings' : s.startRound.settings = s.settings := s.touches_startRound .settings (by decide)
  have hsafety' : s.startRound.safety = s.safety := s.touches_startRound .safety (by decide)
  rw [State.settingsSound_iff, hsettings', hsafety']
  refine ⟨hsettings, hsafety, fun r hr => ?_⟩
  unfold State.startRound at hr
  split at hr
  · exact hround r hr
  · obtain rfl := Option.some.inj hr
    exact State.snapshotNow_inRange hsettings hsafety

end Settings

theorem Event.keeps_settingsSound (fs : List Field) (s t : State) (hev : Event fs s t)
    (hreads : ¬ ∀ f ∈ [Field.settings, .safety, .mode], f ∉ fs) (h : s.settingsSound = true) : t.settingsSound = true := by
  obtain ⟨hsettings, hsafety, hround⟩ := (State.settingsSound_iff s).mp h
  have hsnap {t : State} (htouches : s.Touches [.table, .waitQueue, .switches, .mode, .flags, .lockout, .confirmedNow] t)
      (hkept : s.SnapKept t) : t.settingsSound = true :=
    State.settingsSound_of_snapKept h (htouches .settings (by decide)) (htouches .safety (by decide)) hkept
  have htouches := hev.touches
  cases hev with
  | powerOn => exact show State.reset.settingsSound = true by decide
  | rested _ m hs hm => exact hsnap htouches.mono (.of_none (Mode.round_none_of_resting hm s))
  | stepped _ r p p' e e' hmode =>
    refine hsnap htouches.mono fun r' hr' => ⟨r, ?_, ?_⟩
    · rw [State.round, hmode]
    · rw [← Option.some.inj hr']
  | rounded _ r r' hr hrecord hsame =>
    refine hsnap htouches.mono fun q hq => ⟨r, hr, ?_⟩
    have hnew : (s.withRound r').round = some r' := by
      unfold State.withRound
      split <;> rfl
    rw [← Option.some.inj (hnew.symm.trans hq), hsame]
  | visited _ r p e legs hmode =>
    obtain ⟨r', hr', hsame, -⟩ := State.round_nextVisit legs r s
    refine hsnap htouches.mono fun q hq => ⟨r, ?_, ?_⟩
    · rw [State.round, hmode]
    · rw [← Option.some.inj (hr'.symm.trans hq), hsame]
  | legReturned _ r l e guard hmode =>
    refine hsnap htouches.mono fun q hq => ⟨r, ?_, ?_⟩
    · rw [State.round, hmode]
    · rw [← Option.some.inj hq]
  | roundStarted => exact State.settingsSound_startRound h
  | roundEvaluated _ r hmode =>
    refine hsnap htouches.mono (.of_none ?_)
    simp only [State.evaluateRound, hmode]
    exact (State.round_of_alike (State.alike_startTestIfIdle _)).trans rfl
  | roundAborted _ r m hr hm => exact hsnap htouches.mono (.of_none (Mode.round_none_of_resting hm _))
  | holdBegun => exact hsnap htouches.mono (.of_none rfl)
  | holdEnded _ l d o guard m hmode hm => exact hsnap htouches.mono (.of_none (Mode.round_none_of_resting hm _))
  | locked => exact hsnap htouches.mono (.of_none (by rw [State.round, State.mode_enterLocked]))
  | unlocked => exact hsnap htouches.mono (.of_none rfl)
  | settingsStored _ c hc => exact (State.settingsSound_iff _).mpr ⟨hc, hsafety, hround⟩
  | safetyStored _ c hc => exact (State.settingsSound_iff _).mpr ⟨hsettings, hc, hround⟩
  | activated _ g => exact State.quietlyKept_settingsSound.activate g h
  | retired _ n => exact State.quietlyKept_settingsSound.retire n h
  | merged _ na nb a b ea eb => exact State.quietlyKept_settingsSound.merge na nb a b ea eb h
  | ingressFed => exact hsnap htouches.mono (.of_eq (State.round_of_alike (s.alike_feedIngress _ _ _ _)))
  | ingressOpened => exact hsnap htouches.mono (.of_eq (State.round_of_alike (s.alike_openIngress _ _ _ _)))
  | reprobed => exact hsnap htouches.mono (.of_eq (State.round_of_alike (s.alike_reprobe _ _ _)))
  | _ => exact absurd (by decide) hreads

/-! ### The counts of the Plant Clock (R29 to R32) -/

theorem State.clockSound_iff (s : State) :
    s.clockSound = true ↔
      s.clock.ms ≤ 1000 ∧ s.clock.agingCount ≤ agingInterval s.settings.agingCode ∧
        s.clock.windowCount ≤ s.safety.budgetWindow ∧
        (s.clock.ms = 0 ∨
          (s.clock.agingCount < agingInterval s.settings.agingCode ∧ s.clock.windowCount < s.safety.budgetWindow)) := by
  simp only [State.clockSound, Bool.and_eq_true, Bool.or_eq_true, decide_eq_true_eq, beq_iff_eq, and_assoc]

theorem State.clockSound_congr (s t : State) (hsame : ∀ f ∈ [Field.clock, .settings, .safety], s.sameAt t f)
    (h : s.clockSound = true) : t.clockSound = true := by
  have hclock : t.clock = s.clock := hsame .clock (by decide)
  have hsettings : t.settings = s.settings := hsame .settings (by decide)
  have hsafety : t.safety = s.safety := hsame .safety (by decide)
  rw [State.clockSound_iff] at h ⊢
  rwa [hclock, hsettings, hsafety]

theorem Event.keeps_clockSound (fs : List Field) (s t : State) (hev : Event fs s t)
    (hreads : ¬ ∀ f ∈ [Field.clock, .settings, .safety], f ∉ fs) (hset : s.settingsSound = true) (h : s.clockSound = true) :
    t.clockSound = true := by
  obtain ⟨-, hsafety, -⟩ := (State.settingsSound_iff s).mp hset
  have hbudget : 10 ≤ s.safety.budgetWindow := ((Safety.inRange_iff _).mp hsafety).1
  have hinterval := agingInterval_pos s.settings.agingCode
  obtain ⟨hms, haging, hwindow, hstrict⟩ := (State.clockSound_iff s).mp h
  cases hev with
  | powerOn => exact show State.reset.clockSound = true by decide
  | ticked _ hsecond hagingDue hwindowDue =>
    have hms' : s.clock.ms < 1000 := by simpa [State.secondDue] using hsecond
    have haging' : s.clock.agingCount < agingInterval s.settings.agingCode := by simpa [State.agingDue] using hagingDue
    have hwindow' : s.clock.windowCount < s.safety.budgetWindow := by
      by_contra hreached
      have := hwindowDue (decide_eq_true (Nat.not_lt.mp hreached))
      omega
    exact (State.clockSound_iff _).mpr ⟨hms', haging, hwindow, .inr ⟨haging', hwindow'⟩⟩
  | secondTicked _ hdue =>
    have hms' : 1000 ≤ s.clock.ms := by simpa [State.secondDue] using hdue
    obtain hzero | ⟨haging', hwindow'⟩ := hstrict
    · omega
    · exact (State.clockSound_iff _).mpr ⟨Nat.zero_le _, haging', hwindow', .inl rfl⟩
  | agingCounted =>
    exact (State.clockSound_iff _).mpr
      ⟨hms, Nat.zero_le _, hwindow, hstrict.imp_right fun hlt => ⟨hinterval, hlt.2⟩⟩
  | windowStarted =>
    exact (State.clockSound_iff _).mpr
      ⟨hms, haging, Nat.zero_le _, hstrict.imp_right fun hlt => ⟨hlt.1, Nat.lt_of_lt_of_le (Nat.succ_pos 9) hbudget⟩⟩
  | clockSet => exact h
  | settingsStored _ c hc =>
    have hcode : ((s.withSettings c).withClock
        (if c.agingCode = s.settings.agingCode then s.clock else { s.clock with agingCount := 0 })).settings = c := rfl
    rw [State.clockSound_iff, hcode, State.withClock_clock]
    split
    · rename_i hsame
      rw [hsame]
      exact ⟨hms, haging, hwindow, hstrict⟩
    · exact ⟨hms, Nat.zero_le _, hwindow, hstrict.imp_right fun hlt => ⟨agingInterval_pos _, hlt.2⟩⟩
  | safetyStored _ c hc =>
    have hbudget' : 10 ≤ c.budgetWindow := ((Safety.inRange_iff _).mp hc).1
    exact (State.clockSound_iff _).mpr
      ⟨hms, haging, Nat.zero_le _, hstrict.imp_right fun hlt => ⟨hlt.1, Nat.lt_of_lt_of_le (Nat.succ_pos 9) hbudget'⟩⟩
  | _ => exact absurd (by decide) hreads

/-- The settings and the clock together: the clock's limits rest on the settings being in range. -/
theorem Event.keeps_settingsSound_clockSound {fs : List Field} {s t : State} (hev : Event fs s t)
    (h : s.settingsSound = true ∧ s.clockSound = true) : t.settingsSound = true ∧ t.clockSound = true := by
  refine ⟨hev.keeps _ State.settingsSound_congr Event.keeps_settingsSound h.1, ?_⟩
  by_cases hreads : ∀ f ∈ [Field.clock, .settings, .safety], f ∉ fs
  · exact State.clockSound_congr s t (fun f hf => hev.touches f (hreads f hf)) h.2
  · exact Event.keeps_clockSound fs s t hev hreads h.1 h.2

/-- Settles O57: what is stored lies in range, a round latches what is in force, and each count stops at its tick. -/
theorem settingsAndClockStaySound : Obligations.SettingsAndClockStaySound := by
  unfold Obligations.SettingsAndClockStaySound
  intro s t hs hstep
  refine ⟨step_keeps [.settings, .safety, .mode] State.settingsSound_congr Event.keeps_settingsSound (by decide) hstep hs,
    fun hclock => ?_⟩
  have hboth := step_keeps (P := fun u => u.settingsSound = true ∧ u.clockSound = true)
    [.clock, .settings, .safety, .mode]
    (fun u v hsame hu => ⟨State.settingsSound_congr u v (fun f hf => hsame f (by revert f; decide)) hu.1,
      State.clockSound_congr u v (fun f hf => hsame f (by revert f; decide)) hu.2⟩)
    (fun fs u v hev _ hu => Event.keeps_settingsSound_clockSound hev hu) (by decide) hstep ⟨hs, hclock⟩
  exact hboth.2

/-! ### The report queue and HOLD (R61, R63) -/

theorem State.queueSound_iff (s : State) :
    s.queueSound = true ↔
      s.queue.length ≤ 64 ∧ (s.hold = true → 49 ≤ s.queue.length) ∧ (s.hold = false → s.queue.length ≤ 55) := by
  cases hhold : s.hold <;> simp [State.queueSound, hhold]

theorem State.queueSound_congr (s t : State) (hsame : ∀ f ∈ [Field.queue, .hold], s.sameAt t f) (h : s.queueSound = true) :
    t.queueSound = true := by
  have hqueue : t.queue = s.queue := hsame .queue (by decide)
  have hhold : t.hold = s.hold := hsame .hold (by decide)
  rw [State.queueSound_iff] at h ⊢
  rwa [hqueue, hhold]

theorem holdAfterArrival_iff (hold : Bool) (n : Nat) : holdAfterArrival hold n = true ↔ hold = true ∨ 56 ≤ n := by
  rw [holdAfterArrival, Bool.or_eq_true, decide_eq_true_iff]
  rfl

theorem Event.keeps_queueSound (fs : List Field) (s t : State) (hev : Event fs s t)
    (hreads : ¬ ∀ f ∈ [Field.queue, .hold], f ∉ fs) (h : s.queueSound = true) : t.queueSound = true := by
  obtain ⟨hlen, hdriven, hreleased⟩ := (State.queueSound_iff s).mp h
  cases hev with
  | powerOn => exact show State.reset.queueSound = true by decide
  | offered _ x =>
    unfold State.offerReport
    split
    · rename_i hroom
      have hroom' : s.queue.length < 64 := hroom
      rw [State.queueSound_iff]
      simp only [State.withHold_queue, State.withQueue_queue, State.withHold_hold, List.length_append, List.length_singleton]
      clear hroom
      refine ⟨hroom', fun hhold => ?_, fun hhold => ?_⟩
      · obtain hhold | hcount := (holdAfterArrival_iff _ _).mp hhold
        · have := hdriven hhold
          omega
        · omega
      · by_contra hmany
        exact absurd ((holdAfterArrival_iff s.hold _).mpr (.inr (by omega))) (Bool.eq_false_iff.mp hhold)
    · exact h
  | queueCleared => exact (State.queueSound_iff _).mpr ⟨Nat.zero_le _, nofun, fun _ => Nat.zero_le _⟩
  | popped _ x rest hqueue =>
    rw [hqueue, List.length_cons] at hlen hdriven hreleased
    rw [State.queueSound_iff]
    simp only [State.popped, State.withHold_queue, State.withQueue_queue, State.withHold_hold, Bool.and_eq_true,
      Bool.and_eq_false_iff, decide_eq_true_eq, decide_eq_false_iff_not]
    refine ⟨by omega, fun hhold => hhold.2, fun hhold => ?_⟩
    obtain hhold | hcount := hhold
    · have := hreleased hhold
      omega
    · omega
  | _ => exact absurd (by decide) hreads

/-! ### The bands (R104) -/

theorem State.bandsSound_iff (s : State) :
    s.bandsSound = true ↔
      ∀ b, (s.band b).streak ≤ 8 ∧ ∀ x, (s.band b).baseline = some x → -240 ≤ x ∧ x ≤ 240 := by
  have hentry (e : BandEntry) :
      (decide (e.streak ≤ 8) && match e.baseline with
        | none => true
        | some x => decide (-240 ≤ x) && decide (x ≤ 240)) = true ↔
      e.streak ≤ 8 ∧ ∀ x, e.baseline = some x → -240 ≤ x ∧ x ≤ 240 := by
    cases e.baseline <;> simp
  unfold State.bandsSound
  rw [List.all_eq_true]
  constructor
  · exact fun h b => (hentry _).mp (h _ (by simp [State.band]))
  · intro h e he
    obtain ⟨i, hi, rfl⟩ := List.mem_iff_getElem.mp he
    have hlt : i < 16 := by simpa using hi
    exact (hentry _).mpr (h ⟨i, hlt⟩)

theorem State.band_setBand_ne (s : State) {b c : Band} (x : BandEntry) (h : c ≠ b) : (s.setBand b x).band c = s.band c := by
  have hv : b.val ≠ c.val := fun e => h (Fin.ext e.symm)
  simp [State.setBand, State.band, Vector.getElem_set_ne, hv]

theorem State.bandsSound_congr (s t : State) (hsame : ∀ f ∈ [Field.bands], s.sameAt t f) (h : s.bandsSound = true) :
    t.bandsSound = true := by
  have hbands : t.bands = s.bands := hsame .bands (by decide)
  rwa [State.bandsSound, hbands]

theorem Event.keeps_bandsSound (fs : List Field) (s t : State) (hev : Event fs s t)
    (hreads : ¬ ∀ f ∈ [Field.bands], f ∉ fs) (h : s.bandsSound = true) : t.bandsSound = true := by
  have hiff := (State.bandsSound_iff s).mp h
  cases hev with
  | powerOn => exact show State.reset.bandsSound = true by decide
  | bandSet _ b x hx =>
    obtain ⟨hstreak, v, hv, hrange⟩ := hx
    refine (State.bandsSound_iff _).mpr fun c => ?_
    by_cases hc : c = b
    · subst hc
      rw [State.band_setBand_self, hv]
      refine ⟨hstreak, fun x hx => ?_⟩
      obtain rfl := Option.some.inj hx
      exact hrange fun base hbase => (hiff c).2 base hbase
    · rw [s.band_setBand_ne x hc]
      exact hiff c
  | _ => exact absurd (by decide) hreads

/-! ### The link (R182, R187, R194) -/

theorem State.linkSound_iff (s : State) :
    s.linkSound = true ↔
      ((∀ r, s.link.phase ≠ .ready r) → s.link.frame = none ∧ s.link.reply = none) ∧
        (s.link.frame = none ∨ s.link.reply = none) ∧ (s.resetLine = true → s.link.phase = .measuring) := by
  cases hphase : s.link.phase <;> simp [State.linkSound, hphase, and_assoc]

theorem State.linkSound_congr (s t : State) (hsame : ∀ f ∈ [Field.link, .resetLine], s.sameAt t f) (h : s.linkSound = true) :
    t.linkSound = true := by
  have hlink : t.link = s.link := hsame .link (by decide)
  have hline : t.resetLine = s.resetLine := hsame .resetLine (by decide)
  rwa [State.linkSound, hlink, hline]

/-- A part that receives is READY with no reply in progress (R184, R187). -/
theorem State.receives_iff (s : State) : s.receives = true ↔ (∃ r, s.link.phase = .ready r) ∧ s.link.reply = none := by
  cases hphase : s.link.phase <;> cases hreply : s.link.reply <;> simp [State.receives, hphase, hreply]

theorem Event.keeps_linkSound (fs : List Field) (s t : State) (hev : Event fs s t)
    (hreads : ¬ ∀ f ∈ [Field.link, .resetLine], f ∉ fs) (h : s.linkSound = true) : t.linkSound = true := by
  obtain ⟨hready, hone, hreset⟩ := (State.linkSound_iff s).mp h
  cases hev with
  | powerOn =>
    exact (State.linkSound_iff _).mpr ⟨fun _ => ⟨rfl, rfl⟩, .inl rfl, fun _ => rfl⟩
  | linkReset => exact (State.linkSound_iff _).mpr ⟨fun _ => ⟨rfl, rfl⟩, .inl rfl, fun _ => rfl⟩
  | frameDropped => exact (State.linkSound_iff _).mpr ⟨fun hp => ⟨rfl, (hready hp).2⟩, .inl rfl, hreset⟩
  | frameGrown _ f hf =>
    have hlinked : (∃ r, s.link.phase = .ready r) ∧ s.link.reply = none := by
      obtain hreceives | hframe := hf
      · exact (State.receives_iff s).mp hreceives
      · refine ⟨?_, hone.resolve_left hframe⟩
        by_contra hnot
        exact hframe (hready fun r hr => hnot ⟨r, hr⟩).1
    obtain ⟨⟨r, hr⟩, hreply⟩ := hlinked
    exact (State.linkSound_iff _).mpr ⟨fun hp => absurd hr (hp r), .inr hreply, hreset⟩
  | replyBegun _ reply hreceives =>
    obtain ⟨⟨r, hr⟩, -⟩ := (State.receives_iff s).mp hreceives
    exact (State.linkSound_iff _).mpr ⟨fun hp => absurd hr (hp r), .inl rfl, hreset⟩
  | replyEnded => exact (State.linkSound_iff _).mpr ⟨fun hp => ⟨(hready hp).1, rfl⟩, .inr rfl, hreset⟩
  | phaseMoved _ p hnot hline =>
    obtain ⟨hframe, hreply⟩ := hready hnot
    refine (State.linkSound_iff _).mpr ⟨fun _ => ⟨hframe, hreply⟩, .inl hframe, fun hasserted => ?_⟩
    exact absurd ((hline (hreset hasserted)).symm.trans hasserted) Bool.false_ne_true
  | resetAsserted _ hlink =>
    have hphase : s.link.phase = .measuring := by rw [hlink]; rfl
    exact (State.linkSound_iff _).mpr ⟨hready, hone, fun _ => hphase⟩
  | resetReleased => exact (State.linkSound_iff _).mpr ⟨hready, hone, nofun⟩
  | _ => exact absurd (by decide) hreads

/-- Settles O56: each of the three by the few changes that touch what it reads. -/
theorem queueBandsAndLinkStaySound : Obligations.QueueBandsAndLinkStaySound := by
  unfold Obligations.QueueBandsAndLinkStaySound
  intro s t hstep
  exact ⟨step_keeps [.queue, .hold] State.queueSound_congr Event.keeps_queueSound (by decide) hstep,
    step_keeps [.bands] State.bandsSound_congr Event.keeps_bandsSound (by decide) hstep,
    step_keeps [.link, .resetLine] State.linkSound_congr Event.keeps_linkSound (by decide) hstep⟩

end Machine
end Sys2Proof
end

section
/-! Proofs, family 11, eighth part: the map and the staging area stay sound. -/

namespace Sys2Proof
namespace Machine

open State (Event)

/-! ### One leg of the map and the staging area (R35 to R37, R41) -/

/-- The handles of a leg's stations, in their order. -/
def LegMap.handles (m : LegMap) : List Nat := m.stations.map fun x => x.handle

theorem LegMap.sound_iff (m : LegMap) :
    m.sound = true ↔
      tapsSound m.taps = true ∧ m.stations.length ≤ 512 ∧ (∀ x ∈ m.stations, x.sound m.taps.length = true) ∧
        (m.vf = none → m.taps = [] ∧ m.stations = []) ∧ (∀ v, m.vf = some v → 600 ≤ v ∧ v ≤ 990) ∧
        ∀ z, m.zone = some z → z.first ≤ z.last ∧ z.last ≤ 20000 := by
  simp only [LegMap.sound, Bool.and_eq_true, decide_eq_true_eq, List.all_eq_true, and_assoc]
  cases m.vf <;> cases m.zone <;> simp

theorem Staging.sound_iff (g : Staging) :
    g.sound = true ↔
      tapsSound g.taps = true ∧ g.stations.length ≤ 512 ∧ (∀ x ∈ g.stations, x.sound g.taps.length = true) ∧
        (g.stations.map fun x => x.handle).Nodup ∧ 600 ≤ g.vf ∧ g.vf ≤ 990 := by
  simp only [Staging.sound, Bool.and_eq_true, decide_eq_true_eq, List.all_eq_true, handlesDiffer_iff, and_assoc]

/-! ### The whole map (R35) -/

/-- Each handle stands once in the whole map: once on its leg, and on no other. -/
def State.handlesApart (s : State) : Prop :=
  (∀ l, (s.plant.get l).handles.Nodup) ∧ ∀ l k, l ≠ k → (s.plant.get l).handles.Disjoint (s.plant.get k).handles

theorem State.handlesApart_iff (s : State) :
    handlesDiffer (allLegs.flatMap fun l => (s.plant.get l).stations) = true ↔ s.handlesApart := by
  have hpairs : allLegs.Pairwise (fun l k => (s.plant.get l).handles.Disjoint (s.plant.get k).handles) ↔
      ∀ l k, l ≠ k → (s.plant.get l).handles.Disjoint (s.plant.get k).handles := by
    constructor
    · have hsymm : Std.Symm fun l k => (s.plant.get l).handles.Disjoint (s.plant.get k).handles := ⟨fun _ _ h => h.symm⟩
      exact fun h l k hne => h.forall (mem_allLegs l) (mem_allLegs k) hne
    · exact fun h => (show allLegs.Nodup by decide).imp fun hne => h _ _ hne
  rw [handlesDiffer_iff, List.map_flatMap, List.nodup_flatMap]
  exact and_congr ⟨fun h l => h l (mem_allLegs l), fun h l _ => h l⟩ hpairs

theorem State.plantSound_iff (s : State) :
    s.plantSound = true ↔
      (∀ l, (s.plant.get l).sound = true) ∧ s.handlesApart ∧ s.stationsInAll ≤ 1024 ∧
        ∀ g, s.staging = some g → g.sound = true := by
  simp only [State.plantSound, Bool.and_eq_true, decide_eq_true_eq, all_allLegs, State.handlesApart_iff, and_assoc]
  cases s.staging <;> simp

theorem State.stationsInAll_eq (s : State) (l : Leg) :
    s.stationsInAll = (s.plant.get l).stations.length + s.stationsElsewhere l := by
  have hparts (f : Leg → Nat) : (allLegs.map f).sum = f l + ((allLegs.filter fun k => k != l).map f).sum := by
    fin_cases l <;> simp [allLegs] <;> omega
  exact hparts fun k => (s.plant.get k).stations.length

theorem State.stationsElsewhere_congr {s t : State} {l : Leg} (h : ∀ k, k ≠ l → t.plant.get k = s.plant.get k) :
    t.stationsElsewhere l = s.stationsElsewhere l := by
  unfold State.stationsElsewhere
  refine congrArg List.sum (List.map_congr_left fun k hk => ?_)
  rw [h k (by simpa using (List.mem_filter.mp hk).2)]

section Plant
variable {s t : State}

theorem State.plantSound_of_staging (h : s.plantSound = true) (hplant : t.plant = s.plant)
    (hstaging : ∀ g, t.staging = some g → g.sound = true) : t.plantSound = true := by
  obtain ⟨hlegs, hapart, hmany, -⟩ := (State.plantSound_iff s).mp h
  rw [State.plantSound_iff, State.handlesApart, State.stationsInAll, hplant]
  exact ⟨hlegs, hapart, hmany, hstaging⟩

/-- One leg of the map replaced by a sound one, whose handles stand on no other leg and which has room. -/
theorem State.plantSound_of_leg {l : Leg} {m : LegMap} (h : s.plantSound = true) (hplant : t.plant = s.plant.set l m)
    (hstaging : ∀ g, t.staging = some g → g.sound = true) (hm : m.sound = true) (hnodup : m.handles.Nodup)
    (hapart : ∀ k, k ≠ l → m.handles.Disjoint (s.plant.get k).handles)
    (hfits : m.stations.length + s.stationsElsewhere l ≤ 1024) : t.plantSound = true := by
  obtain ⟨hlegs, ⟨hdiffer, hdisjoint⟩, -, -⟩ := (State.plantSound_iff s).mp h
  have hself : t.plant.get l = m := by rw [hplant, PerLeg.get_set_self]
  have hother (k : Leg) (hk : k ≠ l) : t.plant.get k = s.plant.get k := by rw [hplant, PerLeg.get_set_ne _ _ hk]
  refine (State.plantSound_iff t).mpr ⟨fun k => ?_, ⟨fun k => ?_, fun k j hkj => ?_⟩, ?_, hstaging⟩
  · by_cases hk : k = l
    · rwa [hk, hself]
    · rw [hother k hk]
      exact hlegs k
  · by_cases hk : k = l
    · rwa [hk, hself]
    · rw [hother k hk]
      exact hdiffer k
  · by_cases hk : k = l
    · subst hk
      rw [hself, hother j hkj.symm]
      exact hapart j hkj.symm
    · by_cases hj : j = l
      · subst hj
        rw [hself, hother k hk]
        exact (hapart k hk).symm
      · rw [hother k hk, hother j hj]
        exact hdisjoint k j hkj
  · rw [t.stationsInAll_eq l, hself, State.stationsElsewhere_congr hother]
    exact hfits

/-- One leg of the map replaced by a sound one with the same handles. -/
theorem State.plantSound_of_sameHandles {l : Leg} {m : LegMap} (h : s.plantSound = true)
    (hplant : t.plant = s.plant.set l m) (hstaging : t.staging = s.staging) (hm : m.sound = true)
    (hhandles : m.handles = (s.plant.get l).handles) : t.plantSound = true := by
  obtain ⟨-, ⟨hdiffer, hdisjoint⟩, hmany, hstaged⟩ := (State.plantSound_iff s).mp h
  refine State.plantSound_of_leg h hplant (hstaging ▸ hstaged) hm (hhandles ▸ hdiffer l)
    (fun k hk => hhandles ▸ hdisjoint l k hk.symm) ?_
  have hlength : m.stations.length = (s.plant.get l).stations.length := by
    simpa [LegMap.handles] using congrArg List.length hhandles
  rw [hlength, ← s.stationsInAll_eq l]
  exact hmany

/-! ### What the changes make of the map -/

theorem State.plantSound_congr (s t : State) (hsame : ∀ f ∈ [Field.plant, .staging], s.sameAt t f) (h : s.plantSound = true) :
    t.plantSound = true := by
  have hstaging : t.staging = s.staging := hsame .staging (by decide)
  exact State.plantSound_of_staging h (hsame .plant (by decide)) (hstaging ▸ ((State.plantSound_iff s).mp h).2.2.2)

/-- The map and the staging area after an activation (R47). -/
theorem State.plant_activate (s : State) (g : Staging) :
    (s.activate g).plant = s.newPlant g ∧ (s.activate g).staging = none := by
  have hplant (u : State) : (u.rescale g.leg).plant = u.plant := u.touches_rescale g.leg .plant (by decide)
  have hstaging (u : State) : (u.rescale g.leg).staging = u.staging := u.touches_rescale g.leg .staging (by decide)
  rw [s.activate_eq]
  unfold State.reattributed State.evaluateLinks
  dsimp only
  split
  · exact ⟨hplant _, hstaging _⟩
  · exact ⟨rfl, rfl⟩

/-- Where a staging has no conflict, no other leg holds one of its handles (R46). -/
theorem State.not_heldElsewhere_of_conflict {g : Staging} (h : s.conflict g = none) :
    ∀ x ∈ g.stations, ∀ l, ¬ s.heldElsewhere g.leg x.handle l := by
  intro x hx l hheld
  have hnone := Option.map_eq_none_iff.mp (List.findSome?_eq_none_iff.mp h x hx)
  exact List.find?_eq_none.mp hnone l (mem_allLegs l) (State.heldElsewhere_iff.mpr hheld)

theorem State.plantSound_activate {g : Staging} (h : s.plantSound = true) (hg : s.staging = some g)
    (hconflict : s.conflict g = none) (hfits : g.stations.length + s.stationsElsewhere g.leg ≤ 1024) :
    (s.activate g).plantSound = true := by
  obtain ⟨hplant, hstaging⟩ := s.plant_activate g
  obtain ⟨hlegs, -, -, hstaged⟩ := (State.plantSound_iff s).mp h
  obtain ⟨htaps, hmany, hstations, hnodup, hlow, hhigh⟩ := (Staging.sound_iff g).mp (hstaged g hg)
  have hzone := ((LegMap.sound_iff _).mp (hlegs g.leg)).2.2.2.2.2
  refine State.plantSound_of_leg h hplant (fun k hk => ?_) ?_ hnodup (fun k hk => ?_) hfits
  · rw [hstaging] at hk
    exact absurd hk nofun
  · refine (LegMap.sound_iff _).mpr ⟨htaps, hmany, hstations, nofun, fun v hv => ?_, hzone⟩
    obtain rfl := Option.some.inj hv
    exact ⟨hlow, hhigh⟩
  · intro handle hnew hold
    obtain ⟨x, hx, rfl⟩ := List.mem_map.mp hnew
    obtain ⟨y, hy, hsame⟩ := List.mem_map.mp hold
    exact State.not_heldElsewhere_of_conflict hconflict x hx k ⟨hk, y, hy, hsame⟩

/-- A station's marks may change; the map keeps its entry's handle, tap and drop (R37). -/
theorem State.plantSound_updateStation (h : s.plantSound = true) (l : Leg) (handle : Nat) {f : Station → Station}
    (hf : ∀ x, (f x).handle = x.handle ∧ (f x).tap = x.tap ∧ (f x).drop = x.drop) :
    (s.updateStation l handle f).plantSound = true := by
  have hentry (x : Station) (count : Nat) :
      (if x.handle = handle then f x else x).handle = x.handle ∧
        (if x.handle = handle then f x else x).sound count = x.sound count := by
    obtain ⟨hhandle, htap, hdrop⟩ := hf x
    split
    · exact ⟨hhandle, by rw [Station.sound, Station.sound, hhandle, htap, hdrop]⟩
    · exact ⟨rfl, rfl⟩
  obtain ⟨hlegs, -⟩ := (State.plantSound_iff s).mp h
  obtain ⟨htaps, hmany, hstations, hempty, hvf, hzone⟩ := (LegMap.sound_iff _).mp (hlegs l)
  refine State.plantSound_of_sameHandles h rfl rfl ?_ ?_
  · refine (LegMap.sound_iff _).mpr ⟨htaps, by rwa [List.length_map], fun x hx => ?_, fun hnone => ?_, hvf, hzone⟩
    · obtain ⟨y, hy, rfl⟩ := List.mem_map.mp hx
      rw [(hentry y _).2]
      exact hstations y hy
    · obtain ⟨hnotaps, hnostations⟩ := hempty hnone
      exact ⟨hnotaps, by rw [hnostations, List.map_nil]⟩
  · rw [LegMap.handles, List.map_map]
    exact List.map_congr_left fun x _ => (hentry x 0).1

end Plant

theorem Event.keeps_plantSound (fs : List Field) (s t : State) (hev : Event fs s t)
    (hreads : ¬ ∀ f ∈ [Field.plant, .staging], f ∉ fs) (h : s.plantSound = true) : t.plantSound = true := by
  obtain ⟨hlegs, -, -, hstaged⟩ := (State.plantSound_iff s).mp h
  cases hev with
  | powerOn => exact show State.reset.plantSound = true by decide
  | staged _ g hg =>
    refine State.plantSound_of_staging h rfl fun k hk => ?_
    obtain rfl := Option.some.inj hk
    exact hg hstaged
  | stagingDropped => exact State.plantSound_of_staging h rfl nofun
  | activated _ g hg hconflict hfits => exact State.plantSound_activate h hg hconflict hfits
  | zoned _ l zone hzone =>
    obtain ⟨htaps, hmany, hstations, hempty, hvf, -⟩ := (LegMap.sound_iff _).mp (hlegs l)
    exact State.plantSound_of_sameHandles h rfl rfl
      ((LegMap.sound_iff _).mpr ⟨htaps, hmany, hstations, hempty, hvf, hzone⟩) rfl
  | stationMarked _ l handle f hf => exact State.plantSound_updateStation h l handle hf
  | _ => exact absurd (by decide) hreads

/-- Settles O58: the staging area is filled within its limits, and replaces a leg only where its handles are free. -/
theorem theMapStaysSound : Obligations.TheMapStaysSound := by
  unfold Obligations.TheMapStaysSound
  intro s t hs hstep
  exact step_keeps [.plant, .staging] State.plantSound_congr Event.keeps_plantSound (by decide) hstep hs

end Machine
end Sys2Proof
end

section
/-! Proofs, family 11, ninth part: sound records, links, wait queue and round, said slot by slot, and one lemma for a change of
one slot, of the wait queue and of the round. -/

namespace Sys2Proof
namespace Machine

/-! ### A sound record (R4, R5, R24) -/

theorem Record.rangesSound_iff (r : Record) :
    r.rangesSound = true ↔
      r.score ≤ 100 ∧ 1 ≤ r.observations ∧ r.observations ≤ 65535 ∧ r.recurrences ≤ 255 ∧
        (∀ k, r.retention = some k → k ≤ 255 ∧ r.state = .cleared) ∧ r.ticket ≠ some 0 := by
  simp only [Record.rangesSound, Bool.and_eq_true, decide_eq_true_eq, bne_iff_ne, and_assoc]
  cases r.retention <;> simp

theorem EchoPart.sound_iff (plant : PerLeg LegMap) (st : RecordState) (severity : Nat) (e : EchoPart) :
    e.sound plant st severity = true ↔
      e.spreadMin ≤ e.position ∧ e.position ≤ e.spreadMax ∧ e.spreadMax ≤ 20000 ∧ 1 ≤ e.stations.length ∧
        e.stations.length ≤ 8 ∧ e.stations.Nodup ∧ 20 ≤ severity ∧ severity ≤ 120 ∧
        (st = .suspect ∨ st = .confirmed ∨ st = .cleared) ∧
        ∀ t, e.tap = some t → st ≠ .suspect ∧ t < (plant.get e.leg).taps.length := by
  have hnodup : e.stations.dedup.length = e.stations.length ↔ e.stations.Nodup :=
    ⟨fun h => List.dedup_eq_self.mp ((List.dedup_sublist _).eq_of_length h), fun h => by rw [List.dedup_eq_self.mpr h]⟩
  simp only [EchoPart.sound, Bool.and_eq_true, Bool.or_eq_true, decide_eq_true_eq, beq_iff_eq, hnodup, and_assoc, or_assoc]
  cases e.tap <;> simp

theorem IngressPart.sound_iff (st : RecordState) (severity : Nat) (g : IngressPart) :
    g.sound st severity = true ↔
      severity ≤ 255 ∧ g.attempts ≤ 32 ∧ g.voidStreak ≤ 4 ∧ st ≠ .suspect ∧
        (st = .probeWait ∨ st = .probing → g.voidStreak ≤ 3) ∧ (st = .confirmed → g.leg ≠ none) ∧
        (g.leg ≠ none → st = .confirmed ∨ st = .cleared) ∧ (g.link ≠ none → st = .confirmed) := by
  simp only [IngressPart.sound, Bool.and_eq_true, Bool.or_eq_true, decide_eq_true_eq, bne_iff_ne, beq_iff_eq, and_assoc]
  cases g.leg <;> cases st <;> simp [or_iff_not_imp_left]

section Sound
variable {plant : PerLeg LegMap} {r : Record}

theorem Record.sound_iff_of_echo {e : EchoPart} (hr : r.body = .echo e) :
    r.sound plant = true ↔ r.rangesSound = true ∧ r.frozen = r.inZone plant ∧ e.sound plant r.state r.severity = true := by
  simp only [Record.sound, hr, Bool.and_eq_true, beq_iff_eq, and_assoc]

theorem Record.sound_iff_of_ingress {g : IngressPart} (hr : r.body = .ingress g) :
    r.sound plant = true ↔ r.rangesSound = true ∧ r.frozen = r.inZone plant ∧ g.sound r.state r.severity = true := by
  simp only [Record.sound, hr, Bool.and_eq_true, beq_iff_eq, and_assoc]

/-- A record that waits for a round or is in one is an ingress record without leg, link and retention, and not frozen. -/
theorem Record.ingress_of_waiting (h : r.sound plant = true) (hs : r.state = .probeWait ∨ r.state = .probing) :
    ∃ g, r.body = .ingress g ∧ g.leg = none ∧ g.link = none ∧ g.voidStreak ≤ 3 ∧ r.frozen = false ∧ r.retention = none := by
  have hne : r.state ≠ .suspect ∧ r.state ≠ .confirmed ∧ r.state ≠ .cleared := by
    obtain hs | hs := hs <;> rw [hs] <;> exact ⟨nofun, nofun, nofun⟩
  cases hr : r.body with
  | echo e =>
    obtain ⟨-, -, hecho⟩ := (Record.sound_iff_of_echo hr).mp h
    obtain ⟨-, -, -, -, -, -, -, -, hstate, -⟩ := (EchoPart.sound_iff _ _ _ _).mp hecho
    exact absurd hstate (by simp [hne])
  | ingress g =>
    obtain ⟨hranges, hfrozen, hingress⟩ := (Record.sound_iff_of_ingress hr).mp h
    obtain ⟨-, -, -, -, hstreak, -, hleg, hlink⟩ := (IngressPart.sound_iff _ _ _).mp hingress
    obtain ⟨-, -, -, -, hretention, -⟩ := (Record.rangesSound_iff r).mp hranges
    have hleg : g.leg = none := by
      by_contra hsome
      exact absurd (hleg hsome) (by simp [hne])
    refine ⟨g, rfl, hleg, ?_, hstreak hs, ?_, ?_⟩
    · by_contra hsome
      exact hne.2.1 (hlink hsome)
    · rw [hfrozen]
      simp [Record.inZone, hr, hleg]
    · cases hk : r.retention with
      | none => rfl
      | some k => exact absurd (hretention k hk).2 hne.2.2

end Sound

/-! ### What a slot holds -/

/-- The slot's record, if any, is sound. -/
def Slot.Sound (plant : PerLeg LegMap) (x : Slot) : Prop := ∀ r, x.record = some r → r.sound plant = true

/-- The slot holds a record in a state. -/
def Slot.Holds (st : RecordState) (x : Slot) : Prop := ∃ r, x.record = some r ∧ r.state = st

/-- The slot holds an ingress record of a band. -/
def Slot.IngressOf (b : Band) (x : Slot) : Prop := ∃ r, x.record = some r ∧ r.ingressOf b = true

/-- The slot holds an echo record CONFIRMED on a leg. -/
def Slot.EchoOn (l : Leg) (x : Slot) : Prop := ∃ r, x.record = some r ∧ r.confirmedEchoOn l = true

/-- The slot holds an ingress record on a leg with a link to a name. -/
def Slot.LinksTo (l : Leg) (name : RecordName) (x : Slot) : Prop :=
  ∃ r g, x.record = some r ∧ r.body = .ingress g ∧ g.leg = some l ∧ g.link = some name

theorem Record.ingressOf_iff {r : Record} {b : Band} : r.ingressOf b = true ↔ ∃ g, r.body = .ingress g ∧ g.band = b := by
  cases hr : r.body <;> simp [Record.ingressOf, hr]

theorem Record.confirmedEchoOn_iff {r : Record} {l : Leg} :
    r.confirmedEchoOn l = true ↔ ∃ e, r.body = .echo e ∧ r.state = .confirmed ∧ e.leg = l := by
  cases hr : r.body <;> simp [Record.confirmedEchoOn, hr]

section OneSlot
variable {x : Slot} {r : Record}

theorem Slot.holds_of_record {st : RecordState} (hx : x.record = some r) : x.Holds st ↔ r.state = st := by
  simp [Slot.Holds, hx]

theorem Slot.ingressOf_of_record {b : Band} (hx : x.record = some r) : x.IngressOf b ↔ r.ingressOf b = true := by
  simp [Slot.IngressOf, hx]

theorem Slot.not_holds_of_free {st : RecordState} (hx : x.record = none) : ¬ x.Holds st := by
  simp [Slot.Holds, hx]

theorem Slot.not_ingressOf_of_free {b : Band} (hx : x.record = none) : ¬ x.IngressOf b := by
  simp [Slot.IngressOf, hx]

theorem Slot.not_ingressOf_of_echo {b : Band} {e : EchoPart} (hx : x.record = some r) (hr : r.body = .echo e) :
    ¬ x.IngressOf b := by
  simp [Slot.IngressOf, hx, Record.ingressOf, hr]

theorem Slot.ingressOf_of_ingress {b : Band} {g : IngressPart} (hx : x.record = some r) (hr : r.body = .ingress g) :
    x.IngressOf b ↔ g.band = b := by
  simp [Slot.IngressOf, hx, Record.ingressOf, hr]

theorem Slot.not_linksTo_of_free {l : Leg} {name : RecordName} (hx : x.record = none) : ¬ x.LinksTo l name := by
  simp [Slot.LinksTo, hx]

theorem Slot.not_linksTo_of_echo {l : Leg} {name : RecordName} {e : EchoPart} (hx : x.record = some r)
    (hr : r.body = .echo e) : ¬ x.LinksTo l name := by
  simp [Slot.LinksTo, hx, hr]

theorem Slot.not_linksTo_of_unlinked {l : Leg} {name : RecordName} {g : IngressPart} (hx : x.record = some r)
    (hr : r.body = .ingress g) (hlink : g.link = none) : ¬ x.LinksTo l name := by
  simp [Slot.LinksTo, hx, hr, hlink]

end OneSlot

/-! ### The order of the wait queue (R123) -/

theorem WaitEntry.before_iff (a b : WaitEntry) :
    a.before b = true ↔
      b.excess < a.excess ∨ (a.excess = b.excess ∧
        (a.second.toNat < b.second.toNat ∨ (a.second.toNat = b.second.toNat ∧ a.name.num < b.name.num))) := by
  simp only [WaitEntry.before, Bool.or_eq_true, Bool.and_eq_true, decide_eq_true_eq, beq_iff_eq, BitVec.toNat_inj]

theorem WaitEntry.before_trans {a b c : WaitEntry} (hab : a.before b = true) (hbc : b.before c = true) :
    a.before c = true := by
  simp only [WaitEntry.before_iff, Fin.lt_def] at *
  omega

/-- Of two entries of different slots one stands before the other. -/
theorem WaitEntry.before_or_before {a b : WaitEntry} (h : a.name.num ≠ b.name.num) :
    a.before b = true ∨ b.before a = true := by
  have hne : a.name.num.val ≠ b.name.num.val := fun hv => h (Fin.ext hv)
  simp only [WaitEntry.before_iff, Fin.lt_def]
  omega

theorem inOrder_iff (entries : List WaitEntry) : inOrder entries = true ↔ entries.Pairwise fun a b => a.before b = true := by
  induction entries with
  | nil => simp [inOrder]
  | cons x rest ih => simp only [inOrder, Bool.and_eq_true, List.all_eq_true, ih, List.pairwise_cons]

theorem insertEntry_perm (x : WaitEntry) (q : List WaitEntry) : (insertEntry x q).Perm (x :: q) := by
  induction q with
  | nil => exact .refl _
  | cons y ys ih =>
    unfold insertEntry
    split
    · exact .refl _
    · exact (ih.cons y).trans (.swap x y ys)

theorem mem_insertEntry {x y : WaitEntry} {q : List WaitEntry} : y ∈ insertEntry x q ↔ y = x ∨ y ∈ q := by
  rw [(insertEntry_perm x q).mem_iff, List.mem_cons]

/-- An entry of a slot without one goes in at its place. -/
theorem pairwise_insertEntry {x : WaitEntry} {q : List WaitEntry} (h : q.Pairwise fun a b => a.before b = true)
    (hnew : ∀ y ∈ q, y.name.num ≠ x.name.num) : (insertEntry x q).Pairwise fun a b => a.before b = true := by
  induction q with
  | nil => exact List.pairwise_singleton _ x
  | cons y ys ih =>
    obtain ⟨hy, hys⟩ := List.pairwise_cons.mp h
    unfold insertEntry
    split
    · rename_i hxy
      refine List.pairwise_cons.mpr ⟨fun z hz => ?_, h⟩
      obtain rfl | hz := List.mem_cons.mp hz
      · exact hxy
      · exact WaitEntry.before_trans hxy (hy z hz)
    · rename_i hxy
      refine List.pairwise_cons.mpr ⟨fun z hz => ?_, ih hys fun z hz => hnew z (List.mem_cons_of_mem _ hz)⟩
      obtain rfl | hz := mem_insertEntry.mp hz
      · exact (WaitEntry.before_or_before (hnew y List.mem_cons_self)).resolve_right hxy
      · exact hy z hz

/-! ### A sound table (R4, R110, R116, R121, R123) -/

/-- The names of the entries of the wait queue. -/
def State.waitNames (s : State) : List RecordName := s.waitQueue.map fun e => e.name

/-- A name is that of a record in a state. -/
def State.Names (s : State) (st : RecordState) (name : RecordName) : Prop :=
  (s.slot name.num).gen = name.gen ∧ (s.slot name.num).Holds st

/-- Sound records, the wait queue of the PROBE_WAIT ones, `busy` the name of the PROBING one, and one ingress record to a band,
which has a baseline. -/
structure State.TableSound (s : State) (busy : Option RecordName) : Prop where
  records : ∀ n, (s.slot n).Sound s.plant
  ordered : s.waitQueue.Pairwise fun a b => a.before b = true
  excess : ∀ e ∈ s.waitQueue, e.excess ≤ 255
  once : s.waitNames.Nodup
  waiting : ∀ name, name ∈ s.waitNames ↔ s.Names .probeWait name
  probing : ∀ name, busy = some name ↔ s.Names .probing name
  baseline : ∀ n b, (s.slot n).IngressOf b → (s.band b).baseline ≠ none
  apart : ∀ n m b, (s.slot n).IngressOf b → (s.slot m).IngressOf b → n = m

/-- Every link of an ingress record on a leg names an echo record CONFIRMED there (R28). -/
def State.LinkedOn (l : Leg) (s : State) : Prop :=
  ∀ n name, (s.slot n).LinksTo l name → (s.slot name.num).gen = name.gen ∧ (s.slot name.num).EchoOn l

/-- The name of the record of the round in progress. -/
def State.busy (s : State) : Option RecordName := s.round.map Round.record

theorem State.named_eq_some_iff {s : State} {name : RecordName} {r : Record} :
    s.named name = some r ↔ (s.slot name.num).gen = name.gen ∧ (s.slot name.num).record = some r := by
  rw [State.named, ← State.record]
  split
  · rename_i h
    simp [h]
  · rename_i h
    simp [h]

theorem State.names_iff {s : State} {st : RecordState} {name : RecordName} :
    s.Names st name ↔ ∃ r, s.named name = some r ∧ r.state = st := by
  simp only [State.named_eq_some_iff, State.Names, Slot.Holds, and_assoc, exists_and_left]

/-- The present name of a slot that holds a record in a state. -/
theorem State.names_nameOf_iff {s : State} {st : RecordState} {n : SlotNo} : s.Names st (s.nameOf n) ↔ (s.slot n).Holds st :=
  ⟨fun h => h.2, fun h => ⟨rfl, h⟩⟩

theorem State.name_eq_nameOf {s : State} {name : RecordName} (h : (s.slot name.num).gen = name.gen) :
    name = s.nameOf name.num := by
  rw [State.nameOf, h]

theorem State.recordsSound_iff (s : State) : s.recordsSound = true ↔ ∀ n, (s.slot n).Sound s.plant := by
  rw [State.recordsSound, List.all_eq_true]
  exact ⟨fun h n r hr => h (n, r) (State.mem_records.mpr hr), fun h p hp => h p.1 p.2 (State.mem_records.mp hp)⟩

theorem State.linksSound_iff {s : State} (hrecords : ∀ n, (s.slot n).Sound s.plant) :
    s.linksSound = true ↔ ∀ l, s.LinkedOn l := by
  have hecho (l : Leg) (name : RecordName) :
      (match s.named name with
        | none => false
        | some r => r.confirmedEchoOn l) = true ↔ (s.slot name.num).gen = name.gen ∧ (s.slot name.num).EchoOn l := by
    cases hnamed : s.named name with
    | none =>
      refine ⟨nofun, ?_⟩
      rintro ⟨hgen, r, hr, -⟩
      exact nomatch hnamed.symm.trans (State.named_eq_some_iff.mpr ⟨hgen, hr⟩)
    | some r =>
      obtain ⟨hgen, hr⟩ := State.named_eq_some_iff.mp hnamed
      simp [Slot.EchoOn, hgen, hr]
  rw [State.linksSound, List.all_eq_true]
  constructor
  · rintro h l n name ⟨r, g, hrec, hr, hleg, hlink⟩
    have hp := h (n, r) (State.mem_records.mpr hrec)
    simp only [hr, hlink, hleg] at hp
    exact (hecho l name).mp hp
  · intro h p hp
    have hrec := State.mem_records.mp hp
    cases hr : p.2.body with
    | echo e => rfl
    | ingress g =>
      cases hlink : g.link with
      | none => simp only [hlink]
      | some name =>
        obtain ⟨-, -, hingress⟩ := (Record.sound_iff_of_ingress hr).mp (hrecords p.1 p.2 hrec)
        obtain ⟨-, -, -, -, -, hconfirmed, -, hlinked⟩ := (IngressPart.sound_iff _ _ _).mp hingress
        cases hleg : g.leg with
        | none => exact absurd hleg (hconfirmed (hlinked (by rw [hlink]; exact nofun)))
        | some l =>
          simp only [hlink, hleg]
          exact (hecho l name).mpr (h l p.1 name ⟨p.2, g, hrec, hr, hleg, hlink⟩)

/-- Of the names without repeats, one that a predicate holds of is counted once. -/
theorem countP_name_eq_one {q : List WaitEntry} (h : (q.map fun e => e.name).Nodup) {name : RecordName}
    (hmem : name ∈ q.map fun e => e.name) : q.countP (fun e => e.name == name) = 1 := by
  have hcount : q.countP (fun e => e.name == name) = (q.map fun e => e.name).count name := by
    rw [List.count, List.countP_map]
    rfl
  rw [hcount]
  exact List.count_eq_one_of_mem h hmem

theorem countP_ingressOf_eq_one_iff {s : State} {n : SlotNo} {r : Record} {b : Band} (hrec : s.record n = some r)
    (hr : r.ingressOf b = true) :
    s.records.countP (fun q => q.2.ingressOf b) = 1 ↔ ∀ m, (s.slot m).IngressOf b → m = n := by
  rw [List.countP_eq_length_filter, List.length_eq_one_iff]
  have hmem (p : SlotNo × Record) :
      p ∈ s.records.filter (fun q => q.2.ingressOf b) ↔ s.record p.1 = some p.2 ∧ p.2.ingressOf b = true := by
    rw [List.mem_filter, State.mem_records]
  constructor
  · rintro ⟨p, hp⟩ m ⟨q, hq, hqb⟩
    have hone := (hmem (n, r)).mpr ⟨hrec, hr⟩
    have hother := (hmem (m, q)).mpr ⟨hq, hqb⟩
    rw [hp, List.mem_singleton] at hone hother
    exact congrArg Prod.fst (hother.trans hone.symm)
  · intro h
    refine ⟨(n, r), List.perm_singleton.mp ?_⟩
    have hnodup : (s.records.filter fun q => q.2.ingressOf b).Nodup :=
      (s.records_sorted.imp fun hlt heq => absurd (congrArg Prod.fst heq) hlt.ne).filter _
    refine (List.perm_ext_iff_of_nodup hnodup (List.nodup_singleton _)).mpr fun p => ?_
    rw [hmem, List.mem_singleton]
    constructor
    · rintro ⟨hp, hpb⟩
      have hn := h p.1 ⟨p.2, hp, hpb⟩
      have hr : p.2 = r := Option.some.inj ((hn ▸ hp).symm.trans hrec)
      exact Prod.ext hn hr
    · rintro rfl
      exact ⟨hrec, hr⟩

end Machine
end Sys2Proof
end

section
/-! Proofs, family 11, tenth part: how a change of one slot, of every slot or of the links keeps the table sound. -/

namespace Sys2Proof
namespace Machine

/-! ### The three promises of O59 and O60 as one -/

theorem State.mem_waitNames {s : State} {name : RecordName} : name ∈ s.waitNames ↔ ∃ e ∈ s.waitQueue, e.name = name :=
  List.mem_map

theorem State.probingSound_iff (s : State) :
    s.probingSound = true ↔
      inOrder s.waitQueue = true ∧ (∀ e ∈ s.waitQueue, s.Names .probeWait e.name ∧ e.excess ≤ 255) ∧
        (∀ n r, s.record n = some r →
          (r.state = .probeWait → s.waitQueue.countP (fun e => e.name == s.nameOf n) = 1) ∧
            (r.state = .probing ↔ s.busy = some (s.nameOf n)) ∧
            ∀ g, r.body = .ingress g → r.state ≠ .suspect ∧ (s.band g.band).baseline ≠ none ∧
              s.records.countP (fun q => q.2.ingressOf g.band) = 1) ∧
        ∀ name, s.busy = some name → (s.named name).isSome = true := by
  have hentry (e : WaitEntry) :
      (match s.named e.name with
        | none => false
        | some r => r.state == .probeWait && e.excess ≤ 255) = true ↔ s.Names .probeWait e.name ∧ e.excess ≤ 255 := by
    rw [State.names_iff]
    cases s.named e.name <;> simp
  have hbody (r : Record) :
      (match r.ingress? with
        | none => true
        | some g =>
          r.state != .suspect && (s.bands[g.band]).baseline.isSome &&
            s.records.countP (fun q => q.2.ingressOf g.band) == 1) = true ↔
      ∀ g, r.body = .ingress g → r.state ≠ .suspect ∧ (s.band g.band).baseline ≠ none ∧
        s.records.countP (fun q => q.2.ingressOf g.band) = 1 := by
    cases hr : r.body with
    | echo e => simp [Record.ingress?, hr]
    | ingress g => simp [Record.ingress?, hr, State.band, Option.isSome_iff_ne_none, and_assoc]
  have hround : (match s.round with
      | none => true
      | some r => (s.named r.record).isSome) = true ↔ ∀ name, s.busy = some name → (s.named name).isSome = true := by
    rw [State.busy]
    cases s.round <;> simp
  simp only [State.probingSound, Bool.and_eq_true, List.all_eq_true, and_assoc]
  refine and_congr_right fun _ => and_congr (forall₂_congr fun e _ => hentry e) (and_congr ?_ hround)
  constructor
  · intro h n r hrec
    obtain ⟨hwait, hprobing, hingress⟩ := h (n, r) (State.mem_records.mpr hrec)
    refine ⟨fun hs => ?_, ?_, (hbody r).mp hingress⟩
    · simpa [hs] using hwait
    · rw [beq_iff_eq, Bool.eq_iff_iff, beq_iff_eq, beq_iff_eq] at hprobing
      exact hprobing
  · intro h p hp
    obtain ⟨hwait, hprobing, hingress⟩ := h p.1 p.2 (State.mem_records.mp hp)
    refine ⟨?_, ?_, (hbody p.2).mpr hingress⟩
    · by_cases hs : p.2.state = .probeWait
      · simp [hwait hs]
      · simp [hs]
    · rw [beq_iff_eq, Bool.eq_iff_iff, beq_iff_eq, beq_iff_eq]
      exact hprobing

/-- Sound records, links, wait queue and round, as the obligations say them and slot by slot. -/
theorem State.tableSound_iff (s : State) :
    (s.recordsSound = true ∧ s.linksSound = true ∧ s.probingSound = true) ↔
      s.TableSound s.busy ∧ ∀ l, s.LinkedOn l := by
  constructor
  · rintro ⟨hrecords, hlinks, hprobing⟩
    rw [State.recordsSound_iff] at hrecords
    rw [State.linksSound_iff hrecords] at hlinks
    obtain ⟨hordered, hentries, hslots, hround⟩ := (State.probingSound_iff s).mp hprobing
    have hwait {n : SlotNo} (hn : (s.slot n).Holds .probeWait) :
        s.waitQueue.countP (fun e => e.name == s.nameOf n) = 1 := by
      obtain ⟨r, hrec, hs⟩ := hn
      exact (hslots n r hrec).1 hs
    refine ⟨⟨hrecords, (inOrder_iff _).mp hordered, fun e he => (hentries e he).2, ?_, fun name => ⟨?_, ?_⟩,
      fun name => ⟨?_, ?_⟩, ?_, ?_⟩, hlinks⟩
    · refine List.nodup_iff_count_le_one.mpr fun name => ?_
      by_cases hmem : name ∈ s.waitNames
      · obtain ⟨e, he, rfl⟩ := State.mem_waitNames.mp hmem
        have hnames := (hentries e he).1
        have hone := hwait hnames.2
        rw [← State.name_eq_nameOf hnames.1] at hone
        rw [State.waitNames, List.count, List.countP_map]
        exact hone.le
      · rw [List.count_eq_zero_of_not_mem hmem]
        exact Nat.zero_le _
    · intro hmem
      obtain ⟨e, he, rfl⟩ := State.mem_waitNames.mp hmem
      exact (hentries e he).1
    · rintro ⟨hgen, hholds⟩
      have hone := hwait hholds
      rw [← State.name_eq_nameOf hgen] at hone
      obtain ⟨e, he, hname⟩ := List.countP_pos_iff.mp (by rw [hone]; exact Nat.one_pos)
      exact State.mem_waitNames.mpr ⟨e, he, beq_iff_eq.mp hname⟩
    · intro hbusy
      obtain ⟨r, hr⟩ := Option.isSome_iff_exists.mp (hround name hbusy)
      obtain ⟨hgen, hrec⟩ := State.named_eq_some_iff.mp hr
      refine ⟨hgen, r, hrec, (hslots _ r hrec).2.1.mpr ?_⟩
      rw [← State.name_eq_nameOf hgen]
      exact hbusy
    · rintro ⟨hgen, r, hrec, hs⟩
      have := (hslots _ r hrec).2.1.mp hs
      rwa [← State.name_eq_nameOf hgen] at this
    · rintro n b ⟨r, hrec, hrb⟩
      obtain ⟨g, hr, rfl⟩ := Record.ingressOf_iff.mp hrb
      exact ((hslots n r hrec).2.2 g hr).2.1
    · rintro n m b ⟨r, hrec, hrb⟩ hm
      obtain ⟨g, hr, rfl⟩ := Record.ingressOf_iff.mp hrb
      exact ((countP_ingressOf_eq_one_iff hrec hrb).mp ((hslots n r hrec).2.2 g hr).2.2 m hm).symm
  · rintro ⟨h, hlinks⟩
    refine ⟨(State.recordsSound_iff s).mpr h.records, (State.linksSound_iff h.records).mpr hlinks,
      (State.probingSound_iff s).mpr ⟨(inOrder_iff _).mpr h.ordered, fun e he => ?_, fun n r hrec => ⟨fun hs => ?_, ?_, ?_⟩, ?_⟩⟩
    · exact ⟨(h.waiting _).mp (State.mem_waitNames.mpr ⟨e, he, rfl⟩), h.excess e he⟩
    · exact countP_name_eq_one h.once ((h.waiting _).mpr (State.names_nameOf_iff.mpr ⟨r, hrec, hs⟩))
    · rw [h.probing, State.names_nameOf_iff, Slot.holds_of_record hrec]
    · intro g hr
      obtain ⟨-, -, hingress⟩ := (Record.sound_iff_of_ingress hr).mp (h.records n r hrec)
      obtain ⟨-, -, -, hsuspect, -⟩ := (IngressPart.sound_iff _ _ _).mp hingress
      have hof : (s.slot n).IngressOf g.band := (Slot.ingressOf_of_ingress hrec hr).mpr rfl
      exact ⟨hsuspect, h.baseline n _ hof,
        (countP_ingressOf_eq_one_iff hrec (Record.ingressOf_iff.mpr ⟨g, hr, rfl⟩)).mpr fun m hm => h.apart m n _ hm hof⟩
    · intro name hbusy
      obtain ⟨r, hr, -⟩ := State.names_iff.mp ((h.probing name).mp hbusy)
      rw [hr]
      rfl

/-! ### A change of every slot -/

/-- Another content of a slot, with a record waiting for a round or in one exactly where it was so before, under its name, and
an ingress record of a band only where it was one. -/
structure Slot.Follows (x y : Slot) : Prop where
  holds : ∀ st, st = .probeWait ∨ st = .probing → (y.Holds st ↔ x.Holds st) ∧ (x.Holds st → y.gen = x.gen)
  ingress : ∀ b, y.IngressOf b → x.IngressOf b

theorem Slot.Follows.refl (x : Slot) : x.Follows x := ⟨fun _ _ => ⟨.rfl, fun _ => rfl⟩, fun _ h => h⟩

theorem Slot.Follows.trans {x y z : Slot} (hxy : x.Follows y) (hyz : y.Follows z) : x.Follows z where
  holds st hst := ⟨(hyz.holds st hst).1.trans (hxy.holds st hst).1, fun hx =>
    ((hyz.holds st hst).2 ((hxy.holds st hst).1.mpr hx)).trans ((hxy.holds st hst).2 hx)⟩
  ingress b hz := hxy.ingress b (hyz.ingress b hz)

section Slots
variable {s t : State} {busy : Option RecordName}

theorem State.names_of_follows (h : ∀ n, (s.slot n).Follows (t.slot n)) {st : RecordState}
    (hst : st = .probeWait ∨ st = .probing) (name : RecordName) : t.Names st name ↔ s.Names st name := by
  obtain ⟨hholds, hgen⟩ := (h name.num).holds st hst
  rw [State.Names, State.Names, hholds]
  exact and_congr_left fun hx => by rw [hgen hx]

theorem State.TableSound.of_slots (h : s.TableSound busy) (hrecords : ∀ n, (t.slot n).Sound t.plant)
    (hslots : ∀ n, (s.slot n).Follows (t.slot n)) (hqueue : t.waitQueue = s.waitQueue)
    (hbands : ∀ b, (s.band b).baseline ≠ none → (t.band b).baseline ≠ none) : t.TableSound busy where
  records := hrecords
  ordered := hqueue ▸ h.ordered
  excess := hqueue ▸ h.excess
  once := by
    rw [State.waitNames, hqueue]
    exact h.once
  waiting name := by
    rw [State.names_of_follows hslots (.inl rfl), ← h.waiting, State.waitNames, hqueue]
    rfl
  probing name := by rw [State.names_of_follows hslots (.inr rfl), ← h.probing]
  baseline n b hb := hbands b (h.baseline n b ((hslots n).ingress b hb))
  apart n m b hn hm := h.apart n m b ((hslots n).ingress b hn) ((hslots m).ingress b hm)

/-- The promises of the table read the table, the map, the bands and the wait queue. -/
theorem State.TableSound.congr (h : s.TableSound busy) (htable : t.table = s.table) (hplant : t.plant = s.plant)
    (hbands : t.bands = s.bands) (hqueue : t.waitQueue = s.waitQueue) : t.TableSound busy := by
  have hslot (n : SlotNo) : t.slot n = s.slot n := by rw [State.slot, State.slot, htable]
  refine h.of_slots (fun n => ?_) (fun n => ?_) hqueue fun b hb => ?_
  · rw [hslot, hplant]
    exact h.records n
  · rw [hslot]
    exact .refl _
  · rwa [State.band, hbands]

end Slots

/-! ### A change of one slot -/

section OneSlot
variable {s t : State} {n : SlotNo} {busy busy' : Option RecordName}

/-- The wait queue after a change of one slot: in order, each name once, and an entry of the slot exactly where it holds a
PROBE_WAIT record. -/
structure State.QueueFollows (s t : State) (n : SlotNo) : Prop where
  ordered : t.waitQueue.Pairwise fun a b => a.before b = true
  excess : ∀ e ∈ t.waitQueue, e.excess ≤ 255
  once : t.waitNames.Nodup
  waiting : ∀ name, name ∈ t.waitNames ↔
    (name ∈ s.waitNames ∧ name.num ≠ n) ∨ (name = t.nameOf n ∧ (t.slot n).Holds .probeWait)

/-- The name of the record in a round after a change of one slot. -/
def State.BusyFollows (t : State) (n : SlotNo) (busy busy' : Option RecordName) : Prop :=
  ∀ name, busy' = some name ↔ (busy = some name ∧ name.num ≠ n) ∨ (name = t.nameOf n ∧ (t.slot n).Holds .probing)

/-- An ingress record that a changed slot holds has a baseline, and its band to itself. -/
def State.IngressFollows (s t : State) (n : SlotNo) : Prop :=
  ∀ b, (t.slot n).IngressOf b → (s.band b).baseline ≠ none ∧ ∀ m, m ≠ n → ¬ (s.slot m).IngressOf b

/-- The slot's own present name is the only one that names it. -/
theorem State.names_iff_of_changed (hslots : ∀ m, m ≠ n → t.slot m = s.slot m) {st : RecordState} (name : RecordName) :
    t.Names st name ↔ (s.Names st name ∧ name.num ≠ n) ∨ (name = t.nameOf n ∧ (t.slot n).Holds st) := by
  by_cases hn : name.num = n
  · constructor
    · rintro ⟨hgen, hholds⟩
      refine .inr ⟨?_, hn ▸ hholds⟩
      rw [State.name_eq_nameOf hgen, hn]
    · rintro (⟨-, hne⟩ | ⟨rfl, hholds⟩)
      · exact absurd hn hne
      · exact State.names_nameOf_iff.mpr hholds
  · rw [State.Names, State.Names, hslots _ hn]
    constructor
    · exact fun h => .inl ⟨h, hn⟩
    · rintro (⟨h, -⟩ | ⟨rfl, -⟩)
      · exact h
      · exact absurd rfl hn

theorem State.TableSound.change (h : s.TableSound busy) (hslots : ∀ m, m ≠ n → t.slot m = s.slot m)
    (hsound : (t.slot n).Sound s.plant) (hplant : t.plant = s.plant) (hbands : t.bands = s.bands)
    (hqueue : s.QueueFollows t n) (hbusy : t.BusyFollows n busy busy') (hingress : s.IngressFollows t n) :
    t.TableSound busy' where
  records m := by
    by_cases hm : m = n
    · rw [hm, hplant]
      exact hsound
    · rw [hslots m hm, hplant]
      exact h.records m
  ordered := hqueue.ordered
  excess := hqueue.excess
  once := hqueue.once
  waiting name := by rw [hqueue.waiting, h.waiting, State.names_iff_of_changed hslots]
  probing name := by rw [hbusy name, h.probing, State.names_iff_of_changed hslots]
  baseline m b hb := by
    have hband : t.band b = s.band b := by rw [State.band, State.band, hbands]
    rw [hband]
    by_cases hm : m = n
    · subst hm
      exact (hingress b hb).1
    · rw [hslots m hm] at hb
      exact h.baseline m b hb
  apart m k b hm hk := by
    by_cases hmn : m = n
    · subst hmn
      by_contra hne
      have hkm : k ≠ m := fun heq => hne heq.symm
      rw [hslots k hkm] at hk
      exact (hingress b hm).2 k hkm hk
    · rw [hslots m hmn] at hm
      by_cases hkn : k = n
      · subst hkn
        exact absurd hm ((hingress b hk).2 m hmn)
      · rw [hslots k hkn] at hk
        exact h.apart m k b hm hk

/-! ### The wait queue after it -/

/-- A slot whose entry has left, if it had one, has none. -/
theorem State.TableSound.num_ne_of_mem (h : s.TableSound busy) (hs : ¬ (s.slot n).Holds .probeWait) {name : RecordName}
    (hmem : name ∈ s.waitNames) : name.num ≠ n := by
  rintro rfl
  exact hs ((h.waiting name).mp hmem).2

theorem State.TableSound.queueFollows_of_same (h : s.TableSound busy) (hqueue : t.waitQueue = s.waitQueue)
    (hs : ¬ (s.slot n).Holds .probeWait) (ht : ¬ (t.slot n).Holds .probeWait) : s.QueueFollows t n where
  ordered := hqueue ▸ h.ordered
  excess := hqueue ▸ h.excess
  once := by
    rw [State.waitNames, hqueue]
    exact h.once
  waiting name := by
    have hnames : t.waitNames = s.waitNames := by rw [State.waitNames, State.waitNames, hqueue]
    rw [hnames]
    constructor
    · exact fun hmem => .inl ⟨hmem, h.num_ne_of_mem hs hmem⟩
    · rintro (⟨hmem, -⟩ | ⟨-, hholds⟩)
      · exact hmem
      · exact absurd hholds ht

theorem State.TableSound.queueFollows_of_join (h : s.TableSound busy) {e : WaitEntry}
    (hqueue : t.waitQueue = insertEntry e s.waitQueue) (he : e.name = t.nameOf n) (hexcess : e.excess ≤ 255)
    (hs : ¬ (s.slot n).Holds .probeWait) (ht : (t.slot n).Holds .probeWait) : s.QueueFollows t n := by
  have hnum : e.name.num = n := by rw [he]; rfl
  have hnew (name : RecordName) (hmem : name ∈ s.waitNames) : name.num ≠ e.name.num :=
    hnum ▸ h.num_ne_of_mem hs hmem
  have hnames : t.waitNames.Perm (e.name :: s.waitNames) := by
    rw [State.waitNames, hqueue]
    exact (insertEntry_perm e s.waitQueue).map _
  refine ⟨?_, fun y hy => ?_, ?_, fun name => ?_⟩
  · rw [hqueue]
    exact pairwise_insertEntry h.ordered fun y hy => hnew _ (State.mem_waitNames.mpr ⟨y, hy, rfl⟩)
  · rw [hqueue] at hy
    obtain rfl | hy := mem_insertEntry.mp hy
    · exact hexcess
    · exact h.excess y hy
  · rw [hnames.nodup_iff, List.nodup_cons]
    exact ⟨fun hmem => hnew _ hmem rfl, h.once⟩
  · rw [hnames.mem_iff, List.mem_cons, he]
    constructor
    · rintro (rfl | hmem)
      · exact .inr ⟨rfl, ht⟩
      · exact .inl ⟨hmem, h.num_ne_of_mem hs hmem⟩
    · rintro (⟨hmem, -⟩ | ⟨rfl, -⟩)
      · exact .inr hmem
      · exact .inl rfl

theorem State.TableSound.queueFollows_of_leave (h : s.TableSound busy)
    (hqueue : t.waitQueue = s.waitQueue.filter fun e => e.name != s.nameOf n) (ht : ¬ (t.slot n).Holds .probeWait) :
    s.QueueFollows t n := by
  refine ⟨?_, fun y hy => ?_, ?_, fun name => ?_⟩
  · rw [hqueue]
    exact h.ordered.filter _
  · rw [hqueue] at hy
    exact h.excess y (List.mem_of_mem_filter hy)
  · rw [State.waitNames, hqueue]
    exact h.once.sublist (List.filter_sublist.map _)
  · have hmem : name ∈ t.waitNames ↔ name ∈ s.waitNames ∧ name ≠ s.nameOf n := by
      simp only [State.mem_waitNames, hqueue, List.mem_filter, bne_iff_ne]
      constructor
      · rintro ⟨e, ⟨he, hne⟩, rfl⟩
        exact ⟨⟨e, he, rfl⟩, hne⟩
      · rintro ⟨⟨e, he, rfl⟩, hne⟩
        exact ⟨e, ⟨he, hne⟩, rfl⟩
    rw [hmem]
    constructor
    · rintro ⟨hname, hne⟩
      refine .inl ⟨hname, fun hnum => hne ?_⟩
      rw [State.name_eq_nameOf ((h.waiting name).mp hname).1, hnum]
    · rintro (⟨hname, hne⟩ | ⟨-, hholds⟩)
      · exact ⟨hname, fun heq => hne (by rw [heq]; rfl)⟩
      · exact absurd hholds ht

/-! ### The round after it -/

theorem State.TableSound.busyFollows_of_same (h : s.TableSound busy) (hs : ¬ (s.slot n).Holds .probing)
    (ht : ¬ (t.slot n).Holds .probing) : t.BusyFollows n busy busy := by
  intro name
  constructor
  · intro hbusy
    refine .inl ⟨hbusy, ?_⟩
    rintro rfl
    exact hs ((h.probing name).mp hbusy).2
  · rintro (⟨hbusy, -⟩ | ⟨-, hholds⟩)
    · exact hbusy
    · exact absurd hholds ht

theorem State.TableSound.busyFollows_of_end (h : s.TableSound busy) (hs : (s.slot n).Holds .probing)
    (ht : ¬ (t.slot n).Holds .probing) : t.BusyFollows n busy none := by
  have hbusy : busy = some (s.nameOf n) := (h.probing _).mpr (State.names_nameOf_iff.mpr hs)
  intro name
  constructor
  · exact nofun
  · rintro (⟨hname, hne⟩ | ⟨-, hholds⟩)
    · rw [hbusy] at hname
      obtain rfl := Option.some.inj hname
      exact absurd rfl hne
    · exact absurd hholds ht

theorem State.busyFollows_of_begin (ht : (t.slot n).Holds .probing) : t.BusyFollows n none (some (t.nameOf n)) := by
  intro name
  constructor
  · intro hname
    exact .inr ⟨(Option.some.inj hname).symm, ht⟩
  · rintro (⟨hnone, -⟩ | ⟨rfl, -⟩)
    · exact absurd hnone nofun
    · rfl

/-! ### The band after it -/

theorem State.TableSound.ingressFollows_of_kept (h : s.TableSound busy)
    (hkept : ∀ b, (t.slot n).IngressOf b → (s.slot n).IngressOf b) : s.IngressFollows t n :=
  fun b hb => ⟨h.baseline n b (hkept b hb), fun m hm hother => hm (h.apart m n b hother (hkept b hb))⟩

end OneSlot

/-! ### The links (R27, R28) -/

/-- A slot keeps its CONFIRMED echo record on a leg, and gains no link there. -/
structure Slot.LinksKept (l : Leg) (x y : Slot) : Prop where
  echo : x.EchoOn l → y.gen = x.gen ∧ y.EchoOn l
  links : ∀ name, y.LinksTo l name → x.LinksTo l name

theorem Slot.LinksKept.refl (l : Leg) (x : Slot) : x.LinksKept l x := ⟨fun h => ⟨rfl, h⟩, fun _ h => h⟩

section Links
variable {s t : State} {l leg : Leg} {busy : Option RecordName}

theorem State.LinkedOn.of_slots (h : s.LinkedOn l) (hslots : ∀ n, (s.slot n).LinksKept l (t.slot n)) : t.LinkedOn l := by
  intro n name hname
  obtain ⟨hgen, hecho⟩ := h n name ((hslots n).links name hname)
  obtain ⟨hsame, hecho'⟩ := (hslots name.num).echo hecho
  exact ⟨hsame.trans hgen, hecho'⟩

theorem State.LinkedOn.congr (h : s.LinkedOn l) (htable : t.table = s.table) : t.LinkedOn l := by
  refine h.of_slots fun n => ?_
  rw [State.slot, State.slot, htable]
  exact .refl l _

/-- A slot written anew, where every other stands. -/
theorem State.LinkedOn.of_slot {n : SlotNo} (h : s.LinkedOn l) (hslots : ∀ m, m ≠ n → t.slot m = s.slot m)
    (hslot : (s.slot n).LinksKept l (t.slot n)) : t.LinkedOn l := by
  refine h.of_slots fun m => ?_
  by_cases hm : m = n
  · subst hm
    exact hslot
  · rw [hslots m hm]
    exact .refl l _

theorem Slot.LinkMoved.record_cases {x y : Slot} (h : x.LinkMoved y) {r' : Record} (hy : y.record = some r') :
    ∃ r, x.record = some r ∧ r'.state = r.state ∧ (r' = r ∨ ∃ g target, r.state = .confirmed ∧ r.body = .ingress g ∧
      r' = { r with body := .ingress { g with link := target } }) := by
  obtain rfl | ⟨r, g, target, hx, hr, hs, rfl⟩ := h
  · exact ⟨r', hy, rfl, .inl rfl⟩
  · obtain rfl := Option.some.inj hy
    exact ⟨r, hx, rfl, .inr ⟨g, target, hs, hr, rfl⟩⟩

theorem Slot.LinkMoved.follows {x y : Slot} (h : x.LinkMoved y) : x.Follows y := by
  obtain rfl | ⟨r, g, target, hx, hr, hs, rfl⟩ := h
  · exact .refl _
  · refine ⟨fun st _ => ⟨?_, fun _ => rfl⟩, fun b hb => ?_⟩
    · rw [Slot.holds_of_record hx, Slot.holds_of_record (x := Slot.mk _ _ _) rfl]
    · rw [Slot.ingressOf_of_ingress (g := { g with link := target }) rfl rfl] at hb
      exact (Slot.ingressOf_of_ingress hx hr).mpr hb

theorem Slot.LinkMoved.echoOn_iff {x y : Slot} (h : x.LinkMoved y) : y.EchoOn l ↔ x.EchoOn l := by
  obtain rfl | ⟨r, g, target, hx, hr, hs, rfl⟩ := h
  · rfl
  · simp [Slot.EchoOn, hx, Record.confirmedEchoOn, hr]

/-- A link that an evaluation may write is one of a CONFIRMED record, which may have it. -/
theorem Slot.LinkMoved.sound {x y : Slot} {plant : PerLeg LegMap} (h : x.LinkMoved y) (hx : x.Sound plant) :
    y.Sound plant := by
  intro r' hy
  obtain ⟨r, hrec, -, rfl | ⟨g, target, hs, hr, rfl⟩⟩ := h.record_cases hy
  · exact hx r' hrec
  · obtain ⟨hranges, hfrozen, hingress⟩ := (Record.sound_iff_of_ingress hr).mp (hx r hrec)
    refine (Record.sound_iff_of_ingress rfl).mpr ⟨hranges, ?_, ?_⟩
    · rw [hfrozen]
      simp [Record.inZone, hr]
    · rw [IngressPart.sound_iff] at hingress ⊢
      obtain ⟨hseverity, hattempts, hstreak, hsuspect, hwaiting, hleg, hleg', -⟩ := hingress
      exact ⟨hseverity, hattempts, hstreak, hsuspect, hwaiting, hleg, hleg', fun _ => hs⟩

theorem State.TableSound.of_linksMoved (h : s.TableSound busy) (hmoved : s.LinksMoved t) : t.TableSound busy := by
  obtain ⟨hframe, hslots⟩ := hmoved
  have hplant : t.plant = s.plant := by rw [hframe]; rfl
  have hqueue : t.waitQueue = s.waitQueue := by rw [hframe]; rfl
  have hbands : t.bands = s.bands := by rw [hframe]; rfl
  refine h.of_slots (fun n => ?_) (fun n => (hslots n).follows) hqueue fun b hb => ?_
  · rw [hplant]
    exact (hslots n).sound (h.records n)
  · rwa [State.band, hbands]

theorem State.TableSound.evaluateLinks (h : s.TableSound busy) (leg : Leg) : (s.evaluateLinks leg).TableSound busy :=
  h.of_linksMoved (.of_evaluateLinks s leg)

/-- An evaluation on one leg writes no link on another. -/
theorem State.linksTo_of_evaluateLinks {n : SlotNo} {name : RecordName} (hne : l ≠ leg)
    (h : ((s.evaluateLinks leg).slot n).LinksTo l name) : (s.slot n).LinksTo l name := by
  obtain ⟨r, g, hrec, hr, hleg, hlink⟩ := h
  rw [s.slot_evaluateLinks] at hrec
  have hsame : (s.slot n).relink leg (s.strongestEcho leg) = s.slot n := by
    refine Slot.relink_of_not_confirmed _ fun r₀ g₀ hrec₀ hr₀ hs₀ hleg₀ => hne ?_
    rw [Slot.relink_of_confirmed _ hrec₀ hr₀ hs₀ hleg₀] at hrec
    obtain rfl := Option.some.inj hrec
    obtain rfl := RecordBody.ingress.inj hr
    exact Option.some.inj (hleg.symm.trans hleg₀)
  rw [hsame] at hrec
  exact ⟨r, g, hrec, hr, hleg, hlink⟩

/-- An evaluation on one leg leaves the links on every other. -/
theorem State.LinkedOn.evaluateLinks_of_ne (h : s.LinkedOn l) (hne : l ≠ leg) : (s.evaluateLinks leg).LinkedOn l := by
  refine h.of_slots fun n => ⟨fun hecho => ?_, fun name hname => State.linksTo_of_evaluateLinks hne hname⟩
  rw [s.slot_evaluateLinks]
  have hmoved := Slot.LinkMoved.of_relink leg (s.strongestEcho leg) (s.slot n)
  exact ⟨hmoved.gen_eq, hmoved.echoOn_iff.mpr hecho⟩

/-- An evaluation on a leg leaves there links to the strongest echo record alone. -/
theorem State.linkedOn_evaluateLinks_self (hrecords : ∀ n, (s.slot n).Sound s.plant) (leg : Leg) :
    (s.evaluateLinks leg).LinkedOn leg := by
  rintro n name ⟨r, g, hrec, hr, hleg, hlink⟩
  rw [s.slot_evaluateLinks] at hrec
  have hmoved (m : SlotNo) := Slot.LinkMoved.of_relink leg (s.strongestEcho leg) (s.slot m)
  have hsound := (hmoved n).sound (hrecords n) r hrec
  obtain ⟨-, -, hingress⟩ := (Record.sound_iff_of_ingress hr).mp hsound
  have hs := ((IngressPart.sound_iff _ _ _).mp hingress).2.2.2.2.2.2.2 (by rw [hlink]; exact nofun)
  have hstrongest : s.strongestEcho leg = some name := by
    obtain ⟨r₀, hrec₀, hs₀, hbody⟩ := (hmoved n).record_cases hrec
    obtain ⟨g₀, hr₀, hleg₀⟩ : ∃ g₀, r₀.body = .ingress g₀ ∧ g₀.leg = some leg := by
      obtain rfl | ⟨g₁, target, -, hr₁, rfl⟩ := hbody
      · exact ⟨g, hr, hleg⟩
      · obtain rfl := RecordBody.ingress.inj hr
        exact ⟨g₁, hr₁, hleg⟩
    rw [Slot.relink_of_confirmed _ hrec₀ hr₀ (hs₀ ▸ hs) hleg₀] at hrec
    obtain rfl := Option.some.inj hrec
    obtain rfl := RecordBody.ingress.inj hr
    exact hlink
  obtain ⟨q, ⟨hq, hecho⟩, hgen, -⟩ := State.strongestEcho_eq_some hstrongest
  rw [s.slot_evaluateLinks]
  exact ⟨((hmoved _).gen_eq).trans hgen.symm, (hmoved _).echoOn_iff.mpr ⟨q, hq, hecho⟩⟩

/-- Where the links on every leg but one stand, the evaluation on that one makes them all stand. -/
theorem State.linkedOn_evaluateLinks (hrecords : ∀ n, (s.slot n).Sound s.plant) (h : ∀ k, k ≠ leg → s.LinkedOn k) :
    ∀ l, (s.evaluateLinks leg).LinkedOn l := by
  intro l
  by_cases hl : l = leg
  · subst hl
    exact s.linkedOn_evaluateLinks_self hrecords l
  · exact (h l hl).evaluateLinks_of_ne hl

end Links

end Machine
end Sys2Proof
end

section
/-! Proofs, family 11, eleventh part: the allocation of a slot, eviction, and what an observation writes. -/

namespace Sys2Proof
namespace Machine

/-! ### The lowest FREE slot and eviction (R8, R10) -/

theorem State.lowestFree_eq_some {s : State} {n : SlotNo} (h : s.isLowestFree n) : s.lowestFree = some n := by
  obtain ⟨hfree, hbelow⟩ := h
  have hsorted : allSlots.Pairwise fun a b => a < b := List.pairwise_lt_finRange 96
  refine find?_eq_some_of_sorted (num := id) hsorted (List.mem_finRange n) (by rw [hfree]; rfl) fun m _ hm => ?_
  exact Option.isNone_eq_false_iff.mpr (Option.isSome_iff_ne_none.mpr (hbelow m hm))

theorem State.lowestFree_eq_none {s : State} (h : ∀ n, s.record n ≠ none) : s.lowestFree = none :=
  List.find?_eq_none.mpr fun n _ => by simp [h n]

theorem State.allocationSlot_eq_some {s : State} {n : SlotNo}
    (h : s.isLowestFree n ∨ ((∀ m, s.record m ≠ none) ∧ s.evictionChoice = some n)) : s.allocationSlot = some n := by
  unfold State.allocationSlot
  obtain hfree | ⟨hfull, hevict⟩ := h
  · rw [State.lowestFree_eq_some hfree]
  · rw [State.lowestFree_eq_none hfull, hevict]

theorem State.allocationSlot_eq_none {s : State} (hfull : ∀ n, s.record n ≠ none) (h : s.evictionChoice = none) :
    s.allocationSlot = none := by
  rw [State.allocationSlot, State.lowestFree_eq_none hfull, h]

section Eviction
variable {s : State} {st : RecordState}

/-- The record of a slot is one that eviction may take in a state (R10). -/
def State.evictable (s : State) (st : RecordState) (n : SlotNo) (r : Record) : Prop :=
  s.record n = some r ∧ r.state = st ∧ r.pinned = false ∧ r.frozen = false

/-- The records that eviction may take in a state, in ascending number. -/
def State.evictables (s : State) (st : RecordState) : List (SlotNo × Record) := s.records.filter fun p => p.2.evictableIn st

theorem State.mem_evictables {p : SlotNo × Record} : p ∈ s.evictables st ↔ s.evictable st p.1 p.2 := by
  simp [State.evictables, State.evictable, Record.evictableIn, State.mem_records, and_assoc]

theorem State.evictables_eq_nil_iff : s.evictables st = [] ↔ ∀ n r, ¬ s.evictable st n r := by
  simp only [List.eq_nil_iff_forall_not_mem, State.mem_evictables, Prod.forall]

theorem State.evictables_sorted (s : State) (st : RecordState) : (s.evictables st).Pairwise fun p q => p.1 < q.1 :=
  s.records_sorted.filter _

theorem State.evictionChoice_eq (s : State) :
    s.evictionChoice =
      match least evictsClearedFirst (s.evictables .cleared) with
      | some p => some p.1
      | none => (least evictsSuspectFirst (s.evictables .suspect)).map Prod.fst := rfl

/-- Whatever eviction takes is CLEARED or SUSPECT, and not frozen. -/
theorem State.evictable_of_choice {n : SlotNo} (h : s.evictionChoice = some n) :
    ∃ r, s.evictable .cleared n r ∨ s.evictable .suspect n r := by
  rw [State.evictionChoice_eq] at h
  split at h
  · rename_i p hp
    obtain rfl := Option.some.inj h
    exact ⟨p.2, .inl (State.mem_evictables.mp (least_mem _ hp))⟩
  · obtain ⟨p, hp, rfl⟩ := Option.map_eq_some_iff.mp h
    exact ⟨p.2, .inr (State.mem_evictables.mp (least_mem _ hp))⟩

/-- The slot that an allocation takes is FREE, or holds a record that is CLEARED or SUSPECT. -/
theorem State.record_of_allocationSlot {n : SlotNo} (h : s.allocationSlot = some n) :
    ∀ r, s.record n = some r → r.state = .cleared ∨ r.state = .suspect := by
  intro r hr
  unfold State.allocationSlot at h
  split at h
  · rename_i m hm
    obtain rfl := Option.some.inj h
    have hfree := List.find?_some hm
    simp [hr] at hfree
  · obtain ⟨q, ⟨hq, hs, -⟩ | ⟨hq, hs, -⟩⟩ := State.evictable_of_choice h
    all_goals obtain rfl := Option.some.inj (hr.symm.trans hq)
    · exact .inl hs
    · exact .inr hs

/-- Class 1 is decided by the retention, and among equals by the number. -/
theorem State.least_cleared_iff {p : SlotNo × Record} :
    least evictsClearedFirst (s.evictables .cleared) = some p ↔
      s.evictable .cleared p.1 p.2 ∧ ∀ m q, s.evictable .cleared m q → m ≠ p.1 →
        p.2.retention.getD 255 < q.retention.getD 255 ∨
          (p.2.retention.getD 255 = q.retention.getD 255 ∧ p.1 < m) := by
  rw [least_eq_some_iff (num := Prod.fst) (by simp only [evictsClearedFirst, decide_eq_true_eq, decide_eq_false_iff_not]; omega)
    (by simp only [evictsClearedFirst, decide_eq_false_iff_not]; omega) (s.evictables_sorted _), State.mem_evictables]
  simp only [Prod.forall, State.mem_evictables, evictsClearedFirst, decide_eq_true_eq, decide_eq_false_iff_not, Fin.lt_def]
  refine and_congr_right fun _ => forall₂_congr fun m q => imp_congr_right fun _ => imp_congr_right fun _ => ?_
  omega

theorem evictsSuspectFirst_iff {a b : SlotNo × Record} :
    evictsSuspectFirst a b = true ↔
      a.2.score < b.2.score ∨ (a.2.score = b.2.score ∧ a.2.firstSeen.toNat < b.2.firstSeen.toNat) := by
  simp only [evictsSuspectFirst, Bool.or_eq_true, Bool.and_eq_true, decide_eq_true_eq, beq_iff_eq]

/-- Class 2 is decided by the score, then by first seen, and among equals by the number. -/
theorem State.least_suspect_iff {p : SlotNo × Record} :
    least evictsSuspectFirst (s.evictables .suspect) = some p ↔
      s.evictable .suspect p.1 p.2 ∧ ∀ m q, s.evictable .suspect m q → m ≠ p.1 →
        p.2.score < q.score ∨ (p.2.score = q.score ∧ p.2.firstSeen.toNat < q.firstSeen.toNat) ∨
          (p.2.score = q.score ∧ p.2.firstSeen = q.firstSeen ∧ p.1 < m) := by
  have hfalse (a b : SlotNo × Record) : evictsSuspectFirst a b = false ↔
      ¬ (a.2.score < b.2.score ∨ (a.2.score = b.2.score ∧ a.2.firstSeen.toNat < b.2.firstSeen.toNat)) := by
    rw [← evictsSuspectFirst_iff, Bool.not_eq_true]
  rw [least_eq_some_iff (num := Prod.fst) (by simp only [evictsSuspectFirst_iff, hfalse]; omega) (by simp only [hfalse]; omega)
    (s.evictables_sorted _), State.mem_evictables]
  simp only [Prod.forall, State.mem_evictables, evictsSuspectFirst_iff, hfalse, ← BitVec.toNat_inj, Fin.lt_def]
  refine and_congr_right fun _ => forall₂_congr fun m q => imp_congr_right fun _ => imp_congr_right fun _ => ?_
  omega

end Eviction

/-- Settles O25: each class is the least of its records by its own order, and the first is asked first. -/
theorem evictionFollowsTheTwoClasses : Obligations.EvictionFollowsTheTwoClasses := by
  unfold Obligations.EvictionFollowsTheTwoClasses
  intro s n
  dsimp only
  rw [State.evictionChoice_eq]
  refine ⟨fun hsome => ?cleared, fun hnone => ?suspect⟩
  case cleared =>
    have hne : s.evictables .cleared ≠ [] := fun hnil => by
      obtain ⟨m, q, hq⟩ := hsome
      exact State.evictables_eq_nil_iff.mp hnil m q hq
    obtain ⟨p, hp⟩ := Option.isSome_iff_exists.mp (least_isSome evictsClearedFirst hne)
    rw [hp, Option.some_inj]
    constructor
    · rintro rfl
      exact ⟨p.2, State.least_cleared_iff.mp hp⟩
    · rintro ⟨r, hr⟩
      exact congrArg Prod.fst (Option.some.inj (hp.symm.trans ((State.least_cleared_iff (p := (n, r))).mpr hr)))
  case suspect =>
    have hnil : s.evictables .cleared = [] := State.evictables_eq_nil_iff.mpr hnone
    have hleast : least evictsClearedFirst (s.evictables .cleared) = none := by rw [hnil]; rfl
    simp only [hleast, Option.map_eq_some_iff]
    constructor
    · rintro ⟨p, hp, rfl⟩
      exact ⟨p.2, State.least_suspect_iff.mp hp⟩
    · rintro ⟨r, hr⟩
      exact ⟨(n, r), (State.least_suspect_iff (p := (n, r))).mpr hr, rfl⟩

/-! ### Steps 4 to 7 of an observation (R95, R99 to R102) -/

theorem echoStateAfter_of_resting {st : RecordState} (confirmStations listLength : Nat)
    (h : st = .suspect ∨ st = .confirmed ∨ st = .cleared) :
    echoStateAfter confirmStations st listLength =
      if st = .confirmed ∨ confirmStations ≤ listLength then .confirmed else .suspect := by
  obtain rfl | rfl | rfl := h <;> simp [echoStateAfter]

/-- The state of an echo record after an observation. -/
def Record.observedState (confirmStations : Nat) (e : EchoPart) (r : Record) : RecordState :=
  echoStateAfter confirmStations r.state e.stations.length

/-- An echo record after the last steps of an observation: state, tap and frozen flag, with what a change of state takes along. -/
def Record.observed (plant : PerLeg LegMap) (confirmStations : Nat) (e : EchoPart) (r : Record) : Record :=
  { r with
    state := r.observedState confirmStations e
    recurrences := if r.state = .cleared then min 255 (r.recurrences + 1) else r.recurrences
    retention := if r.state = .cleared then none else r.retention
    acknowledged := if r.observedState confirmStations e = r.state then r.acknowledged else false
    frozen := (plant.get e.leg).zone.any fun z => decide (z.first ≤ e.position ∧ e.position ≤ z.last)
    body := .echo (e.retap plant (r.observedState confirmStations e)) }

section Observed
variable {r : Record} {e : EchoPart} {plant : PerLeg LegMap} {confirmStations : Nat}

theorem Record.observedState_cases (h : r.resting) :
    r.observedState confirmStations e = .suspect ∨ r.observedState confirmStations e = .confirmed := by
  rw [Record.observedState, echoStateAfter_of_resting _ _ h]
  split
  · exact .inr rfl
  · exact .inl rfl

theorem EchoPart.retap_kept (plant : PerLeg LegMap) (st : RecordState) (e : EchoPart) :
    (e.retap plant st).leg = e.leg ∧ (e.retap plant st).position = e.position := by
  cases st <;> exact ⟨rfl, rfl⟩

theorem Record.observed_eq (h : r.resting) :
    ({ (if r.state = .cleared then { r with recurrences := min 255 (r.recurrences + 1) } else r).enter
        (r.observedState confirmStations e) with
        body := .echo (e.retap plant (r.observedState confirmStations e)) } : Record).refreeze plant =
      r.observed plant confirmStations e := by
  obtain ⟨hleg, hposition⟩ := e.retap_kept plant (r.observedState confirmStations e)
  have hzone (q : Record) : Record.inZone plant
      { q with body := .echo (e.retap plant (r.observedState confirmStations e)) } =
        (plant.get e.leg).zone.any fun z => decide (z.first ≤ e.position ∧ e.position ≤ z.last) := by
    rw [Record.inZone_of_echo plant rfl, hleg, hposition]
  rw [Record.refreeze, hzone, Record.observed]
  have hstate := r.observedState_cases (confirmStations := confirmStations) (e := e) h
  generalize r.observedState confirmStations e = st at hstate
  obtain hs | hs | hs := h <;> obtain rfl | rfl := hstate <;> simp [Record.enter, hs]

theorem State.concludeObservation_eq {s : State} {n : SlotNo} (hrec : s.record n = some r) (hr : r.body = .echo e)
    (h : r.resting) (touched : Bool) :
    let st := r.observedState s.settings.confirmStations e
    let put := s.putRecord n (r.observed s.plant s.settings.confirmStations e)
      (touched || st != r.state || (e.retap s.plant st).tap != e.tap)
    s.concludeObservation n touched =
      if st = .confirmed ∧ r.state ≠ .confirmed then (put.raise flagConfirmed).evaluateLinks e.leg else put := by
  rw [← Record.observed_eq h]
  simp only [State.concludeObservation, hrec, hr]
  rfl

end Observed

/-! ### An observation matched (R80, R83, R84, R95 to R98) -/

/-- A matched record after the first steps of an observation: the evidence, position and spread, and the station list. -/
def Record.fed (scoreAdd : Nat) (o : Observation) (e : EchoPart) (r : Record) : Record :=
  { r with
    score := min 100 (r.score + scoreAdd), observations := min 65535 (r.observations + 1), lastEvidence := o.second
    severity := min r.severity o.level
    body := .echo { e.observe r.observations o with stations := appendHandle o.handle e.stations } }

/-- The echo part of that record. -/
def EchoPart.fed (observations : Nat) (o : Observation) (e : EchoPart) : EchoPart :=
  { e.observe observations o with stations := appendHandle o.handle e.stations }

theorem State.observe_of_matched {s : State} {o : Observation} {n : SlotNo} {r : Record} {e : EchoPart}
    (hmatch : s.matchEcho o = some n) (hrec : s.record n = some r) (hr : r.body = .echo e) :
    s.observe o =
      (s.setSlot n { s.slot n with record := some (r.fed s.settings.scoreAdd o e) }).concludeObservation n
        ((e.fed r.observations o).position != e.position ||
          (e.fed r.observations o).stations.length != e.stations.length) := by
  rw [← State.putRecord_eq_setSlot_of_unchanged]
  simp only [State.observe, hmatch, State.feedEcho, hrec, hr, Record.addEvidence, Record.fed, EchoPart.fed, EchoPart.observe]

/-- What a matched observation makes of the state: the record written, and on entry to CONFIRMED the flag and the links. -/
theorem State.observe_matched_eq {s : State} {o : Observation} {n : SlotNo} {r : Record} {e : EchoPart}
    (hmatch : s.matchEcho o = some n) (hrec : s.record n = some r) (hr : r.body = .echo e) :
    let new := e.fed r.observations o
    let st := r.observedState s.settings.confirmStations new
    let put := s.setSlot n
      { gen := (s.slot n).gen
        changed := (s.slot n).changed || (new.position != e.position || new.stations.length != e.stations.length ||
          st != r.state || (new.retap s.plant st).tap != e.tap)
        record := some ((r.fed s.settings.scoreAdd o e).observed s.plant s.settings.confirmStations new) }
    s.observe o =
      if st = .confirmed ∧ r.state ≠ .confirmed then (put.raise flagConfirmed).evaluateLinks e.leg else put := by
  obtain ⟨q, f, ⟨hq, -, -, hrest, -⟩, -⟩ := (s.matchEcho_eq_some_iff o n).mp hmatch
  obtain rfl := Option.some.inj (hrec.symm.trans hq)
  have hfed : (r.fed s.settings.scoreAdd o e).resting := hrest
  have hconcluded := State.concludeObservation_eq
    (s := s.setSlot n { s.slot n with record := some (r.fed s.settings.scoreAdd o e) }) (e := e.fed r.observations o)
    (State.record_setSlot_self _ _ _) rfl hfed
    ((e.fed r.observations o).position != e.position || (e.fed r.observations o).stations.length != e.stations.length)
  simp only [State.putRecord_setSlot] at hconcluded
  rw [State.observe_of_matched hmatch hrec hr]
  exact hconcluded

/-- The record that a matched observation writes. -/
theorem Record.observed_fed_eq {r : Record} {e : EchoPart} {o : Observation} {plant : PerLeg LegMap}
    {scoreAdd confirmStations : Nat} (h : r.resting) :
    let new := e.fed r.observations o
    let st := r.observedState confirmStations new
    (r.fed scoreAdd o e).observed plant confirmStations new =
      { r with
        state := st, score := min 100 (r.score + scoreAdd), observations := min 65535 (r.observations + 1)
        lastEvidence := o.second, severity := min r.severity o.level
        recurrences := if r.state = .cleared then min 255 (r.recurrences + 1) else r.recurrences
        retention := if r.state = .cleared then none else r.retention
        acknowledged := if st = r.state then r.acknowledged else false
        frozen := (plant.get e.leg).zone.any fun z => decide (z.first ≤ new.position ∧ new.position ≤ z.last)
        body := .echo { new with
          tap := if st = .confirmed then nearestTap (plant.get e.leg).taps new.position else none } } := by
  have hst : (r.fed scoreAdd o e).observedState confirmStations (e.fed r.observations o) =
      r.observedState confirmStations (e.fed r.observations o) := rfl
  have hcases := r.observedState_cases (confirmStations := confirmStations) (e := e.fed r.observations o) h
  dsimp only
  rw [Record.observed, hst]
  obtain hst | hst := hcases <;> rw [hst] <;> rfl

/-- Settles O26: the first steps feed the record, the last ones give it its state, tap and frozen flag. -/
theorem matchedObservationFeedsTheRecord : Obligations.MatchedObservationFeedsTheRecord := by
  unfold Obligations.MatchedObservationFeedsTheRecord
  intro s o n r e hmatch hrec hr
  dsimp only
  obtain ⟨q, f, ⟨hq, -, -, hrest, -⟩, -⟩ := (s.matchEcho_eq_some_iff o n).mp hmatch
  obtain rfl := Option.some.inj (hrec.symm.trans hq)
  have hobserved := State.observe_matched_eq hmatch hrec hr
  dsimp only at hobserved
  have hlist : (e.fed r.observations o).stations =
      if (e.stations.contains o.handle || decide (8 ≤ e.stations.length)) = true then e.stations
      else e.stations ++ [o.handle] := rfl
  have hstate : r.observedState s.settings.confirmStations (e.fed r.observations o) =
      if r.state = .confirmed ∨ s.settings.confirmStations ≤ (e.fed r.observations o).stations.length then .confirmed
      else .suspect := echoStateAfter_of_resting _ _ hrest
  rw [Record.observed_fed_eq hrest] at hobserved
  rw [← hlist, ← hstate]
  have hcases := r.observedState_cases (confirmStations := s.settings.confirmStations) (e := e.fed r.observations o) hrest
  generalize r.observedState s.settings.confirmStations (e.fed r.observations o) = st at hobserved hcases
  have htap : ((e.fed r.observations o).retap s.plant st).tap =
      if st = .confirmed then nearestTap (s.plant.get e.leg).taps (e.fed r.observations o).position else none := by
    obtain rfl | rfl := hcases <;> rfl
  have hzone : ((s.plant.get e.leg).zone.any fun z =>
        decide (z.first ≤ (e.fed r.observations o).position ∧ (e.fed r.observations o).position ≤ z.last)) =
      match (s.plant.get e.leg).zone with
      | none => false
      | some z => decide (z.first ≤ (e.fed r.observations o).position ∧ (e.fed r.observations o).position ≤ z.last) := by
    cases (s.plant.get e.leg).zone <;> rfl
  have hchanged (position position' length length' : Nat) (tap tap' : Option Nat) :
      (position != position' || length != length' || st != r.state || tap != tap') =
        decide (st ≠ r.state ∨ position ≠ position' ∨ length ≠ length' ∨ tap ≠ tap') := by
    rw [Bool.eq_iff_iff]
    simp only [Bool.or_eq_true, bne_iff_ne, decide_eq_true_eq]
    tauto
  rw [htap, hzone, hchanged] at hobserved
  refine ⟨fun hsame => hobserved.trans (if_neg ?_), fun hne hconfirmed => hobserved.trans (if_pos ⟨hconfirmed, ?_⟩)⟩
  · rintro ⟨rfl, hother⟩
    exact hsame.elim (fun h => hother h.symm) nofun
  · exact fun h => hne (hconfirmed.trans h.symm)

/-! ### An observation without a candidate (R80, R96, R11) -/

/-- The echo part of the record that an observation opens. -/
def Observation.part (o : Observation) : EchoPart :=
  { leg := o.leg, position := o.position, spreadMin := o.position, spreadMax := o.position, tap := none
    stations := [o.handle], staleScale := false }

/-- The record that an observation opens, before its state is judged. -/
def Observation.opened (c : Settings) (o : Observation) : Record := newEcho c o.leg o.position o.level o.handle o.second

section Unmatched
variable {s : State} {o : Observation} (hmatch : s.matchEcho o = none)
include hmatch

theorem State.observe_of_full (h : s.allocationSlot = none) : s.observe o = s.raise flagTableFull := by
  simp only [State.observe, hmatch, State.openEcho, h]

/-- What an observation without a candidate makes of the state: a new record, CONFIRMED at once with its flag and the links
where one station is enough. -/
theorem State.observe_opened_eq {n : SlotNo} (h : s.allocationSlot = some n) :
    let put := s.setSlot n
      { gen := (s.slot n).gen + 1, changed := true
        record := some ((o.opened s.settings).observed s.plant s.settings.confirmStations o.part) }
    s.observe o =
      if s.settings.confirmStations ≤ 1 then (put.raise flagConfirmed).evaluateLinks o.leg else put := by
  have hconcluded := State.concludeObservation_eq (s := s.allocateAt n (o.opened s.settings)) (r := o.opened s.settings)
    (e := o.part) (State.record_setSlot_self _ _ _) rfl (.inl rfl) false
  have hst : (o.opened s.settings).observedState s.settings.confirmStations o.part =
      if s.settings.confirmStations ≤ 1 then .confirmed else .suspect := rfl
  have hobserve : s.observe o = (s.allocateAt n (o.opened s.settings)).concludeObservation n false := by
    simp only [State.observe, hmatch, State.openEcho, h]
    rfl
  have hsettings : (s.allocateAt n (o.opened s.settings)).settings = s.settings := rfl
  simp only [State.allocateAt, State.putRecord_setSlot, Bool.true_or] at hconcluded
  rw [hobserve]
  refine hconcluded.trans ?_
  by_cases hone : s.settings.confirmStations ≤ 1
  · rw [if_pos hone]
    exact if_pos ⟨hst.trans (if_pos hone), nofun⟩
  · rw [if_neg hone]
    have hsuspect : (o.opened s.settings).observedState s.settings.confirmStations o.part ≠ .confirmed := by
      rw [hst, if_neg hone]
      exact nofun
    exact if_neg fun hboth => hsuspect hboth.1

end Unmatched

/-- The record that an observation opens outside the work zone is not frozen, and has a tap where it is CONFIRMED at once. -/
theorem Observation.observed_opened {o : Observation} {c : Settings} {plant : PerLeg LegMap} (confirmStations : Nat)
    (hzone : ∀ z, (plant.get o.leg).zone = some z → o.position < z.first ∨ z.last < o.position) :
    (o.opened c).observed plant confirmStations o.part =
      { o.opened c with
        state := if confirmStations ≤ 1 then .confirmed else .suspect
        body := .echo { o.part with
          tap := if confirmStations ≤ 1 then nearestTap (plant.get o.leg).taps o.position else none } } := by
  have hst : (o.opened c).observedState confirmStations o.part = if confirmStations ≤ 1 then .confirmed else .suspect := rfl
  have hfrozen : ((plant.get o.part.leg).zone.any fun z =>
      decide (z.first ≤ o.part.position ∧ o.part.position ≤ z.last)) = false := by
    cases hz : (plant.get o.part.leg).zone with
    | none => rfl
    | some z =>
      have hout : o.part.position < z.first ∨ z.last < o.part.position := hzone z hz
      rw [Option.any_some, decide_eq_false_iff_not]
      omega
  rw [Record.observed, hst, hfrozen]
  split <;> rfl

/-- Settles O24: the slot is the one that the allocation takes, and the new record is judged as a matched one is. -/
theorem unmatchedObservationOpensARecord : Obligations.UnmatchedObservationOpensARecord := by
  unfold Obligations.UnmatchedObservationOpensARecord
  intro s o hmatch hzone
  dsimp only
  refine ⟨fun n htakes hmany => ?suspect, fun n htakes hone => ?confirmed, fun hfull hnone => ?full⟩
  case suspect =>
    rw [State.observe_opened_eq hmatch (State.allocationSlot_eq_some htakes), Observation.observed_opened _ hzone,
      if_neg (Nat.not_le.mpr hmany), if_neg (Nat.not_le.mpr hmany), if_neg (Nat.not_le.mpr hmany)]
    rfl
  case confirmed =>
    rw [State.observe_opened_eq hmatch (State.allocationSlot_eq_some htakes), Observation.observed_opened _ hzone,
      if_pos hone.le, if_pos hone.le, if_pos hone.le]
    refine ⟨?_, State.flagSet_raise_self (by decide) _⟩
    rw [State.slot_evaluateLinks, State.slot_raise, State.slot_setSlot_self]
    exact Slot.relink_of_echo _ rfl rfl
  case full => exact State.observe_of_full hmatch (State.allocationSlot_eq_none hfull hnone)

end Machine
end Sys2Proof
end

section
/-! Proofs, family 11, twelfth part: every change of a record leaves it sound. -/

namespace Sys2Proof
namespace Machine

/-! ### The map that a record is judged by -/

section Plant
variable {plant plant' : PerLeg LegMap} {r : Record}

theorem Record.inZone_congr (hzone : ∀ l, (plant'.get l).zone = (plant.get l).zone) : r.inZone plant' = r.inZone plant := by
  cases hr : r.body with
  | echo e => simp [Record.inZone, hr, hzone]
  | ingress g => simp [Record.inZone, hr, hzone]

theorem Record.inZone_of_ingress {g : IngressPart} (plant : PerLeg LegMap) (hr : r.body = .ingress g) :
    r.inZone plant = g.leg.any fun l => (plant.get l).zone.isSome := by
  cases hl : g.leg <;> simp [Record.inZone, hr, hl]

/-- A record is judged by the zones and by the number of taps alone. -/
theorem Record.sound_congr (hzone : ∀ l, (plant'.get l).zone = (plant.get l).zone)
    (htaps : ∀ l, (plant'.get l).taps.length = (plant.get l).taps.length) : r.sound plant' = r.sound plant := by
  simp only [Record.sound, Record.inZone_congr hzone, EchoPart.sound, htaps]

end Plant

/-! ### Records of both kinds -/

section Both
variable {plant : PerLeg LegMap} {r r' : Record}

theorem Record.ranges_of_sound (h : r.sound plant = true) : r.rangesSound = true := by
  simp only [Record.sound, Bool.and_eq_true] at h
  exact h.1.1

/-- A record whose counts, seconds and operator's fields are other ones in range is sound where it was. -/
theorem Record.sound_of_same (h : r.sound plant = true) (hstate : r'.state = r.state) (hseverity : r'.severity = r.severity)
    (hfrozen : r'.frozen = r.frozen) (hbody : r'.body = r.body) (hranges : r'.rangesSound = true) :
    r'.sound plant = true := by
  have hzone : r'.inZone plant = r.inZone plant := by rw [Record.inZone, hbody]; rfl
  simp only [Record.sound, Bool.and_eq_true] at h ⊢
  obtain ⟨⟨-, hsame⟩, hpart⟩ := h
  refine ⟨⟨hranges, ?_⟩, ?_⟩
  · rw [hfrozen, hzone]
    exact hsame
  · rw [hbody, hstate, hseverity]
    exact hpart

/-- The operator's fields may change, the ticket to any but 0 (R172 to R174). -/
theorem Record.sound_noted (h : r.sound plant = true) (acknowledged pinned : Bool) {ticket : Option Word32}
    (hticket : ticket = r.ticket ∨ ticket ≠ some 0) :
    Record.sound plant { r with acknowledged := acknowledged, pinned := pinned, ticket := ticket } = true := by
  refine Record.sound_of_same h rfl rfl rfl rfl ?_
  obtain ⟨hscore, hlow, hhigh, hrecurrences, hretention, hold⟩ := (Record.rangesSound_iff r).mp (Record.ranges_of_sound h)
  refine (Record.rangesSound_iff _).mpr ⟨hscore, hlow, hhigh, hrecurrences, hretention, ?_⟩
  obtain rfl | hnew := hticket
  · exact hold
  · exact hnew

end Both

/-! ### Aging (R14 to R17) -/

section Age
variable {plant : PerLeg LegMap} {c : Settings} {r r' : Record}

theorem Record.sound_scored (h : r.sound plant = true) (step : Nat) :
    Record.sound plant { r with score := r.score - step } = true := by
  refine Record.sound_of_same h rfl rfl rfl rfl ?_
  obtain ⟨hscore, hrest⟩ := (Record.rangesSound_iff r).mp (Record.ranges_of_sound h)
  exact (Record.rangesSound_iff _).mpr ⟨(Nat.sub_le _ _).trans hscore, hrest⟩

theorem Record.rangesSound_clear (h : r.rangesSound = true) {retention : Nat} (hretention : retention ≤ 255) :
    (r.clear retention).rangesSound = true := by
  obtain ⟨-, hlow, hhigh, hrecurrences, -, hticket⟩ := (Record.rangesSound_iff r).mp h
  have hkept : (r.clear retention).observations = r.observations ∧ (r.clear retention).recurrences = r.recurrences ∧
      (r.clear retention).ticket = r.ticket := by
    unfold Record.clear Record.enter
    split <;> exact ⟨rfl, rfl, rfl⟩
  obtain ⟨hobservations, hsame, hsame'⟩ := hkept
  rw [Record.rangesSound_iff, hobservations, hsame, hsame']
  refine ⟨Nat.zero_le _, hlow, hhigh, hrecurrences, fun k hk => ⟨?_, Record.state_clear _ _⟩, hticket⟩
  have hset : (if retention = 0 then none else some retention) = some k := hk
  split at hset
  · exact absurd hset nofun
  · obtain rfl := Option.some.inj hset
    exact hretention

/-- A record cleared from CONFIRMED keeps its leg, and one cleared from DORMANT or UNRESOLVED had none (R5, R16). -/
theorem Record.sound_clear (h : r.sound plant = true)
    (hs : r.state = .confirmed ∨ r.state = .dormant ∨ r.state = .unresolved) {retention : Nat} (hretention : retention ≤ 255) :
    (r.clear retention).sound plant = true := by
  have hne := Record.state_ne_cleared_of_decaying hs
  have hranges := Record.rangesSound_clear (Record.ranges_of_sound h) hretention
  have hseverity : (r.clear retention).severity = r.severity := by
    rw [Record.clear, Record.enter, if_neg hne]
  cases hr : r.body with
  | echo e =>
    obtain ⟨-, hfrozen, hecho⟩ := (Record.sound_iff_of_echo hr).mp h
    have hbody : (r.clear retention).body = .echo e := by
      simp [Record.clear, Record.enter, hne, RecordBody.agree, hr]
    have hsame : (r.clear retention).frozen = r.frozen := by
      simp [Record.clear, Record.enter, hne, RecordBody.agree, RecordBody.stillFrozen, hr]
    refine (Record.sound_iff_of_echo hbody).mpr ⟨hranges, ?_, ?_⟩
    · rw [hsame, hfrozen, Record.inZone_of_echo plant hr, Record.inZone_of_echo plant hbody]
    · rw [Record.state_clear, hseverity]
      rw [EchoPart.sound_iff] at hecho ⊢
      obtain ⟨hmin, hmax, hend, hlow, hhigh, hnodup, hlevel, hlevel', -, htap⟩ := hecho
      exact ⟨hmin, hmax, hend, hlow, hhigh, hnodup, hlevel, hlevel', .inr (.inr rfl), fun t ht => ⟨nofun, (htap t ht).2⟩⟩
  | ingress g =>
    obtain ⟨-, hfrozen, hingress⟩ := (Record.sound_iff_of_ingress hr).mp h
    rw [Record.inZone_of_ingress plant hr] at hfrozen
    rw [IngressPart.sound_iff] at hingress
    obtain ⟨hlevel, hattempts, hstreak, -, -, -, hleg, hlink⟩ := hingress
    have hkept : g.leg ≠ none → r.state = .confirmed := fun hsome => (hleg hsome).resolve_right hne
    have hbody : (r.clear retention).body = .ingress { g with link := none } := by
      by_cases hc : r.state = .confirmed
      · simp [Record.clear, Record.enter, RecordBody.agree, hr, hc]
      · have hnolink : g.link = none := by
          by_contra hsome
          exact hc (hlink hsome)
        simp [Record.clear, Record.enter, hne, RecordBody.agree, hr, hc, hnolink]
    have hfrozen' : (r.clear retention).frozen = if g.leg = none then false else r.frozen := by
      by_cases hc : r.state = .confirmed
      · simp [Record.clear, Record.enter, RecordBody.agree, RecordBody.stillFrozen, hr, hc]
      · simp [Record.clear, Record.enter, hne, RecordBody.agree, RecordBody.stillFrozen, hr, hc]
    refine (Record.sound_iff_of_ingress hbody).mpr ⟨hranges, ?_, ?_⟩
    · rw [hfrozen', hfrozen, Record.inZone_of_ingress plant hbody]
      cases g.leg <;> rfl
    · rw [Record.state_clear, hseverity, IngressPart.sound_iff]
      exact ⟨hlevel, hattempts, hstreak, nofun, nofun, nofun, fun _ => .inr rfl, fun hsome => absurd rfl hsome⟩

theorem Record.sound_age (h : r.sound plant = true) (hretention : c.retention ≤ 255) (hage : r.age c = some r') :
    r'.sound plant = true := by
  have hscored (hscore : some { r with score := r.score - c.agingStep } = some r') : r'.sound plant = true := by
    obtain rfl := Option.some.inj hscore
    exact Record.sound_scored h _
  by_cases hf : r.frozen = true
  · rw [Record.age_of_exempt (.inl hf)] at hage
    exact Option.some.inj hage ▸ h
  · have hf := Bool.eq_false_iff.mpr hf
    have hdecaying (hs : r.state = .confirmed ∨ r.state = .dormant ∨ r.state = .unresolved) : r'.sound plant = true := by
      rw [Record.age_of_decaying hf hs] at hage
      split at hage
      · obtain rfl := Option.some.inj hage
        exact Record.sound_clear h hs hretention
      · exact hscored hage
    cases hs : r.state with
    | probeWait | probing =>
      rw [Record.age_of_exempt (.inr (by simp [hs]))] at hage
      exact Option.some.inj hage ▸ h
    | suspect =>
      rw [Record.age_of_suspect hf hs] at hage
      split at hage
      · exact absurd hage nofun
      · exact hscored hage
    | confirmed | dormant | unresolved => exact hdecaying (by simp [hs])
    | cleared =>
      cases hk : r.retention with
      | none =>
        rw [Record.age_of_cleared_unretained hf hs hk] at hage
        exact Option.some.inj hage ▸ h
      | some k =>
        rw [Record.age_of_cleared hf hs hk] at hage
        split at hage
        · exact absurd hage nofun
        · obtain rfl := Option.some.inj hage
          refine Record.sound_of_same h rfl rfl rfl rfl ?_
          obtain ⟨hscore, hlow, hhigh, hrecurrences, hold, hticket⟩ :=
            (Record.rangesSound_iff r).mp (Record.ranges_of_sound h)
          refine (Record.rangesSound_iff _).mpr ⟨hscore, hlow, hhigh, hrecurrences, fun m hm => ?_, hticket⟩
          obtain rfl := Option.some.inj hm
          exact ⟨(Nat.sub_le _ _).trans (hold k hk).1, hs⟩

end Age

/-! ### Echo records (R83 to R85, R95 to R99, R177, R178) -/

theorem lt_of_nearestTap {taps : List Nat} {position k : Nat} (h : nearestTap taps position = some k) : k < taps.length := by
  obtain ⟨d, hd, -⟩ := (nearestTap_eq_some_iff taps position k).mp h
  exact (List.getElem?_eq_some_iff.mp hd).1

section Echo
variable {plant : PerLeg LegMap} {r : Record} {e : EchoPart}

/-- The tap that a state calls for lies within the leg's tap list (R25, R26). -/
theorem EchoPart.sound_retap {st : RecordState} (hmin : e.spreadMin ≤ e.position) (hmax : e.position ≤ e.spreadMax)
    (hend : e.spreadMax ≤ 20000) (hlow : 1 ≤ e.stations.length) (hhigh : e.stations.length ≤ 8) (hnodup : e.stations.Nodup)
    {severity : Nat} (hlevel : 20 ≤ severity) (hlevel' : severity ≤ 120)
    (hst : st = .suspect ∨ st = .confirmed ∨ st = .cleared) : (e.retap plant st).sound plant st severity = true := by
  rw [EchoPart.retap_of_resting plant e hst]
  refine (EchoPart.sound_iff _ _ _ _).mpr
    ⟨hmin, hmax, hend, hlow, hhigh, hnodup, hlevel, hlevel', hst, fun t ht => ?_⟩
  dsimp only at ht
  split at ht
  · exact absurd ht nofun
  · rename_i hne
    exact ⟨hne, lt_of_nearestTap ht⟩

/-- What an observation makes of a sound part is sound. -/
theorem Record.sound_observed {confirmStations : Nat} (hranges : r.rangesSound = true)
    (hpart : e.sound plant r.state r.severity = true) : (r.observed plant confirmStations e).sound plant = true := by
  obtain ⟨hmin, hmax, hend, hlow, hhigh, hnodup, hlevel, hlevel', hrest, -⟩ := (EchoPart.sound_iff _ _ _ _).mp hpart
  obtain ⟨hscore, hone, hmany, hrecurrences, hretention, hticket⟩ := (Record.rangesSound_iff r).mp hranges
  have hst := r.observedState_cases (confirmStations := confirmStations) (e := e) hrest
  have hst' : r.observedState confirmStations e = .suspect ∨ r.observedState confirmStations e = .confirmed ∨
      r.observedState confirmStations e = .cleared := hst.imp_right .inl
  refine (Record.sound_iff_of_echo rfl).mpr ⟨?_, ?_, ?_⟩
  · refine (Record.rangesSound_iff _).mpr ⟨hscore, hone, hmany, ?_, fun k hk => ?_, hticket⟩
    · simp only [Record.observed]
      split
      · exact Nat.min_le_left _ _
      · exact hrecurrences
    · simp only [Record.observed] at hk
      split at hk
      · exact absurd hk nofun
      · rename_i hne
        exact absurd (hretention k hk).2 hne
  · obtain ⟨hleg, hposition⟩ := e.retap_kept plant (r.observedState confirmStations e)
    rw [Record.inZone_of_echo plant rfl, hleg, hposition]
    rfl
  · exact EchoPart.sound_retap hmin hmax hend hlow hhigh hnodup hlevel hlevel' hst'

/-- A handle appended leaves a list of 1 to 8 distinct handles one (R97). -/
theorem appendHandle_sound {handle : Nat} {list : List Nat} (hlow : 1 ≤ list.length) (hhigh : list.length ≤ 8)
    (hnodup : list.Nodup) :
    1 ≤ (appendHandle handle list).length ∧ (appendHandle handle list).length ≤ 8 ∧ (appendHandle handle list).Nodup := by
  unfold appendHandle
  split
  · exact ⟨hlow, hhigh, hnodup⟩
  · rename_i h
    rw [Bool.not_eq_true, Bool.or_eq_false_iff] at h
    obtain ⟨hlisted, hfull⟩ := h
    have hnew : handle ∉ list := fun hmem => Bool.false_ne_true (hlisted.symm.trans (List.contains_iff_mem.mpr hmem))
    have hroom : ¬ 8 ≤ list.length := of_decide_eq_false hfull
    rw [List.length_append, List.length_singleton]
    refine ⟨by omega, by omega, List.nodup_append.mpr ⟨hnodup, List.nodup_singleton _, fun x hx y hy => ?_⟩⟩
    obtain rfl := List.mem_singleton.mp hy
    exact ne_of_mem_of_not_mem hx hnew

/-- The first steps of an observation leave a sound record with a sound part and its counts in range. -/
theorem Record.sound_fed {o : Observation} {scoreAdd : Nat} (h : r.sound plant = true) (hr : r.body = .echo e)
    (hposition : o.position ≤ 20000) (hlevel : 20 ≤ o.level) :
    (r.fed scoreAdd o e).rangesSound = true ∧
      (e.fed r.observations o).sound plant (r.fed scoreAdd o e).state (r.fed scoreAdd o e).severity = true := by
  obtain ⟨hranges, -, hecho⟩ := (Record.sound_iff_of_echo hr).mp h
  obtain ⟨hscore, hone, hmany, hrecurrences, hretention, hticket⟩ := (Record.rangesSound_iff r).mp hranges
  obtain ⟨hmin, hmax, hend, hlow, hhigh, hnodup, hlevel₀, hlevel₁, hst, htap⟩ := (EchoPart.sound_iff _ _ _ _).mp hecho
  obtain ⟨hlow', hhigh', hnodup'⟩ := appendHandle_sound (handle := o.handle) hlow hhigh hnodup
  obtain ⟨hbelow, habove⟩ := roundedMean_mem_Icc e.position (min r.observations 15) o.position
  refine ⟨(Record.rangesSound_iff _).mpr ⟨Nat.min_le_left _ _, ?_, Nat.min_le_left _ _, hrecurrences, hretention, hticket⟩,
    (EchoPart.sound_iff _ _ _ _).mpr ⟨?_, ?_, ?_, hlow', hhigh', hnodup', ?_, ?_, hst, htap⟩⟩
  · show 1 ≤ min 65535 (r.observations + 1)
    omega
  · exact (le_min ((min_le_left _ _).trans hmin) (min_le_right _ _)).trans hbelow
  · exact habove.trans (max_le (hmax.trans (le_max_left _ _)) (le_max_right _ _))
  · exact max_le hend hposition
  · exact le_min hlevel₀ hlevel
  · exact (min_le_left _ _).trans hlevel₁

theorem Observation.sound_opened {o : Observation} {c : Settings} (hposition : o.position ≤ 20000) (hlevel : 20 ≤ o.level)
    (hlevel' : o.level ≤ 120) (hscore : c.scoreAdd ≤ 50) :
    (o.opened c).rangesSound = true ∧ o.part.sound plant (o.opened c).state (o.opened c).severity = true := by
  refine ⟨(Record.rangesSound_iff _).mpr ⟨hscore.trans (by decide), le_rfl, show 1 ≤ 65535 by decide, Nat.zero_le _, nofun, nofun⟩,
    (EchoPart.sound_iff _ _ _ _).mpr
      ⟨le_rfl, le_rfl, hposition, le_rfl, show 1 ≤ 8 by decide, List.nodup_singleton _, hlevel, hlevel', .inl rfl, nofun⟩⟩

/-- A mean of two positions by weights of at least 1, half the divisor added, lies between them. -/
theorem mergedPosition_mem_Icc (a b : EchoPart) {na nb : Nat} (ha : 1 ≤ na) :
    mergedPosition a b na nb ∈ Set.Icc (min a.position b.position) (max a.position b.position) := by
  unfold mergedPosition
  have hwa : 1 ≤ min na 15 := le_min ha (by decide)
  generalize min na 15 = wa at hwa ⊢
  generalize min nb 15 = wb
  have low : min a.position b.position * wa ≤ a.position * wa := Nat.mul_le_mul_right wa (min_le_left ..)
  have low' : min a.position b.position * wb ≤ b.position * wb := Nat.mul_le_mul_right wb (min_le_right ..)
  have high : a.position * wa ≤ max a.position b.position * wa := Nat.mul_le_mul_right wa (le_max_left ..)
  have high' : b.position * wb ≤ max a.position b.position * wb := Nat.mul_le_mul_right wb (le_max_right ..)
  have hpos : 0 < wa + wb := by omega
  constructor
  · rw [Nat.le_div_iff_mul_le hpos, Nat.mul_add]
    omega
  · rw [← Nat.lt_succ_iff, Nat.div_lt_iff_lt_mul hpos, Nat.succ_mul, Nat.mul_add]
    omega

theorem mergedStations_sound {a b : List Nat} (hlow : 1 ≤ a.length) (hhigh : a.length ≤ 8) (hnodup : a.Nodup) :
    1 ≤ (mergedStations a b).length ∧ (mergedStations a b).length ≤ 8 ∧ (mergedStations a b).Nodup := by
  unfold mergedStations
  induction b generalizing a with
  | nil => exact ⟨hlow, hhigh, hnodup⟩
  | cons h rest ih =>
    obtain ⟨hlow', hhigh', hnodup'⟩ := appendHandle_sound (handle := h) hlow hhigh hnodup
    exact ih hlow' hhigh' hnodup'

theorem mergedRetention_le {x y : Option Nat} {k : Nat} (hx : ∀ i, x = some i → i ≤ 255) (hy : ∀ i, y = some i → i ≤ 255)
    (h : mergedRetention x y = some k) : k ≤ 255 := by
  unfold mergedRetention at h
  split at h
  · obtain rfl := Option.some.inj h
    exact max_le (hx _ rfl) (hy _ rfl)
  · exact absurd h nofun

/-- The surviving record of a merge is sound (R177, R178). -/
theorem Record.sound_merged {a b : Record} {ea eb : EchoPart} (ha : a.sound plant = true) (hb : b.sound plant = true)
    (hea : a.body = .echo ea) (heb : b.body = .echo eb) (confirmStations : Nat) :
    (mergeResult plant confirmStations a b ea eb).sound plant = true := by
  obtain ⟨hrangesA, -, hechoA⟩ := (Record.sound_iff_of_echo hea).mp ha
  obtain ⟨hrangesB, -, hechoB⟩ := (Record.sound_iff_of_echo heb).mp hb
  obtain ⟨hscoreA, honeA, hmanyA, hrecurrencesA, hretentionA, hticketA⟩ := (Record.rangesSound_iff a).mp hrangesA
  obtain ⟨hscoreB, honeB, hmanyB, hrecurrencesB, hretentionB, hticketB⟩ := (Record.rangesSound_iff b).mp hrangesB
  obtain ⟨hminA, hmaxA, hendA, hlowA, hhighA, hnodupA, hlevelA, hlevelA', hstA, -⟩ := (EchoPart.sound_iff _ _ _ _).mp hechoA
  obtain ⟨hminB, hmaxB, hendB, -, -, -, hlevelB, -, -, -⟩ := (EchoPart.sound_iff _ _ _ _).mp hechoB
  obtain ⟨hlow, hhigh, hnodup⟩ := mergedStations_sound (b := eb.stations) hlowA hhighA hnodupA
  obtain ⟨hbelow, habove⟩ := mergedPosition_mem_Icc ea eb (nb := b.observations) honeA
  have hretention : a.state ≠ .cleared → a.retention = none := fun hne => Record.retention_of_sound ha hne
  rw [mergeResult_eq hretention]
  have hst := mergedState_resting confirmStations (mergedEcho ea eb a.observations b.observations).stations.length a.state
    b.state
  refine (Record.sound_iff_of_echo rfl).mpr ⟨?_, ?_, ?_⟩
  · refine (Record.rangesSound_iff _).mpr ⟨max_le hscoreA hscoreB, ?_, Nat.min_le_left _ _,
      max_le hrecurrencesA hrecurrencesB, fun k hk => ?_, ?_⟩
    · show 1 ≤ min 65535 (a.observations + b.observations)
      omega
    · dsimp only at hk
      split at hk
      · rename_i hcleared
        exact ⟨mergedRetention_le (fun i hi => (hretentionA i hi).1) (fun i hi => (hretentionB i hi).1) hk, hcleared⟩
      · exact absurd hk nofun
    · show (if a.ticket.isSome then a.ticket else b.ticket) ≠ some 0
      split
      · exact hticketA
      · exact hticketB
  · rw [Record.inZone_of_echo plant rfl]
    rfl
  · have hretapped := EchoPart.sound_retap (plant := plant) (e := mergedEcho ea eb a.observations b.observations)
      (severity := min a.severity b.severity) ?_ ?_ (max_le hendA hendB) hlow hhigh hnodup (le_min hlevelA hlevelB)
      ((min_le_left _ _).trans hlevelA') hst
    · rw [EchoPart.retap_of_resting plant _ hst] at hretapped
      exact hretapped
    · exact (le_min ((min_le_left _ _).trans hminA) ((min_le_right _ _).trans hminB)).trans hbelow
    · exact habove.trans (max_le (hmaxA.trans (le_max_left _ _)) (hmaxB.trans (le_max_right _ _)))

end Echo

/-! ### Ingress records (R109 to R112, R128, R137, R140, R179) -/

section Ingress
variable {plant : PerLeg LegMap} {r : Record} {g : IngressPart}

/-- A record of a state without leg and link, with its counts in range, is sound where it is not frozen. -/
theorem Record.sound_of_unplaced {g : IngressPart} (hranges : r.rangesSound = true) (hr : r.body = .ingress g)
    (hfrozen : r.frozen = false) (hleg : g.leg = none) (hlink : g.link = none) (hseverity : r.severity ≤ 255)
    (hattempts : g.attempts ≤ 32) (hstreak : g.voidStreak ≤ 4) (hsuspect : r.state ≠ .suspect) (hconfirmed : r.state ≠ .confirmed)
    (hwaiting : r.state = .probeWait ∨ r.state = .probing → g.voidStreak ≤ 3) : r.sound plant = true := by
  refine (Record.sound_iff_of_ingress hr).mpr ⟨hranges, ?_, (IngressPart.sound_iff _ _ _).mpr
    ⟨hseverity, hattempts, hstreak, hsuspect, hwaiting, fun h => absurd h hconfirmed, fun h => absurd hleg h,
      fun h => absurd hlink h⟩⟩
  rw [hfrozen, Record.inZone_of_ingress plant hr, hleg]
  rfl

theorem Record.sound_newIngress {c : Settings} (b : Band) (excess : Nat) (second : Word32) (hscore : c.scoreAdd ≤ 50) :
    (newIngress c b excess second).sound plant = true :=
  Record.sound_of_unplaced
    ((Record.rangesSound_iff _).mpr ⟨hscore.trans (by decide), le_rfl, show 1 ≤ 65535 by decide, Nat.zero_le _, nofun, nofun⟩) rfl rfl rfl rfl
    (min_le_right _ _) (Nat.zero_le _) (Nat.zero_le _) nofun nofun fun _ => Nat.zero_le _

theorem Record.sound_addEvidence (h : r.sound plant = true) (hr : r.body = .ingress g) (scoreAdd strength : Nat)
    (second : Word32) : (r.addEvidence scoreAdd strength second).sound plant = true := by
  obtain ⟨hranges, hfrozen, hingress⟩ := (Record.sound_iff_of_ingress hr).mp h
  obtain ⟨hscore, hone, hmany, hrecurrences, hretention, hticket⟩ := (Record.rangesSound_iff r).mp hranges
  obtain ⟨hseverity, hrest⟩ := (IngressPart.sound_iff _ _ _).mp hingress
  rw [Record.addEvidence_of_ingress scoreAdd strength second hr]
  refine (Record.sound_iff_of_ingress ?body).mpr ⟨?_, hfrozen, (IngressPart.sound_iff _ _ _).mpr
    ⟨max_le hseverity (min_le_right _ _), hrest⟩⟩
  case body => exact hr
  refine (Record.rangesSound_iff _).mpr ⟨Nat.min_le_left _ _, ?_, Nat.min_le_left _ _, hrecurrences, hretention, hticket⟩
  show 1 ≤ min 65535 (r.observations + 1)
  omega

/-- Another state, recurrences and ingress part leave the other counts in range. -/
theorem Record.rangesSound_requeued (h : r.rangesSound = true) {recurrences : Nat} (hrecurrences : recurrences ≤ 255)
    (st : RecordState) (body : RecordBody) :
    Record.rangesSound
      { r with
        state := st, acknowledged := false, retention := none, recurrences := recurrences, frozen := false, body := body } =
      true := by
  obtain ⟨hscore, hone, hmany, -, -, hticket⟩ := (Record.rangesSound_iff r).mp h
  exact (Record.rangesSound_iff _).mpr ⟨hscore, hone, hmany, hrecurrences, nofun, hticket⟩

theorem Record.sound_reopened (h : r.sound plant = true) (hr : r.body = .ingress g) : (r.reopened g).sound plant = true := by
  obtain ⟨hranges, -, hingress⟩ := (Record.sound_iff_of_ingress hr).mp h
  have hseverity := ((IngressPart.sound_iff _ _ _).mp hingress).1
  exact Record.sound_of_unplaced (Record.rangesSound_requeued hranges (Nat.min_le_left _ _) _ _) rfl rfl rfl rfl hseverity
    (Nat.zero_le _) (Nat.zero_le _) nofun nofun fun _ => Nat.zero_le _

theorem Record.sound_reprobed (h : r.sound plant = true) (hr : r.body = .ingress g) : (r.reprobed g).sound plant = true := by
  obtain ⟨hranges, -, hingress⟩ := (Record.sound_iff_of_ingress hr).mp h
  have hseverity := ((IngressPart.sound_iff _ _ _).mp hingress).1
  have hrecurrences := ((Record.rangesSound_iff r).mp hranges).2.2.2.1
  exact Record.sound_of_unplaced (Record.rangesSound_requeued hranges hrecurrences _ _) rfl rfl rfl rfl hseverity
    (Nat.zero_le _) (Nat.zero_le _) nofun nofun fun _ => Nat.zero_le _

/-- A record goes between PROBE_WAIT and PROBING as it is, but for the acknowledged flag. -/
theorem Record.sound_between (h : r.sound plant = true) (hs : r.state = .probeWait ∨ r.state = .probing) {st : RecordState}
    (hst : st = .probeWait ∨ st = .probing) (acknowledged : Bool) :
    Record.sound plant { r with state := st, acknowledged := acknowledged, frozen := false } = true := by
  obtain ⟨g, hr, hleg, hlink, hstreak, -, hretention⟩ := Record.ingress_of_waiting h hs
  obtain ⟨hranges, -, hingress⟩ := (Record.sound_iff_of_ingress hr).mp h
  obtain ⟨hseverity, hattempts, hstreak', -⟩ := (IngressPart.sound_iff _ _ _).mp hingress
  obtain ⟨hscore, hone, hmany, hrecurrences, -, hticket⟩ := (Record.rangesSound_iff r).mp hranges
  refine Record.sound_of_unplaced (g := g) ((Record.rangesSound_iff _).mpr ⟨hscore, hone, hmany, hrecurrences, ?_, hticket⟩) hr rfl
    hleg hlink hseverity hattempts hstreak' ?_ ?_ fun _ => hstreak
  · intro k hk
    exact absurd (hretention.symm.trans hk) nofun
  · obtain rfl | rfl := hst <;> exact nofun
  · obtain rfl | rfl := hst <;> exact nofun

end Ingress

end Machine
end Sys2Proof
end

section
/-! Proofs, family 11, thirteenth part: the aging tick, the work zones, the activation and the observations leave the table and the
links sound. -/

namespace Sys2Proof
namespace Machine

/-! ### Table and links together -/

/-- Sound records, wait queue and round, and sound links. -/
structure State.Tabled (s : State) : Prop where
  table : s.TableSound s.busy
  links : ∀ l, s.LinkedOn l

section Tabled
variable {s t : State}

theorem State.Tabled.congr (h : s.Tabled) (htable : t.table = s.table) (hplant : t.plant = s.plant)
    (hbands : t.bands = s.bands) (hqueue : t.waitQueue = s.waitQueue) (hbusy : t.busy = s.busy) : t.Tabled :=
  ⟨hbusy ▸ h.table.congr htable hplant hbands hqueue, fun l => (h.links l).congr htable⟩

/-- A change of the slots alone. -/
theorem State.Tabled.of_slots (h : s.Tabled) (hrecords : ∀ n, (t.slot n).Sound t.plant)
    (hslots : ∀ n, (s.slot n).Follows (t.slot n)) (hlinks : ∀ l, t.LinkedOn l) (hqueue : t.waitQueue = s.waitQueue)
    (hbands : t.bands = s.bands) (hbusy : t.busy = s.busy) : t.Tabled := by
  refine ⟨hbusy ▸ h.table.of_slots hrecords hslots hqueue fun b hb => ?_, hlinks⟩
  rwa [State.band, hbands]

end Tabled

/-! ### What a slot keeps -/

section Slots
variable {x y : Slot} {r r' : Record}

/-- A record rewritten in its state, on its band. -/
theorem Slot.follows_of_rewritten (hx : x.record = some r) (hy : y.record = some r') (hgen : y.gen = x.gen)
    (hstate : r'.state = r.state) (hband : ∀ b, r'.ingressOf b = r.ingressOf b) : x.Follows y where
  holds st _ := ⟨by rw [Slot.holds_of_record hx, Slot.holds_of_record hy, hstate], fun _ => hgen⟩
  ingress b := by
    rw [Slot.ingressOf_of_record hx, Slot.ingressOf_of_record hy, hband]
    exact id

/-- A slot whose record neither waits for a round nor is in one, before and after. -/
theorem Slot.follows_of_settled (hx : ∀ r, x.record = some r → r.state ≠ .probeWait ∧ r.state ≠ .probing)
    (hy : ∀ r, y.record = some r → r.state ≠ .probeWait ∧ r.state ≠ .probing)
    (hband : ∀ b, y.IngressOf b → x.IngressOf b) : x.Follows y := by
  have hnot {z : Slot} (hz : ∀ r, z.record = some r → r.state ≠ .probeWait ∧ r.state ≠ .probing) {st : RecordState}
      (hst : st = .probeWait ∨ st = .probing) : ¬ z.Holds st := by
    rintro ⟨r, hr, rfl⟩
    exact hst.elim (hz r hr).1 (hz r hr).2
  exact ⟨fun st hst => ⟨⟨fun h => absurd h (hnot hy hst), fun h => absurd h (hnot hx hst)⟩, fun h => absurd h (hnot hx hst)⟩,
    hband⟩

theorem Record.settled_of_resting (h : r.resting) : r.state ≠ .probeWait ∧ r.state ≠ .probing := by
  obtain h | h | h := h <;> rw [h] <;> exact ⟨nofun, nofun⟩

/-- A slot without a CONFIRMED echo record keeps none, and so only its own links matter. -/
theorem Slot.linksKept_of_not_echo {l : Leg} (hx : ¬ x.EchoOn l) (hy : ∀ name, y.LinksTo l name → x.LinksTo l name) :
    x.LinksKept l y := ⟨fun h => absurd h hx, hy⟩

theorem Slot.not_echoOn_of_ingress {l : Leg} {g : IngressPart} (hx : x.record = some r) (hr : r.body = .ingress g) :
    ¬ x.EchoOn l := by
  simp [Slot.EchoOn, hx, Record.confirmedEchoOn, hr]

theorem Slot.not_echoOn_of_not_confirmed {l : Leg} (hx : ∀ r, x.record = some r → r.state ≠ .confirmed) : ¬ x.EchoOn l := by
  rintro ⟨r, hr, hecho⟩
  obtain ⟨e, -, hs, -⟩ := Record.confirmedEchoOn_iff.mp hecho
  exact hx r hr hs

end Slots

/-! ### Aging (R14 to R18) -/

section Age
variable {c : Settings} {r r' : Record}

/-- An aging tick leaves a record's state and body, or clears it. -/
theorem Record.age_cases (h : r.age c = some r') :
    (r'.state = r.state ∧ r'.body = r.body) ∨
      ((r.state = .confirmed ∨ r.state = .dormant ∨ r.state = .unresolved) ∧ r' = r.clear c.retention) := by
  have hsame (heq : some r = some r') : r'.state = r.state ∧ r'.body = r.body := by
    obtain rfl := Option.some.inj heq
    exact ⟨rfl, rfl⟩
  by_cases hf : r.frozen = true
  · rw [Record.age_of_exempt (.inl hf)] at h
    exact .inl (hsame h)
  · have hf := Bool.eq_false_iff.mpr hf
    have hdecaying (hs : r.state = .confirmed ∨ r.state = .dormant ∨ r.state = .unresolved) :
        (r'.state = r.state ∧ r'.body = r.body) ∨
          ((r.state = .confirmed ∨ r.state = .dormant ∨ r.state = .unresolved) ∧ r' = r.clear c.retention) := by
      rw [Record.age_of_decaying hf hs] at h
      split at h <;> obtain rfl := Option.some.inj h
      · exact .inr ⟨hs, rfl⟩
      · exact .inl ⟨rfl, rfl⟩
    cases hs : r.state with
    | probeWait | probing =>
      rw [Record.age_of_exempt (.inr (by simp [hs]))] at h
      exact .inl (hs ▸ hsame h)
    | suspect =>
      rw [Record.age_of_suspect hf hs] at h
      split at h
      · exact absurd h nofun
      · obtain rfl := Option.some.inj h
        exact .inl ⟨hs, rfl⟩
    | confirmed | dormant | unresolved =>
      rw [hs] at hdecaying
      exact hdecaying (by simp)
    | cleared =>
      cases hk : r.retention with
      | none =>
        rw [Record.age_of_cleared_unretained hf hs hk] at h
        exact .inl (hs ▸ hsame h)
      | some k =>
        rw [Record.age_of_cleared hf hs hk] at h
        split at h
        · exact absurd h nofun
        · obtain rfl := Option.some.inj h
          exact .inl ⟨hs, rfl⟩

theorem Record.body_clear (hs : r.state = .confirmed ∨ r.state = .dormant ∨ r.state = .unresolved) (retention : Nat) :
    (r.clear retention).body = r.body.agree r.state .cleared := by
  rw [Record.clear, Record.enter, if_neg (Record.state_ne_cleared_of_decaying hs)]

theorem Slot.follows_age (c : Settings) (x : Slot) : x.Follows (x.age c) := by
  cases hx : x.record with
  | none =>
    rw [Slot.age_of_free hx]
    exact .refl x
  | some r =>
    cases hage : r.age c with
    | none =>
      rw [Slot.age_of_retired hx hage]
      have hwaiting : r.state ≠ .probeWait ∧ r.state ≠ .probing := by
        constructor <;> intro hs <;> exact nomatch (Record.age_of_exempt (.inr (by simp [hs]))).symm.trans hage
      refine Slot.follows_of_settled (fun q hq => ?_) (fun q hq => nomatch hq) fun b hb =>
        absurd hb (Slot.not_ingressOf_of_free rfl)
      obtain rfl := Option.some.inj (hx.symm.trans hq)
      exact hwaiting
    | some r' =>
      rw [Slot.age_of_kept hx hage]
      obtain ⟨hstate, hbody⟩ | ⟨hs, rfl⟩ := Record.age_cases hage
      · exact Slot.follows_of_rewritten hx rfl rfl hstate fun b => by rw [Record.ingressOf, hbody]; rfl
      · refine Slot.follows_of_settled (fun q hq => ?_) (fun q hq => ?_) fun b => ?_
        · obtain rfl := Option.some.inj (hx.symm.trans hq)
          obtain hs | hs | hs := hs <;> rw [hs] <;> exact ⟨nofun, nofun⟩
        · obtain rfl := Option.some.inj hq
          rw [Record.state_clear]
          exact ⟨nofun, nofun⟩
        · rw [Slot.ingressOf_of_record rfl, Slot.ingressOf_of_record hx, Record.ingressOf, Record.body_clear hs]
          cases hr : r.body <;> simp [RecordBody.agree, Record.ingressOf, hr]

/-- An aging tick writes no link. -/
theorem Slot.linksTo_of_age {l : Leg} {name : RecordName} {x : Slot} (h : (x.age c).LinksTo l name) : x.LinksTo l name := by
  cases hx : x.record with
  | none => rwa [Slot.age_of_free hx] at h
  | some r =>
    cases hage : r.age c with
    | none =>
      rw [Slot.age_of_retired hx hage] at h
      exact absurd h (Slot.not_linksTo_of_free rfl)
    | some r' =>
      rw [Slot.age_of_kept hx hage] at h
      obtain ⟨q, g, hq, hr', hleg, hlink⟩ := h
      obtain rfl := Option.some.inj hq
      obtain ⟨-, hbody⟩ | ⟨hs, rfl⟩ := Record.age_cases hage
      · exact ⟨r, g, hx, hbody ▸ hr', hleg, hlink⟩
      · rw [Record.body_clear hs] at hr'
        have hne := Record.state_ne_cleared_of_decaying hs
        cases hr : r.body with
        | echo e => simp [RecordBody.agree, hr] at hr'
        | ingress g₀ =>
          by_cases hc : r.state = .confirmed
          · simp only [RecordBody.agree, hr, hc, if_true, RecordBody.ingress.injEq] at hr'
            rw [← hr'] at hlink
            exact absurd hlink nofun
          · simp only [RecordBody.agree, hr, hc, hne, if_false, false_and, or_self, RecordBody.ingress.injEq] at hr'
            rw [← hr'] at hleg hlink
            exact ⟨r, g₀, hx, hr, hleg, hlink⟩

theorem Slot.sound_age {plant : PerLeg LegMap} {x : Slot} (h : x.Sound plant) (hretention : c.retention ≤ 255) :
    (x.age c).Sound plant := by
  intro q hq
  cases hx : x.record with
  | none =>
    rw [Slot.age_of_free hx] at hq
    exact h q hq
  | some r =>
    cases hage : r.age c with
    | none =>
      rw [Slot.age_of_retired hx hage] at hq
      exact absurd hq nofun
    | some r' =>
      rw [Slot.age_of_kept hx hage] at hq
      obtain rfl := Option.some.inj hq
      exact Record.sound_age (h r hx) hretention hage

end Age

/-- The evaluations after an aging tick, leg by leg: of each leg the links stand already, or are still those of before, and
stand unless a CONFIRMED echo record has left (R18). -/
theorem State.linkedOn_relinkIfLeft_foldl (before : State) (hbefore : ∀ l, before.LinkedOn l) (legs : List Leg) (u : State)
    (hgen : ∀ n, (u.slot n).gen = (before.slot n).gen) (hrecords : ∀ n, (u.slot n).Sound u.plant)
    (h : ∀ l, u.LinkedOn l ∨ (l ∈ legs ∧ ∀ n name, (u.slot n).LinksTo l name → (before.slot n).LinksTo l name)) :
    ∀ l, (legs.foldl (fun t leg => before.relinkIfLeft leg t) u).LinkedOn l := by
  induction legs generalizing u with
  | nil => exact fun l => (h l).resolve_right fun hmem => absurd hmem.1 List.not_mem_nil
  | cons leg legs ih =>
    have hmoved := State.LinksMoved.of_relinkIfLeft before leg u
    have hplant : (before.relinkIfLeft leg u).plant = u.plant := by rw [hmoved.1]; rfl
    refine ih _ (fun n => ?_) (fun n => ?_) fun l => ?_
    · rw [(hmoved.2 n).gen_eq, hgen n]
    · rw [hplant]
      exact (hmoved.2 n).sound (hrecords n)
    · show (before.relinkIfLeft leg u).LinkedOn l ∨ (l ∈ legs ∧ ∀ n name,
        ((before.relinkIfLeft leg u).slot n).LinksTo l name → (before.slot n).LinksTo l name)
      unfold State.relinkIfLeft
      by_cases hl : l = leg
      · subst hl
        left
        split
        · exact u.linkedOn_evaluateLinks_self hrecords l
        · rename_i hleft
          refine (h l).elim id fun hkept => (hbefore l).of_slots fun n => ⟨fun hecho => ⟨hgen n, ?_⟩, hkept.2 n⟩
          obtain ⟨r, hr, hon⟩ := hecho
          have hstays : leftConfirmedOn l (before.slot n) (u.slot n) = false := by
            by_contra hlost
            exact hleft (List.any_eq_true.mpr ⟨n, List.mem_finRange n, Bool.eq_true_of_not_eq_false hlost⟩)
          cases hu : (u.slot n).record with
          | none => simp [leftConfirmedOn, hr, hon, hu] at hstays
          | some q => exact ⟨q, hu, by simpa [leftConfirmedOn, hr, hon, hu] using hstays⟩
      · have hleg : l ∈ leg :: legs → l ∈ legs := fun hmem => (List.mem_cons.mp hmem).resolve_left hl
        split
        · exact (h l).imp (fun hlinked => hlinked.evaluateLinks_of_ne hl) fun hkept =>
            ⟨hleg hkept.1, fun n name hname => hkept.2 n name (State.linksTo_of_evaluateLinks hl hname)⟩
        · exact (h l).imp id fun hkept => ⟨hleg hkept.1, hkept.2⟩

theorem State.Tabled.ageTable {s : State} (h : s.Tabled) (hretention : s.settings.retention ≤ 255) : s.ageTable.Tabled := by
  have hframe := s.ageTable_frame
  have hplant : s.ageTable.plant = s.plant := by rw [hframe]; rfl
  have hqueue : s.ageTable.waitQueue = s.waitQueue := by rw [hframe]; rfl
  have hbands : s.ageTable.bands = s.bands := by rw [hframe]; rfl
  have hmode : s.ageTable.mode = s.mode := by rw [hframe]; rfl
  have hstepped : s.stepAges.plant = s.plant := by rw [s.stepAges_frame]; rfl
  have hsound (n : SlotNo) : ((s.slot n).age s.settings).Sound s.plant := Slot.sound_age (h.table.records n) hretention
  refine h.of_slots (fun n => ?_) (fun n => ?_) ?_ hqueue hbands ?_
  · rw [hplant]
    exact (s.slot_ageTable n).sound (hsound n)
  · exact (Slot.follows_age _ _).trans (s.slot_ageTable n).follows
  · refine State.linkedOn_relinkIfLeft_foldl s h.links allLegs s.stepAges (fun n => ?_) (fun n => ?_) fun l => .inr ⟨mem_allLegs l, ?_⟩
    · rw [s.slot_stepAges, Slot.gen_age]
    · rw [s.slot_stepAges, hstepped]
      exact hsound n
    · intro n name hname
      rw [s.slot_stepAges] at hname
      exact Slot.linksTo_of_age hname
  · rw [State.busy, State.busy, State.round_of_alike (.inl hmode)]

/-! ### Work zones (R24, R53) -/

theorem Record.sound_refreeze {plant plant' : PerLeg LegMap} {r : Record} (h : r.sound plant = true)
    (htaps : ∀ l, (plant'.get l).taps.length = (plant.get l).taps.length) : (r.refreeze plant').sound plant' = true := by
  have hzone : Record.inZone plant' (r.refreeze plant') = r.inZone plant' := rfl
  have hranges := Record.ranges_of_sound h
  cases hr : r.body with
  | echo e =>
    obtain ⟨-, -, hecho⟩ := (Record.sound_iff_of_echo hr).mp h
    refine (Record.sound_iff_of_echo (r := r.refreeze plant') hr).mpr ⟨hranges, hzone.symm, ?_⟩
    rw [EchoPart.sound_iff] at hecho ⊢
    rwa [htaps]
  | ingress g =>
    obtain ⟨-, -, hingress⟩ := (Record.sound_iff_of_ingress hr).mp h
    exact (Record.sound_iff_of_ingress (r := r.refreeze plant') hr).mpr ⟨hranges, hzone.symm, hingress⟩

/-- A zone on a leg that a record is not on says nothing of it. -/
theorem Record.inZone_of_other_leg {plant plant' : PerLeg LegMap} {r : Record} {leg : Leg} (hleg : r.leg? ≠ some leg)
    (hplant : ∀ l, l ≠ leg → plant'.get l = plant.get l) : r.inZone plant' = r.inZone plant := by
  cases hr : r.body with
  | echo e =>
    have hne : e.leg ≠ leg := fun heq => hleg (by simp [Record.leg?, hr, heq])
    simp only [Record.inZone, hr, hplant _ hne]
  | ingress g =>
    rw [Record.inZone_of_ingress plant' hr, Record.inZone_of_ingress plant hr]
    cases hl : g.leg with
    | none => rfl
    | some l =>
      have hne : l ≠ leg := fun heq => hleg (by simp [Record.leg?, hr, hl, heq])
      simp only [Option.any_some, hplant _ hne]

theorem Slot.refreezeOn_cases (plant : PerLeg LegMap) (leg : Leg) (x : Slot) :
    x.refreezeOn plant leg = x ∧ (∀ r, x.record = some r → r.leg? ≠ some leg) ∨
      ∃ r, x.record = some r ∧ r.leg? = some leg ∧ x.refreezeOn plant leg = { x with record := some (r.refreeze plant) } := by
  cases hx : x.record with
  | none => exact .inl ⟨by simp [Slot.refreezeOn, hx], fun r hr => nomatch hr⟩
  | some r =>
    by_cases hleg : r.leg? = some leg
    · exact .inr ⟨r, rfl, hleg, by simp [Slot.refreezeOn, hx, hleg]⟩
    · refine .inl ⟨by simp [Slot.refreezeOn, hx, hleg], fun q hq => ?_⟩
      obtain rfl := Option.some.inj hq
      exact hleg

theorem Slot.sound_refreezeOn {plant plant' : PerLeg LegMap} {leg : Leg} {x : Slot} (h : x.Sound plant)
    (hplant : ∀ l, l ≠ leg → plant'.get l = plant.get l)
    (htaps : ∀ l, (plant'.get l).taps.length = (plant.get l).taps.length) : (x.refreezeOn plant' leg).Sound plant' := by
  intro q hq
  obtain ⟨hsame, hother⟩ | ⟨r, hr, -, heq⟩ := Slot.refreezeOn_cases plant' leg x
  · rw [hsame] at hq
    have hzone := Record.inZone_of_other_leg (hother q hq) hplant
    have hsound := h q hq
    simp only [Record.sound, hzone, EchoPart.sound, htaps] at hsound ⊢
    exact hsound
  · rw [heq] at hq
    obtain rfl := Option.some.inj hq
    exact Record.sound_refreeze (h r hr) htaps

/-- The frozen flag is of no account to the wait queue, the round and the links. -/
theorem Slot.kept_refreezeOn (plant : PerLeg LegMap) (leg : Leg) (x : Slot) :
    x.Follows (x.refreezeOn plant leg) ∧ ∀ l, x.LinksKept l (x.refreezeOn plant leg) := by
  obtain ⟨hsame, -⟩ | ⟨r, hr, -, heq⟩ := Slot.refreezeOn_cases plant leg x
  · rw [hsame]
    exact ⟨.refl x, fun l => .refl l x⟩
  · rw [heq]
    refine ⟨Slot.follows_of_rewritten hr rfl rfl rfl fun _ => rfl, fun l => ⟨?_, ?_⟩⟩
    · rintro ⟨q, hq, hecho⟩
      obtain rfl := Option.some.inj (hr.symm.trans hq)
      exact ⟨rfl, _, rfl, hecho⟩
    · rintro name ⟨q, g, hq, hbody, hleg, hlink⟩
      obtain rfl := Option.some.inj hq
      exact ⟨r, g, hr, hbody, hleg, hlink⟩

theorem State.Tabled.putZone {s : State} (h : s.Tabled) (leg : Leg) (zone : Option Zone) : (s.putZone leg zone).Tabled := by
  have hother (l : Leg) (hl : l ≠ leg) : (s.putZone leg zone).plant.get l = s.plant.get l := PerLeg.get_set_ne _ _ hl
  have htaps (l : Leg) : ((s.putZone leg zone).plant.get l).taps.length = (s.plant.get l).taps.length := by
    by_cases hl : l = leg
    · subst hl
      show ((s.plant.set l _).get l).taps.length = _
      rw [PerLeg.get_set_self]
    · rw [hother l hl]
  have hslot (n : SlotNo) : (s.putZone leg zone).slot n = (s.slot n).refreezeOn (s.putZone leg zone).plant leg :=
    State.slot_map (s.withPlant _) _ n
  refine h.of_slots (fun n => ?_) (fun n => ?_) (fun l => (h.links l).of_slots fun n => ?_) rfl rfl rfl
  · rw [hslot]
    exact Slot.sound_refreezeOn (h.table.records n) hother htaps
  · rw [hslot]
    exact (Slot.kept_refreezeOn _ leg _).1
  · rw [hslot]
    exact (Slot.kept_refreezeOn _ leg _).2 l

/-- The stations of a leg are of no account to the records. -/
theorem State.Tabled.updateStation {s : State} (h : s.Tabled) (l : Leg) (handle : Nat) (f : Station → Station) :
    (s.updateStation l handle f).Tabled := by
  have hleg (k : Leg) : ((s.updateStation l handle f).plant.get k).zone = (s.plant.get k).zone ∧
      ((s.updateStation l handle f).plant.get k).taps.length = (s.plant.get k).taps.length := by
    show ((s.plant.set l _).get k).zone = _ ∧ ((s.plant.set l _).get k).taps.length = _
    by_cases hk : k = l
    · subst hk
      rw [PerLeg.get_set_self]
      exact ⟨rfl, rfl⟩
    · rw [PerLeg.get_set_ne _ _ hk]
      exact ⟨rfl, rfl⟩
  refine h.of_slots (fun n r hr => ?_) (fun n => .refl _) (fun k => (h.links k).congr rfl) rfl rfl rfl
  rw [Record.sound_congr (fun k => (hleg k).1) fun k => (hleg k).2]
  exact h.table.records n r hr

/-! ### The operator's flags (R171 to R174) -/

theorem State.Tabled.listed {s : State} (h : s.Tabled) : (s.withTable (s.table.map fun x => { x with changed := false })).Tabled := by
  have hslot (n : SlotNo) : (s.withTable (s.table.map fun x => { x with changed := false })).slot n =
      { s.slot n with changed := false } := State.slot_map s _ n
  refine h.of_slots (fun n => ?_) (fun n => ?_) (fun l => (h.links l).of_slots fun n => ?_) rfl rfl rfl
  all_goals rw [hslot]
  · exact h.table.records n
  · exact ⟨fun _ _ => ⟨.rfl, fun _ => rfl⟩, fun _ => id⟩
  · exact ⟨fun hecho => ⟨rfl, hecho⟩, fun _ => id⟩

/-- A record rewritten in its slot, in its state and with its body. -/
theorem State.Tabled.rewritten {s t : State} {n : SlotNo} {r r' : Record} (h : s.Tabled) (hrec : s.record n = some r)
    (hslots : ∀ m, m ≠ n → t.slot m = s.slot m) (hgen : (t.slot n).gen = (s.slot n).gen) (hslot : t.record n = some r')
    (hsound : r'.sound s.plant = true) (hstate : r'.state = r.state) (hbody : r'.body = r.body) (hplant : t.plant = s.plant)
    (hbands : t.bands = s.bands) (hqueue : t.waitQueue = s.waitQueue) (hbusy : t.busy = s.busy) : t.Tabled := by
  refine h.of_slots (fun m => ?_) (fun m => ?_) (fun l => (h.links l).of_slot hslots ⟨?_, ?_⟩) hqueue hbands hbusy
  · by_cases hm : m = n
    · subst hm
      intro q hq
      obtain rfl := Option.some.inj (hslot.symm.trans hq)
      rwa [hplant]
    · rw [hslots m hm, hplant]
      exact h.table.records m
  · by_cases hm : m = n
    · subst hm
      exact Slot.follows_of_rewritten hrec hslot hgen hstate fun b => by rw [Record.ingressOf, hbody]; rfl
    · rw [hslots m hm]
      exact .refl _
  · rintro ⟨q, hq, hecho⟩
    obtain rfl := Option.some.inj (hrec.symm.trans hq)
    exact ⟨hgen, r', hslot, by rwa [Record.confirmedEchoOn, hbody, hstate]⟩
  · rintro name ⟨q, g, hq, hg, hleg, hlink⟩
    obtain rfl := Option.some.inj (hslot.symm.trans hq)
    exact ⟨r, g, hrec, hbody ▸ hg, hleg, hlink⟩

end Machine
end Sys2Proof
end

section
/-! Proofs, family 11, fourteenth part: the activation, the observations and the merges leave the table and the links sound. -/

namespace Sys2Proof
namespace Machine

section Tabled
variable {s t : State}

theorem State.Tabled.raise (h : s.Tabled) (n : Nat) : (s.raise n).Tabled := h.congr rfl rfl rfl rfl rfl

theorem State.Tabled.evaluateLinks (h : s.Tabled) (leg : Leg) : (s.evaluateLinks leg).Tabled :=
  ⟨h.table.evaluateLinks leg, s.linkedOn_evaluateLinks h.table.records fun k _ => h.links k⟩

theorem State.Tabled.echoesRest (h : s.Tabled) : s.echoesRest := fun _ _ _ hrec hr =>
  (State.echo_of_recordsSound ((State.recordsSound_iff s).mpr h.table.records) hrec hr).1

/-- A slot without a waiting record takes an echo record, which keeps the CONFIRMED one of before. -/
theorem State.Tabled.setEcho (h : s.Tabled) {n : SlotNo} {gen : Byte} {changed : Bool} {r' : Record} {e' : EchoPart}
    (hr' : r'.body = .echo e') (hsound : r'.sound s.plant = true) (hold : ∀ r, s.record n = some r → r.resting)
    (hecho : ∀ l, (s.slot n).EchoOn l → gen = (s.slot n).gen ∧ r'.confirmedEchoOn l = true) :
    (s.setSlot n { gen := gen, changed := changed, record := some r' }).Tabled := by
  generalize hy : ({ gen := gen, changed := changed, record := some r' } : Slot) = y
  have hrec : y.record = some r' := by rw [← hy]
  have hgen : y.gen = gen := by rw [← hy]
  have hslots (m : SlotNo) (hm : m ≠ n) : (s.setSlot n y).slot m = s.slot m := s.slot_setSlot_ne y hm
  have hself : (s.setSlot n y).slot n = y := s.slot_setSlot_self n y
  have hrest : r'.resting := by
    obtain ⟨-, -, hpart⟩ := (Record.sound_iff_of_echo hr').mp hsound
    exact ((EchoPart.sound_iff _ _ _ _).mp hpart).2.2.2.2.2.2.2.2.1
  refine h.of_slots (fun m => ?_) (fun m => ?_) (fun l => (h.links l).of_slot hslots ?_) rfl rfl rfl
  · by_cases hm : m = n
    · rw [hm, hself]
      intro q hq
      obtain rfl := Option.some.inj (hrec.symm.trans hq)
      exact hsound
    · rw [hslots m hm]
      exact h.table.records m
  · by_cases hm : m = n
    · rw [hm, hself]
      refine Slot.follows_of_settled (fun q hq => Record.settled_of_resting (hold q hq)) (fun q hq => ?_)
        fun b hb => absurd hb (Slot.not_ingressOf_of_echo hrec hr')
      obtain rfl := Option.some.inj (hrec.symm.trans hq)
      exact Record.settled_of_resting hrest
    · rw [hslots m hm]
      exact .refl _
  · rw [hself]
    refine ⟨fun hon => ?_, fun name hname => absurd hname (Slot.not_linksTo_of_echo hrec hr')⟩
    obtain ⟨hsame, hon'⟩ := hecho l hon
    exact ⟨hgen.trans hsame, r', hrec, hon'⟩

end Tabled

/-! ### The activation (R47 to R49) -/

section Activation
variable {x : Slot} {plant plant' : PerLeg LegMap} {leg : Leg}

/-- What an activation makes of a slot with a sound record: nothing, a FREE slot, or its echo record with another tap. -/
theorem Slot.reattributed_cases (hx : x.Sound plant) (rescales : Bool) (plant' : PerLeg LegMap) (leg : Leg) :
    (x.noEchoOn leg ∧ x.reattributed rescales plant' leg = x) ∨
      ∃ r e, x.record = some r ∧ r.body = .echo e ∧ e.leg = leg ∧ r.resting ∧
        (x.reattributed rescales plant' leg = x.freed ∨
          ∃ changed stale, x.reattributed rescales plant' leg =
            { gen := x.gen, changed := changed
              record := some { r with body := .echo { e.retap plant' r.state with staleScale := stale } } }) := by
  by_cases hecho : x.noEchoOn leg
  · exact .inl ⟨hecho, Slot.reattributed_of_noEchoOn rescales plant' hecho⟩
  · simp only [Slot.noEchoOn, not_forall, not_not] at hecho
    obtain ⟨r, e, hrec, hr, hleg⟩ := hecho
    obtain ⟨-, -, hpart⟩ := (Record.sound_iff_of_echo hr).mp (hx r hrec)
    obtain ⟨-, -, -, -, -, -, -, -, hrest, htap⟩ := (EchoPart.sound_iff _ _ _ _).mp hpart
    refine .inr ⟨r, e, hrec, hr, hleg, hrest, ?_⟩
    by_cases hretired : rescales = true ∧ r.pinned = false
    · obtain ⟨rfl, hpinned⟩ := hretired
      exact .inl (Slot.reattributed_of_retired plant' hrec hr hleg hpinned)
    · have hkept : rescales = false ∨ r.pinned = true := by
        cases rescales <;> cases hp : r.pinned <;> simp [hp] at hretired ⊢
      have hsuspect : r.state = .suspect → e.tap = none := fun hs => by
        cases ht : e.tap with
        | none => rfl
        | some k => exact absurd hs (htap k ht).1
      rw [EchoPart.retap_of_resting plant' e hrest, Slot.reattributed_of_kept rescales plant' hrec hr hleg hrest hsuspect hkept, hleg]
      exact .inr ⟨_, _, rfl⟩

/-- The map that an activation leaves differs on its leg alone, and not in the leg's zone. -/
theorem State.newPlant_kept (s : State) (g : Staging) :
    (∀ l, l ≠ g.leg → (s.newPlant g).get l = s.plant.get l) ∧ ∀ l, ((s.newPlant g).get l).zone = (s.plant.get l).zone := by
  refine ⟨fun l hl => PerLeg.get_set_ne _ _ hl, fun l => ?_⟩
  by_cases hl : l = g.leg
  · rw [State.newPlant, hl, PerLeg.get_set_self]
  · rw [State.newPlant, PerLeg.get_set_ne _ _ hl]

theorem Slot.sound_reattributed (hx : x.Sound plant) (rescales : Bool) (hother : ∀ l, l ≠ leg → plant'.get l = plant.get l)
    (hzone : ∀ l, (plant'.get l).zone = (plant.get l).zone) : (x.reattributed rescales plant' leg).Sound plant' := by
  intro q hq
  obtain ⟨hnone, hsame⟩ | ⟨r, e, hrec, hr, -, hrest, hfreed | ⟨changed, stale, hkept⟩⟩ :=
    Slot.reattributed_cases hx rescales plant' leg
  · rw [hsame] at hq
    have hsound := hx q hq
    cases hr : q.body with
    | echo e =>
      have hne : e.leg ≠ leg := hnone q e hq hr
      obtain ⟨hranges, hfrozen, hpart⟩ := (Record.sound_iff_of_echo hr).mp hsound
      refine (Record.sound_iff_of_echo hr).mpr ⟨hranges, ?_, ?_⟩
      · rw [hfrozen, Record.inZone_congr hzone]
      · rwa [EchoPart.sound, hother _ hne]
    | ingress g =>
      obtain ⟨hranges, hfrozen, hpart⟩ := (Record.sound_iff_of_ingress hr).mp hsound
      exact (Record.sound_iff_of_ingress hr).mpr ⟨hranges, by rw [hfrozen, Record.inZone_congr hzone], hpart⟩
  · rw [hfreed] at hq
    exact nomatch hq
  · rw [hkept] at hq
    obtain rfl := Option.some.inj hq
    obtain ⟨hranges, hfrozen, hpart⟩ := (Record.sound_iff_of_echo hr).mp (hx r hrec)
    obtain ⟨hmin, hmax, hend, hlow, hhigh, hnodup, hlevel, hlevel', hst, -⟩ := (EchoPart.sound_iff _ _ _ _).mp hpart
    obtain ⟨hleg, hposition⟩ := e.retap_kept plant' r.state
    refine (Record.sound_iff_of_echo rfl).mpr ⟨hranges, ?_, ?_⟩
    · rw [Record.inZone_of_echo plant' rfl, hleg, hposition, hzone, ← Record.inZone_of_echo plant hr]
      exact hfrozen
    · have hretapped := EchoPart.sound_retap (plant := plant') hmin hmax hend hlow hhigh hnodup hlevel hlevel' hst
      rw [EchoPart.sound_iff] at hretapped ⊢
      exact hretapped

theorem Slot.follows_reattributed (hx : x.Sound plant) (rescales : Bool) : x.Follows (x.reattributed rescales plant' leg) := by
  obtain ⟨-, hsame⟩ | ⟨r, e, hrec, hr, -, hrest, hfreed | ⟨changed, stale, hkept⟩⟩ :=
    Slot.reattributed_cases hx rescales plant' leg
  · rw [hsame]
    exact .refl x
  · rw [hfreed]
    refine Slot.follows_of_settled (fun q hq => ?_) (fun q hq => nomatch hq) fun b hb =>
      absurd hb (Slot.not_ingressOf_of_free rfl)
    obtain rfl := Option.some.inj (hrec.symm.trans hq)
    exact Record.settled_of_resting hrest
  · rw [hkept]
    exact Slot.follows_of_rewritten hrec rfl rfl rfl fun b => by simp only [Record.ingressOf, hr]

/-- On another leg an activation takes no echo record and gives no link. -/
theorem Slot.linksKept_reattributed {l : Leg} (hx : x.Sound plant) (rescales : Bool) (hl : l ≠ leg) :
    x.LinksKept l (x.reattributed rescales plant' leg) := by
  obtain ⟨-, hsame⟩ | ⟨r, e, hrec, hr, hleg, -, hwritten⟩ := Slot.reattributed_cases hx rescales plant' leg
  · rw [hsame]
    exact .refl l x
  · refine Slot.linksKept_of_not_echo ?_ fun name hname => ?_
    · rintro ⟨q, hq, hecho⟩
      obtain rfl := Option.some.inj (hrec.symm.trans hq)
      obtain ⟨e', hr', -, hleg'⟩ := Record.confirmedEchoOn_iff.mp hecho
      obtain rfl := RecordBody.echo.inj (hr.symm.trans hr')
      exact hl (hleg'.symm.trans hleg)
    · obtain hfreed | ⟨changed, stale, hkept⟩ := hwritten
      · rw [hfreed] at hname
        exact absurd hname (Slot.not_linksTo_of_free rfl)
      · rw [hkept] at hname
        exact absurd hname (Slot.not_linksTo_of_echo rfl rfl)

end Activation

theorem State.Tabled.activate {s : State} (h : s.Tabled) (g : Staging) : (s.activate g).Tabled := by
  obtain ⟨hother, hzone⟩ := s.newPlant_kept g
  have hrest := h.echoesRest
  have hframe := State.reattributed_frame hrest g
  have hplant : (s.reattributed g).plant = s.newPlant g := by rw [hframe]; rfl
  have hqueue : (s.reattributed g).waitQueue = s.waitQueue := by rw [hframe]; rfl
  have hbands : (s.reattributed g).bands = s.bands := by rw [hframe]; rfl
  have hmode : (s.activate g).mode = s.mode := by rw [State.activate_frame hrest]; rfl
  have hbusy : (s.activate g).busy = s.busy := by rw [State.busy, State.busy, State.round_of_alike (.inl hmode)]
  have hrecords (n : SlotNo) : ((s.reattributed g).slot n).Sound (s.reattributed g).plant := by
    rw [State.slot_reattributed hrest, hplant]
    exact Slot.sound_reattributed (h.table.records n) _ hother hzone
  have htable : (s.reattributed g).TableSound s.busy := by
    refine h.table.of_slots hrecords (fun n => ?_) hqueue fun b hb => ?_
    · rw [State.slot_reattributed hrest]
      exact Slot.follows_reattributed (h.table.records n) _
    · rwa [State.band, hbands]
  have hlinks (k : Leg) (hk : k ≠ g.leg) : (s.reattributed g).LinkedOn k := by
    refine (h.links k).of_slots fun n => ?_
    rw [State.slot_reattributed hrest]
    exact Slot.linksKept_reattributed (h.table.records n) _ hk
  refine ⟨hbusy ▸ ?_, ?_⟩
  · rw [s.activate_eq]
    exact htable.evaluateLinks g.leg
  · rw [s.activate_eq]
    exact (s.reattributed g).linkedOn_evaluateLinks hrecords hlinks

/-! ### Observations (R73 to R79, R96) -/

theorem State.mem_of_locate {s : State} {handle : Nat} {x : Located} (h : s.locate handle = some x) :
    x.station ∈ (s.plant.get x.leg).stations := by
  unfold State.locate at h
  split at h
  · exact absurd h nofun
  · obtain ⟨l, -, hl⟩ := List.exists_of_findSome?_eq_some h
    unfold stationOn at hl
    split at hl
    · exact absurd hl nofun
    · obtain ⟨y, hy, rfl⟩ := Option.map_eq_some_iff.mp hl
      exact List.mem_of_find?_eq_some hy

theorem tapDistance_le {plant : PerLeg LegMap} {l : Leg} {tap : Nat} (hsound : tapsSound (plant.get l).taps = true)
    (htap : tap < (plant.get l).taps.length) : tapDistance plant l tap ≤ 20000 := by
  simp only [tapsSound, Bool.and_eq_true] at hsound
  obtain ⟨hall, -⟩ := tapsFollow_iff.mp hsound.2
  rw [tapDistance, List.getElem?_eq_getElem htap]
  exact hall _ (List.getElem_mem htap)

/-- An observation of a sound map lies on the leg, with a level of R98. -/
theorem State.Observes.bounds {s : State} {o : Observation} (hplant : s.plantSound = true)
    (hsettings : s.settingsSound = true) (h : s.Observes o) : o.position ≤ 20000 ∧ 20 ≤ o.level ∧ o.level ≤ 120 := by
  obtain ⟨handle, x, distance, hx, -, -, hdrop, hposition, -, hlow, hhigh⟩ := h
  obtain ⟨hlegs, -⟩ := (State.plantSound_iff s).mp hplant
  obtain ⟨htaps, -, hstations, -⟩ := (LegMap.sound_iff _).mp (hlegs x.leg)
  have hstation := hstations _ (State.mem_of_locate hx)
  simp only [Station.sound, Bool.and_eq_true, decide_eq_true_eq] at hstation
  have htap := tapDistance_le htaps hstation.1.2
  have hfloor := ((Settings.inRange_iff _).mp ((State.settingsSound_iff s).mp hsettings).1).2.1
  refine ⟨?_, hlow, hhigh.trans hfloor⟩
  unfold plantPosition echoPosition at hposition
  split at hposition
  · exact absurd hposition nofun
  · obtain hposition := Option.some.inj hposition
    omega

theorem State.Tabled.confirmed {c : Prop} [Decidable c] {u : State} (hu : u.Tabled) (leg : Leg) :
    (if c then (u.raise flagConfirmed).evaluateLinks leg else u).Tabled := by
  split
  · exact (hu.raise _).evaluateLinks leg
  · exact hu

theorem State.Tabled.observe_matched {s : State} (h : s.Tabled) {o : Observation} {n : SlotNo} (hmatch : s.matchEcho o = some n)
    (hposition : o.position ≤ 20000) (hlevel : 20 ≤ o.level) : (s.observe o).Tabled := by
  obtain ⟨r, e, ⟨hrec, hr, -, hrest, -⟩, -⟩ := (s.matchEcho_eq_some_iff o n).mp hmatch
  have hobserve := State.observe_matched_eq hmatch hrec hr
  dsimp only at hobserve
  obtain ⟨hranges, hpart⟩ := Record.sound_fed (scoreAdd := s.settings.scoreAdd) (h.table.records n r hrec) hr hposition hlevel
  have hsound := Record.sound_observed (confirmStations := s.settings.confirmStations) hranges hpart
  have hkeeps (l : Leg) (hon : r.confirmedEchoOn l = true) :
      ((r.fed s.settings.scoreAdd o e).observed s.plant s.settings.confirmStations (e.fed r.observations o)).confirmedEchoOn l
        = true := by
    obtain ⟨e', hr', hs, rfl⟩ := Record.confirmedEchoOn_iff.mp hon
    obtain rfl := RecordBody.echo.inj (hr.symm.trans hr')
    refine Record.confirmedEchoOn_iff.mpr ⟨_, rfl, ?_, (EchoPart.retap_kept _ _ _).1⟩
    show echoStateAfter _ r.state _ = _
    rw [hs]
    rfl
  have hbody : ((r.fed s.settings.scoreAdd o e).observed s.plant s.settings.confirmStations (e.fed r.observations o)).body =
      .echo ((e.fed r.observations o).retap s.plant _) := rfl
  generalize (r.fed s.settings.scoreAdd o e).observed s.plant s.settings.confirmStations (e.fed r.observations o) = r'
    at hobserve hsound hkeeps hbody
  rw [hobserve]
  refine State.Tabled.confirmed (h.setEcho hbody hsound (fun q hq => ?_) fun l hon => ⟨rfl, ?_⟩) _
  · obtain rfl := Option.some.inj (hrec.symm.trans hq)
    exact hrest
  · obtain ⟨q, hq, hon⟩ := hon
    obtain rfl := Option.some.inj (hrec.symm.trans hq)
    exact hkeeps l hon

theorem State.Tabled.observe_opened {s : State} (h : s.Tabled) {o : Observation} (hmatch : s.matchEcho o = none) {n : SlotNo}
    (halloc : s.allocationSlot = some n) (hposition : o.position ≤ 20000) (hlevel : 20 ≤ o.level) (hlevel' : o.level ≤ 120)
    (hscore : s.settings.scoreAdd ≤ 50) : (s.observe o).Tabled := by
  have hobserve := State.observe_opened_eq hmatch halloc
  dsimp only at hobserve
  obtain ⟨hranges, hpart⟩ := Observation.sound_opened (plant := s.plant) (c := s.settings) hposition hlevel hlevel' hscore
  have hsound := Record.sound_observed (confirmStations := s.settings.confirmStations) hranges hpart
  have hbody : ((o.opened s.settings).observed s.plant s.settings.confirmStations o.part).body =
      .echo (o.part.retap s.plant _) := rfl
  have hold := State.record_of_allocationSlot halloc
  generalize (o.opened s.settings).observed s.plant s.settings.confirmStations o.part = r' at hobserve hsound hbody
  rw [hobserve]
  refine State.Tabled.confirmed (h.setEcho hbody hsound (fun q hq => ?_) fun l hon => ?_) _
  · exact (hold q hq).elim (fun hs => .inr (.inr hs)) .inl
  · refine absurd hon (Slot.not_echoOn_of_not_confirmed fun q hq => ?_)
    obtain hs | hs := hold q hq <;> rw [hs] <;> exact nofun

theorem State.Tabled.observe {s : State} (h : s.Tabled) (hplant : s.plantSound = true) (hsettings : s.settingsSound = true)
    {o : Observation} (hobs : s.Observes o) : (s.observe o).Tabled := by
  obtain ⟨hposition, hlevel, hlevel'⟩ := hobs.bounds hplant hsettings
  cases hmatch : s.matchEcho o with
  | some n => exact h.observe_matched hmatch hposition hlevel
  | none =>
    cases halloc : s.allocationSlot with
    | none =>
      rw [State.observe_of_full hmatch halloc]
      exact h.raise _
    | some n =>
      have hscore := ((Settings.inRange_iff _).mp ((State.settingsSound_iff s).mp hsettings).1).2.2.2.2.2.2.2.1
      exact h.observe_opened hmatch halloc hposition hlevel hlevel' hscore

/-! ### Merges (R177, R178) -/

theorem State.Tabled.merge {s : State} (h : s.Tabled) {na nb : SlotNo} {a b : Record} {ea eb : EchoPart} (hne : na ≠ nb)
    (ha : s.record na = some a) (hb : s.record nb = some b) (hea : a.body = .echo ea) (heb : b.body = .echo eb)
    (hleg : ea.leg = eb.leg) : (s.merge na nb a b ea eb).Tabled := by
  have hresta := h.echoesRest na a ea ha hea
  have hrestb := h.echoesRest nb b eb hb heb
  have hretention : a.state ≠ .cleared → a.retention = none := fun hs =>
    Record.retention_of_sound (h.table.records na a ha) hs
  have hsound := Record.sound_merged (h.table.records na a ha) (h.table.records nb b hb) hea heb s.settings.confirmStations
  have hresult := mergeResult_eq (plant := s.plant) (b := b) (ea := ea) (eb := eb) hretention s.settings.confirmStations
  have hmerged := State.merge_eq (s := s) (a := a) (ea := ea) (eb := eb) hne hb hrestb
  dsimp only at hmerged hresult
  rw [hmerged]
  obtain ⟨e', he', hleg'⟩ : ∃ e', (mergeResult s.plant s.settings.confirmStations a b ea eb).body = .echo e' ∧
      e'.leg = ea.leg := by
    rw [hresult]
    exact ⟨_, rfl, rfl⟩
  generalize mergeResult s.plant s.settings.confirmStations a b ea eb = result at hsound he' ⊢
  have hclosed {c : Prop} [Decidable c] {u : State} (htable : u.TableSound u.busy) (hlinks : ∀ l, l ≠ ea.leg → u.LinkedOn l) :
      (State.evaluateLinks ea.leg (if c then u.raise flagConfirmed else u)).Tabled := by
    split
    · exact ⟨(htable.congr (t := u.raise flagConfirmed) rfl rfl rfl rfl).evaluateLinks _,
        State.linkedOn_evaluateLinks htable.records fun k hk => (hlinks k hk).congr rfl⟩
    · exact ⟨htable.evaluateLinks _, State.linkedOn_evaluateLinks htable.records hlinks⟩
  have hslotA : (s.mergeWritten na nb result (mergeChanges a result)).slot na =
      { gen := (s.slot na).gen, changed := (s.slot na).changed || mergeChanges a result, record := some result } := by
    rw [State.mergeWritten, State.slot_setSlot_ne _ _ hne, State.slot_setSlot_self]
  have hslotB : (s.mergeWritten na nb result (mergeChanges a result)).slot nb = (s.slot nb).freed :=
    State.slot_setSlot_self _ _ _
  have hslots (m : SlotNo) (hma : m ≠ na) (hmb : m ≠ nb) :
      (s.mergeWritten na nb result (mergeChanges a result)).slot m = s.slot m := by
    rw [State.mergeWritten, State.slot_setSlot_ne _ _ hmb, State.slot_setSlot_ne _ _ hma]
  have hrest : result.resting := by
    obtain ⟨-, -, hpart⟩ := (Record.sound_iff_of_echo he').mp hsound
    exact ((EchoPart.sound_iff _ _ _ _).mp hpart).2.2.2.2.2.2.2.2.1
  have hsettled {n : SlotNo} {r : Record} (hrec : s.record n = some r) (hr : r.resting) :
      ∀ q, (s.slot n).record = some q → q.state ≠ .probeWait ∧ q.state ≠ .probing := by
    intro q hq
    obtain rfl := Option.some.inj (hrec.symm.trans hq)
    exact Record.settled_of_resting hr
  have helsewhere {n : SlotNo} {r : Record} {e : EchoPart} {l : Leg} (hrec : s.record n = some r) (hr : r.body = .echo e)
      (hl : l ≠ e.leg) : ¬ (s.slot n).EchoOn l := by
    rintro ⟨q, hq, hon⟩
    obtain rfl := Option.some.inj (hrec.symm.trans hq)
    obtain ⟨e₁, hr₁, -, rfl⟩ := Record.confirmedEchoOn_iff.mp hon
    obtain rfl := RecordBody.echo.inj (hr.symm.trans hr₁)
    exact hl rfl
  have hfreed {x : Slot} {l : Leg} : ∀ name, ¬ x.freed.LinksTo l name := fun _ => Slot.not_linksTo_of_free rfl
  refine hclosed (h.table.of_slots (fun m => ?_) (fun m => ?_) rfl fun _ => id) fun l hl => (h.links l).of_slots fun m => ?_
  case refine_1 =>
    by_cases hma : m = na
    · rw [hma, hslotA]
      exact fun q hq => Option.some.inj hq ▸ hsound
    by_cases hmb : m = nb
    · rw [hmb, hslotB]
      exact fun q hq => nomatch hq
    rw [hslots m hma hmb]
    exact h.table.records m
  case refine_2 =>
    by_cases hma : m = na
    · rw [hma, hslotA]
      exact Slot.follows_of_settled (hsettled ha hresta) (fun q hq => Option.some.inj hq ▸ Record.settled_of_resting hrest)
        fun _ hband => absurd hband (Slot.not_ingressOf_of_echo rfl he')
    by_cases hmb : m = nb
    · rw [hmb, hslotB]
      exact Slot.follows_of_settled (hsettled hb hrestb) (fun q hq => nomatch hq)
        fun _ hband => absurd hband (Slot.not_ingressOf_of_free rfl)
    rw [hslots m hma hmb]
    exact .refl _
  case refine_3 =>
    by_cases hma : m = na
    · rw [hma, hslotA]
      exact Slot.linksKept_of_not_echo (helsewhere ha hea hl) fun _ hname => absurd hname (Slot.not_linksTo_of_echo rfl he')
    by_cases hmb : m = nb
    · rw [hmb, hslotB]
      exact Slot.linksKept_of_not_echo (helsewhere hb heb (hleg ▸ hl)) fun name hname => absurd hname (hfreed name)
    rw [hslots m hma hmb]
    exact .refl l _

end Machine
end Sys2Proof
end

section
/-! Proofs, family 11, fifteenth part: what the sequencer does to its record leaves the table and the links sound: the start and the
end of a round, a retirement, a detection and a REPROBE. -/

namespace Sys2Proof
namespace Machine

/-! ### One slot, the wait queue and the round -/

section OneSlot
variable {s t : State} {n : SlotNo} {y : Slot}

theorem State.busy_of_alike (h : s.mode.Alike t.mode) : t.busy = s.busy := by
  rw [State.busy, State.busy, State.round_of_alike h]

theorem State.busy_of_round_none (h : s.round = none) : s.busy = none := by rw [State.busy, h, Option.map_none]

theorem State.Tabled.congr_alike (h : s.Tabled) (htable : t.table = s.table) (hplant : t.plant = s.plant)
    (hbands : t.bands = s.bands) (hqueue : t.waitQueue = s.waitQueue) (hmode : s.mode.Alike t.mode) : t.Tabled :=
  h.congr htable hplant hbands hqueue (State.busy_of_alike hmode)

theorem State.slot_of_table {n : SlotNo} (htable : t.table = (s.setSlot n y).table) :
    t.slot n = y ∧ ∀ m, m ≠ n → t.slot m = s.slot m := by
  have hslot (m : SlotNo) : t.slot m = (s.setSlot n y).slot m := by rw [State.slot, State.slot, htable]
  exact ⟨(hslot n).trans (s.slot_setSlot_self n y), fun m hm => (hslot m).trans (s.slot_setSlot_ne y hm)⟩

/-- The round goes on, or its record leaves it. -/
def State.RoundFollows (s t : State) (n : SlotNo) : Prop :=
  (t.busy = s.busy ∧ ¬ (s.slot n).Holds .probing) ∨ (t.busy = none ∧ (s.slot n).Holds .probing)

theorem State.Tabled.busyFollows (h : s.Tabled) (hround : s.RoundFollows t n) (ht : ¬ (t.slot n).Holds .probing) :
    t.BusyFollows n s.busy t.busy := by
  obtain ⟨hsame, hs⟩ | ⟨hnone, hs⟩ := hround
  · rw [hsame]
    exact h.table.busyFollows_of_same hs ht
  · rw [hnone]
    exact h.table.busyFollows_of_end hs ht

/-- A slot takes a PROBE_WAIT record, which joins the wait queue. -/
theorem State.Tabled.joined (h : s.Tabled) {gen : Byte} {changed : Bool} {r' : Record} {g' : IngressPart} {second : Word32}
    (htable : t.table = (s.setSlot n { gen := gen, changed := changed, record := some r' }).table)
    (hqueue : t.waitQueue = insertEntry { name := { num := n, gen := gen }, excess := r'.severity, second := second } s.waitQueue)
    (hplant : t.plant = s.plant) (hbands : t.bands = s.bands) (hr' : r'.body = .ingress g') (hlink : g'.link = none)
    (hstate : r'.state = .probeWait) (hsound : r'.sound s.plant = true) (hold : ¬ (s.slot n).Holds .probeWait)
    (hecho : ∀ l, ¬ (s.slot n).EchoOn l) (hround : s.RoundFollows t n)
    (hband : (s.band g'.band).baseline ≠ none ∧ ∀ m, m ≠ n → ¬ (s.slot m).IngressOf g'.band) : t.Tabled := by
  obtain ⟨hself, hslots⟩ := State.slot_of_table htable
  have hrec : (t.slot n).record = some r' := by rw [hself]
  have hholds : (t.slot n).Holds .probeWait := (Slot.holds_of_record hrec).mpr hstate
  have hnot : ¬ (t.slot n).Holds .probing := fun hp => by
    rw [Slot.holds_of_record hrec, hstate] at hp
    exact absurd hp nofun
  have hname : t.nameOf n = { num := n, gen := gen } := by rw [State.nameOf, hself]
  have hexcess : r'.severity ≤ 255 := by
    obtain ⟨-, -, hingress⟩ := (Record.sound_iff_of_ingress hr').mp hsound
    exact ((IngressPart.sound_iff _ _ _).mp hingress).1
  refine ⟨h.table.change hslots (fun q hq => ?_) hplant hbands ?_ (h.busyFollows hround hnot) fun b hb => ?_, fun l => ?_⟩
  · obtain rfl := Option.some.inj (hrec.symm.trans hq)
    exact hsound
  · exact h.table.queueFollows_of_join hqueue hname.symm hexcess hold hholds
  · obtain rfl := (Slot.ingressOf_of_ingress hrec hr').mp hb
    exact hband
  · exact (h.links l).of_slot hslots
      (Slot.linksKept_of_not_echo (hecho l) fun _ hl => absurd hl (Slot.not_linksTo_of_unlinked hrec hr' hlink))

/-- The same where the slot held an ingress record of the band. -/
theorem State.Tabled.rejoined (h : s.Tabled) {gen : Byte} {changed : Bool} {r r' : Record} {g g' : IngressPart}
    {second : Word32} (hrec : s.record n = some r) (hr : r.body = .ingress g) (hband : g'.band = g.band)
    (htable : t.table = (s.setSlot n { gen := gen, changed := changed, record := some r' }).table)
    (hqueue : t.waitQueue = insertEntry { name := { num := n, gen := gen }, excess := r'.severity, second := second } s.waitQueue)
    (hplant : t.plant = s.plant) (hbands : t.bands = s.bands) (hr' : r'.body = .ingress g') (hlink : g'.link = none)
    (hstate : r'.state = .probeWait) (hsound : r'.sound s.plant = true) (hold : r.state ≠ .probeWait)
    (hround : s.RoundFollows t n) : t.Tabled := by
  have hof : (s.slot n).IngressOf g'.band := (Slot.ingressOf_of_ingress hrec hr).mpr hband.symm
  refine h.joined htable hqueue hplant hbands hr' hlink hstate hsound (fun hw => hold ((Slot.holds_of_record hrec).mp hw))
    (fun l => Slot.not_echoOn_of_ingress hrec hr) hround ⟨h.table.baseline n _ hof, fun m hm hother => hm ?_⟩
  exact h.table.apart m n _ hother hof

theorem State.roundFollows_of_settled {r : Record} (hrec : s.record n = some r) (hs : r.state ≠ .probing)
    (hmode : s.mode.Alike t.mode) : s.RoundFollows t n :=
  .inl ⟨State.busy_of_alike hmode, fun hp => hs ((Slot.holds_of_record hrec).mp hp)⟩

end OneSlot

/-! ### The start of a round (R128) -/

/-- The head of a queue in which no name stands twice is the entry of its name alone. -/
theorem filter_name_ne_head {head : WaitEntry} {rest : List WaitEntry} (h : ((head :: rest).map fun e => e.name).Nodup) :
    ((head :: rest).filter fun e => e.name != head.name) = rest := by
  have hnew : ∀ e ∈ rest, e.name ≠ head.name := fun e he heq =>
    (List.nodup_cons.mp h).1 (List.mem_map.mpr ⟨e, he, heq⟩)
  rw [List.filter_cons_of_neg (by simp), List.filter_eq_self]
  exact fun e he => bne_iff_ne.mpr (hnew e he)

theorem State.Tabled.head {s : State} (h : s.Tabled) {head : WaitEntry} {rest : List WaitEntry}
    (hq : s.waitQueue = head :: rest) : ∃ r, s.named head.name = some r ∧ r.state = .probeWait :=
  State.names_iff.mp ((h.table.waiting _).mp (State.mem_waitNames.mpr ⟨head, by rw [hq]; exact List.mem_cons_self, rfl⟩))

theorem State.roundStartDue_iff {s : State} : s.roundStartDue = true ↔ s.mode = .idle ∧ s.startOutcome = .pass := by
  cases hm : s.mode <;> simp [State.roundStartDue, hm]

theorem State.waitQueue_ne_nil_of_pass {s : State} (h : s.startOutcome = .pass) : s.waitQueue ≠ [] := by
  intro hnil
  rw [State.startOutcome, if_pos hnil] at h
  exact absurd h nofun

theorem Record.enter_probing_of_sound {plant : PerLeg LegMap} {r : Record} (hsound : r.sound plant = true)
    (h : r.state = .probeWait) : r.enter .probing = { r with state := .probing, acknowledged := false, frozen := false } := by
  rw [Record.enter_probing h, Record.stillFrozen_of_sound_probeWait hsound h]

theorem State.Tabled.startRound {s : State} (h : s.Tabled) (hdue : s.roundStartDue = true) : s.startRound.Tabled := by
  obtain ⟨hmode, hpass⟩ := State.roundStartDue_iff.mp hdue
  obtain ⟨head, rest, hq⟩ := List.exists_cons_of_ne_nil (State.waitQueue_ne_nil_of_pass hpass)
  obtain ⟨r, hnamed, hwait⟩ := h.head hq
  have hrec := State.record_of_named hnamed
  have hgen := State.gen_of_named hnamed
  have hsound := h.table.records _ r hrec
  obtain ⟨g, hr, -, hlink, -⟩ := Record.ingress_of_waiting hsound (.inl hwait)
  have hstart := State.startRound_of_probeWait hq hnamed hwait
  rw [Record.enter_probing_of_sound hsound hwait] at hstart
  generalize s.startRound = t at hstart ⊢
  obtain ⟨hself, hslots⟩ := State.slot_of_table (t := t) (s := s) (by rw [hstart]; rfl)
  have hqueue : t.waitQueue = s.waitQueue.filter fun e => e.name != s.nameOf head.name.num := by
    have honce := h.table.once
    rw [State.waitNames, hq] at honce
    rw [← State.name_eq_nameOf hgen, hq, filter_name_ne_head honce, hstart]
    rfl
  have hrec' : (t.slot head.name.num).record = some { r with state := .probing, acknowledged := false, frozen := false } := by
    rw [hself]
  have hholds : (t.slot head.name.num).Holds .probing := (Slot.holds_of_record hrec').mpr rfl
  have hname : t.nameOf head.name.num = head.name := by rw [State.nameOf, hself, hgen]
  have hidle : s.busy = none := by rw [State.busy, State.round, hmode]; rfl
  have hbusy : t.busy = some (t.nameOf head.name.num) := by rw [hname, hstart]; rfl
  refine ⟨?_, fun l => (h.links l).of_slot hslots
    (Slot.linksKept_of_not_echo (Slot.not_echoOn_of_ingress hrec hr) fun _ hl =>
      absurd hl (Slot.not_linksTo_of_unlinked hrec' hr hlink))⟩
  refine h.table.change hslots (fun q hq => ?_) (by rw [hstart]; rfl) (by rw [hstart]; rfl) ?_ ?_ ?_
  · obtain rfl := Option.some.inj (hrec'.symm.trans hq)
    exact Record.sound_between hsound (.inl hwait) (.inr rfl) false
  · refine h.table.queueFollows_of_leave hqueue fun hw => ?_
    rw [Slot.holds_of_record hrec'] at hw
    exact absurd hw nofun
  · rw [hbusy, hidle]
    exact State.busyFollows_of_begin hholds
  · refine h.table.ingressFollows_of_kept fun b hb => ?_
    exact (Slot.ingressOf_of_ingress hrec hr).mpr ((Slot.ingressOf_of_ingress hrec' hr).mp hb)

/-! ### The end of a round without evaluation (R140) -/

/-- The record of a round in progress. -/
theorem State.Tabled.probed {s : State} (h : s.Tabled) {r : Round} (hround : s.round = some r) :
    ∃ x g, s.named r.record = some x ∧ x.state = .probing ∧ x.body = .ingress g ∧ g.leg = none ∧ g.link = none := by
  have hbusy : s.busy = some r.record := by rw [State.busy, hround]; rfl
  obtain ⟨x, hnamed, hx⟩ := State.names_iff.mp ((h.table.probing _).mp hbusy)
  obtain ⟨g, hg, hleg, hlink, -⟩ := Record.ingress_of_waiting (h.table.records _ x (State.record_of_named hnamed)) (.inr hx)
  exact ⟨x, g, hnamed, hx, hg, hleg, hlink⟩

theorem State.Tabled.aborted {s t : State} (h : s.Tabled) {r : Round} (hround : s.round = some r)
    (ht : t.table = (s.aborted r).table ∧ t.waitQueue = (s.aborted r).waitQueue) (hplant : t.plant = s.plant)
    (hbands : t.bands = s.bands) (hbusy : t.busy = none) : t.Tabled := by
  obtain ⟨x, g, hnamed, hx, hg, hleg, hlink⟩ := h.probed hround
  obtain ⟨-, hreturns⟩ := s.recordReturns_aborted r
  have hrec := State.record_of_named hnamed
  have haborted := State.requeue_of_probing (s := s.abortCommand) (name := r.record)
    (by rw [s.abortCommand_eq_withSwitches]; exact hnamed) hx
  rw [Record.enter_probeWait_of_probing hx hg hleg] at haborted
  have htable : t.table = (s.setSlot r.record.num
      { gen := r.record.gen, changed := true
        record := some { x with state := .probeWait, acknowledged := false, frozen := false } }).table := by
    rw [ht.1, State.aborted, haborted, State.table_startTestIfIdle, s.abortCommand_eq_withSwitches]
    rfl
  have hqueue : t.waitQueue = insertEntry
      { name := { num := r.record.num, gen := r.record.gen }, excess := x.severity, second := s.clock.seconds }
      s.waitQueue := by
    rw [ht.2, State.aborted, haborted, State.waitQueue_startTestIfIdle, s.abortCommand_eq_withSwitches]
    rfl
  exact h.rejoined hrec hg rfl htable hqueue hplant hbands hg hlink rfl
    (Record.sound_between (h.table.records _ x hrec) (.inr hx) (.inl rfl) false) (by rw [hx]; exact nofun)
    (.inr ⟨hbusy, (Slot.holds_of_record hrec).mpr hx⟩)

end Machine
end Sys2Proof
end

section
/-! Proofs, family 11, sixteenth part: a retirement by the state of its record, and how retirements, lockouts, detections and a REPROBE
leave the table and the links sound. -/

namespace Sys2Proof
namespace Machine

/-! ### The start test and the queue (R20, R126, R127) -/

theorem State.startTest_of_emptyQueue {s : State} (hmode : s.mode = .idle ∨ s.mode = .waitBudget) (hq : s.waitQueue = []) :
    s.startTest = s.withMode .idle := by
  rw [State.startTest_of_waiting hmode, State.startOutcome, if_pos hq]
  rfl

theorem State.leaveQueue_eq (s : State) (name : RecordName) :
    s.leaveQueue name = (s.withWaitQueue (s.waitQueue.filter fun e => e.name != name)).withMode
      (if s.mode = .waitBudget ∧ (s.waitQueue.filter fun e => e.name != name) = [] then .idle else s.mode) := by
  unfold State.leaveQueue
  dsimp only
  by_cases hempty : (s.waitQueue.filter fun e => e.name != name) = []
  · rw [if_pos hempty]
    by_cases hmode : s.mode = .waitBudget
    · rw [if_pos ⟨hmode, hempty⟩]
      simp only [hmode]
      exact State.startTest_of_emptyQueue (.inr hmode) hempty
    · rw [if_neg fun h => hmode h.1]
      cases hm : s.mode with
      | waitBudget => exact absurd hm hmode
      | idle | active | closing | paused | manual | locked =>
        dsimp only
        rw [← hm]
        rfl
  · rw [if_neg hempty, if_neg fun h => hempty h.2]
    rfl

/-! ### Retirement (R19, R20) -/

section Retire
variable {s : State} {n : SlotNo} {r : Record}

theorem State.freeSlot_eq (s : State) (n : SlotNo) : s.freeSlot n = s.setSlot n (s.slot n).freed := rfl

theorem State.named_freeSlot {name : RecordName} (hnum : name.num = n) : (s.freeSlot n).named name = none := by
  subst hnum
  rw [State.named, State.record, State.freeSlot_eq, State.slot_setSlot_self]
  exact ite_self _

theorem State.retireQuietly_of_probeWait (hrec : s.record n = some r) (hs : r.state = .probeWait) :
    s.retireQuietly n = (s.freeSlot n).leaveQueue (s.nameOf n) := by
  simp only [State.retireQuietly, hrec, State.afterRetirement, hs]

/-- The round of a retired record is aborted; its record is gone, so nothing is queued again. -/
theorem State.retireQuietly_of_probing {x : Round} (hrec : s.record n = some r) (hs : r.state = .probing)
    (hround : s.round = some x) (hname : x.record = s.nameOf n) :
    s.retireQuietly n = ((s.freeSlot n).abortCommand).enterMode .idle := by
  have hfreed : (s.freeSlot n).round = some x := hround
  simp only [State.retireQuietly, hrec, State.afterRetirement, hs, hfreed, if_pos hname, State.abortRound]
  have hgone : (s.freeSlot n).abortCommand.named x.record = none := by
    rw [State.abortCommand_eq_withSwitches]
    exact State.named_freeSlot (by rw [hname]; rfl)
  rw [State.requeue_of_gone hgone]

theorem State.retireQuietly_of_settled (hrec : s.record n = some r) (hs : r.state ≠ .probeWait ∧ r.state ≠ .probing) :
    s.retireQuietly n = s.freeSlot n := by
  cases hst : r.state with
  | probeWait => exact absurd hst hs.1
  | probing => exact absurd hst hs.2
  | suspect | confirmed | dormant | unresolved | cleared => simp only [State.retireQuietly, hrec, State.afterRetirement, hst]

/-- A retirement takes the record out of its slot, and out of the wait queue and the round. -/
theorem State.Tabled.retireQuietly (h : s.Tabled) (hrec : s.record n = some r) :
    (s.retireQuietly n).TableSound (s.retireQuietly n).busy ∧
      ∀ l, ¬ (s.slot n).EchoOn l → (s.retireQuietly n).LinkedOn l := by
  have hfreed {t : State} (htable : t.table = (s.setSlot n (s.slot n).freed).table) (hplant : t.plant = s.plant)
      (hbands : t.bands = s.bands) (hqueue : s.QueueFollows t n) (hround : s.RoundFollows t n) :
      t.TableSound t.busy ∧ ∀ l, ¬ (s.slot n).EchoOn l → t.LinkedOn l := by
    obtain ⟨hself, hslots⟩ := State.slot_of_table htable
    have hfree : (t.slot n).record = none := by rw [hself]; rfl
    refine ⟨h.table.change hslots (fun q hq => ?_) hplant hbands hqueue (h.busyFollows hround (Slot.not_holds_of_free hfree))
      fun b hb => absurd hb (Slot.not_ingressOf_of_free hfree), fun l hl => (h.links l).of_slot hslots
      (Slot.linksKept_of_not_echo hl fun _ hname => absurd hname (Slot.not_linksTo_of_free hfree))⟩
    exact nomatch hfree.symm.trans hq
  have hnot {t : State} {st : RecordState} (htable : t.table = (s.setSlot n (s.slot n).freed).table) :
      ¬ (t.slot n).Holds st := Slot.not_holds_of_free (by rw [(State.slot_of_table htable).1]; rfl)
  by_cases hwait : r.state = .probeWait
  · have hleft := State.retireQuietly_of_probeWait hrec hwait
    have htable : (s.retireQuietly n).table = (s.setSlot n (s.slot n).freed).table := by rw [hleft, State.leaveQueue_eq]; rfl
    refine hfreed htable (by rw [hleft, State.leaveQueue_eq]; rfl) (by rw [hleft, State.leaveQueue_eq]; rfl) ?_ ?_
    · exact h.table.queueFollows_of_leave (by rw [hleft, State.leaveQueue_eq]; rfl) (hnot htable)
    · refine State.roundFollows_of_settled hrec (by rw [hwait]; exact nofun) ?_
      rw [hleft]
      exact State.alike_leaveQueue (s.freeSlot n) _
  have hsame {t : State} (htable : t.table = (s.setSlot n (s.slot n).freed).table) (hqueue : t.waitQueue = s.waitQueue) :
      s.QueueFollows t n :=
    h.table.queueFollows_of_same hqueue (fun hw => hwait ((Slot.holds_of_record hrec).mp hw)) (hnot htable)
  by_cases hprobing : r.state = .probing
  · have hholds : (s.slot n).Holds .probing := (Slot.holds_of_record hrec).mpr hprobing
    have hbusy := (h.table.probing _).mpr (State.names_nameOf_iff.mpr hholds)
    obtain ⟨x, hround, hname⟩ := Option.map_eq_some_iff.mp hbusy
    have hended := State.retireQuietly_of_probing hrec hprobing hround hname
    rw [State.abortCommand_eq_withSwitches] at hended
    have htable : (s.retireQuietly n).table = (s.setSlot n (s.slot n).freed).table := by
      rw [hended, State.enterMode, State.table_startTestIfIdle]
      rfl
    refine hfreed htable (s.touches_retireQuietly n .plant (by decide)) (s.touches_retireQuietly n .bands (by decide))
      (hsame htable (by rw [hended, State.enterMode, State.waitQueue_startTestIfIdle]; rfl)) (.inr ⟨?_, hholds⟩)
    rw [hended]
    exact State.busy_of_round_none ((State.round_of_alike (State.alike_startTestIfIdle _)).trans rfl)
  · rw [State.retireQuietly_of_settled hrec ⟨hwait, hprobing⟩]
    exact hfreed rfl rfl rfl (hsame rfl rfl) (State.roundFollows_of_settled hrec hprobing (.refl _))

theorem State.Tabled.retire (h : s.Tabled) (n : SlotNo) : (s.retire n).Tabled := by
  unfold State.retire
  split
  · exact h
  · rename_i r hrec
    obtain ⟨htable, hlinks⟩ := h.retireQuietly hrec
    split
    · rename_i hnone
      refine ⟨htable, fun l => hlinks l ?_⟩
      rintro ⟨q, hq, hon⟩
      obtain rfl := Option.some.inj (hrec.symm.trans hq)
      obtain ⟨e, hr, hs, -⟩ := Record.confirmedEchoOn_iff.mp hon
      simp [State.relinkLeg, hr, hs] at hnone
    · rename_i leg hleg
      refine ⟨htable.evaluateLinks leg, State.linkedOn_evaluateLinks htable.records fun k hk => hlinks k ?_⟩
      rintro ⟨q, hq, hon⟩
      obtain rfl := Option.some.inj (hrec.symm.trans hq)
      obtain ⟨e, hr, hs, rfl⟩ := Record.confirmedEchoOn_iff.mp hon
      simp only [State.relinkLeg, hr, hs, if_true, Option.some.injEq] at hleg
      exact hk hleg

end Retire

/-! ### The lockout (R154) -/

theorem State.Tabled.locked {s : State} (h : s.Tabled) (guard : Nat) :
    ((s.withLockout true).allThrough guard).enterLocked.Tabled := by
  have htouches : s.Touches [.switches, .lockout] ((s.withLockout true).allThrough guard) :=
    (State.Touches.of_withLockout s _).mono.trans (State.touches_allThrough _ _).mono
  have hthrough : ((s.withLockout true).allThrough guard).Tabled :=
    h.congr_alike (htouches .table (by decide)) (htouches .plant (by decide)) (htouches .bands (by decide))
      (htouches .waitQueue (by decide)) (.inl (htouches .mode (by decide)))
  generalize (s.withLockout true).allThrough guard = u at hthrough ⊢
  unfold State.enterLocked
  split
  · rename_i r hround
    have haborted : u.Touches _ (u.aborted r) := u.touches_aborted r
    exact hthrough.aborted hround ⟨rfl, rfl⟩ (haborted .plant (by decide)) (haborted .bands (by decide)) rfl
  · rename_i hround
    exact hthrough.congr rfl rfl rfl rfl (State.busy_of_round_none hround).symm

/-! ### Ingress records (R109 to R112, R179) -/

section Ingress
variable {s : State} {n : SlotNo} {r : Record} {g : IngressPart}

theorem State.Tabled.feedIngress (h : s.Tabled) (hrec : s.record n = some r) (hr : r.body = .ingress g) (excess streak : Nat)
    (second : Word32) : (s.feedIngress n excess streak second).Tabled := by
  have hsound := Record.sound_addEvidence (h.table.records n r hrec) hr s.settings.scoreAdd excess second
  by_cases hreopened : s.settings.ingressStreak ≤ streak ∧ (r.state = .dormant ∨ r.state = .cleared)
  · obtain ⟨hstreak, hs⟩ := hreopened
    have hreopenable := Record.reopenable_of_sound (h.table.records n r hrec) hr hs.symm
    have hfed := State.feedIngress_of_reopened excess streak second hrec hr hstreak hreopenable
    have hbody : (r.addEvidence s.settings.scoreAdd excess second).body = .ingress g := hr
    have hresult := Record.sound_reopened hsound hbody
    have hne : r.state ≠ .probeWait ∧ r.state ≠ .probing := by obtain hs | hs := hs <;> rw [hs] <;> exact ⟨nofun, nofun⟩
    have hmode := s.alike_feedIngress n excess streak second
    have htouches := s.touches_feedIngress n excess streak second
    generalize r.addEvidence s.settings.scoreAdd excess second = fed at hfed hresult
    rw [State.joinQueue_setSlot] at hfed
    refine h.rejoined (g' := { g with leg := none, link := none, attempts := 0, voidStreak := 0 }) hrec hr rfl
      (by rw [hfed, State.table_startTestIfIdle]; rfl) (by rw [hfed, State.waitQueue_startTestIfIdle]; rfl)
      (htouches .plant (by decide)) (htouches .bands (by decide)) rfl rfl rfl hresult hne.1
      (State.roundFollows_of_settled hrec hne.2 hmode)
  · have hfed := State.feedIngress_of_fed excess streak second hrec <| by
      by_cases hstreak : streak < s.settings.ingressStreak
      · exact .inl hstreak
      · exact .inr (not_or.mp fun hs => hreopened ⟨Nat.not_lt.mp hstreak, hs⟩)
    have hbody : (r.addEvidence s.settings.scoreAdd excess second).body = r.body := rfl
    have hstate : (r.addEvidence s.settings.scoreAdd excess second).state = r.state := rfl
    generalize r.addEvidence s.settings.scoreAdd excess second = fed at hfed hsound hbody hstate
    rw [hfed]
    obtain ⟨hself, hslots⟩ := State.slot_of_table (s := s) (n := n)
      (t := s.setSlot n { s.slot n with record := some fed }) rfl
    exact h.rewritten hrec hslots (by rw [hself]) (by rw [State.record, hself]) hsound hstate hbody rfl rfl rfl rfl

theorem State.Tabled.reprobe (h : s.Tabled) (hrec : s.record n = some r) (hr : r.body = .ingress g)
    (hs : r.state ≠ .probeWait ∧ r.state ≠ .probing) : (s.reprobe n r g).Tabled := by
  have hsound := h.table.records n r hrec
  have hreprobed := State.reprobe_eq (n := n) hsound hr hs.1
  have htouches := s.touches_reprobe n r g
  exact h.rejoined (g' := { g with leg := none, attempts := 0, voidStreak := 0, link := none }) hrec hr rfl
    (by rw [hreprobed, State.table_startTestIfIdle]; rfl) (by rw [hreprobed, State.waitQueue_startTestIfIdle]; rfl)
    (htouches .plant (by decide)) (htouches .bands (by decide)) rfl rfl rfl (Record.sound_reprobed hsound hr) hs.1
    (State.roundFollows_of_settled hrec hs.2 (s.alike_reprobe n r g))

theorem State.Tabled.openIngress (h : s.Tabled) (hscore : s.settings.scoreAdd ≤ 50) {b : Band} (excess streak : Nat)
    (second : Word32) (hbase : (s.band b).baseline.isSome = true)
    (hnone : ∀ n r, s.record n = some r → r.ingressOf b = false) : (s.openIngress b excess streak second).Tabled := by
  have hmode := s.alike_openIngress b excess streak second
  have htouches := s.touches_openIngress b excess streak second
  by_cases hstreak : s.settings.ingressStreak ≤ streak
  · cases halloc : s.allocationSlot with
    | none =>
      simp only [State.openIngress, if_pos hstreak, halloc]
      exact h.raise _
    | some n =>
      have hopened : s.openIngress b excess streak second =
          (s.allocateAt n (newIngress s.settings b excess second)).joinQueue n second := by
        simp only [State.openIngress, if_pos hstreak, halloc]
      rw [State.allocateAt, State.joinQueue_setSlot] at hopened
      have hold := State.record_of_allocationSlot halloc
      have hholds {st : RecordState} (hst : st ≠ .cleared ∧ st ≠ .suspect) : ¬ (s.slot n).Holds st := by
        rintro ⟨q, hq, rfl⟩
        exact (hold q hq).elim hst.1 hst.2
      have hresult := Record.sound_newIngress (plant := s.plant) b excess second hscore
      refine h.joined (by rw [hopened, State.table_startTestIfIdle]; rfl)
        (by rw [hopened, State.waitQueue_startTestIfIdle]; rfl) (htouches .plant (by decide)) (htouches .bands (by decide)) rfl rfl
        rfl hresult (hholds ⟨nofun, nofun⟩) (fun l => ?_) (.inl ⟨State.busy_of_alike hmode, hholds ⟨nofun, nofun⟩⟩) ⟨?_, ?_⟩
      · refine Slot.not_echoOn_of_not_confirmed fun q hq => ?_
        obtain hs | hs := hold q hq <;> rw [hs] <;> exact nofun
      · exact Option.isSome_iff_ne_none.mp hbase
      · rintro m - ⟨q, hq, hqb⟩
        exact absurd (hqb.symm.trans (hnone m q hq)) nofun
  · simp only [State.openIngress, if_neg hstreak]
    exact h

end Ingress

end Machine
end Sys2Proof
end

section
/-! Proofs, family 11, seventeenth part: the evaluation of a round, by its outcome. -/

namespace Sys2Proof
namespace Machine

/-! ### The strongest echo and one slot (R27) -/

/-- A slot without an echo record, before and after, is of no account to the strongest echo. -/
theorem State.strongestEcho_setSlot {s : State} {n : SlotNo} {y : Slot} {leg : Leg}
    (hold : ¬ (s.slot n).EchoOn leg) (hnew : ¬ y.EchoOn leg) : (s.setSlot n y).strongestEcho leg = s.strongestEcho leg := by
  have hdropped {x : Slot} (hx : ¬ x.EchoOn leg) :
      Option.filter (fun p : SlotNo × Record => p.2.confirmedEchoOn leg) (x.record.map fun r => (n, r)) = none := by
    cases hr : x.record with
    | none => rfl
    | some r =>
      have hnot : r.confirmedEchoOn leg = false := Bool.eq_false_iff.mpr fun hon => hx ⟨r, hr, hon⟩
      simp [Option.filter_some, hnot]
  have hechoes : ((s.setSlot n y).records.filter fun p => p.2.confirmedEchoOn leg) =
      s.records.filter fun p => p.2.confirmedEchoOn leg := by
    simp only [State.records, List.filter_filterMap]
    refine List.filterMap_congr fun m _ => ?_
    by_cases hm : m = n
    · subst hm
      rw [State.record, State.slot_setSlot_self, hdropped hnew, State.record, hdropped hold]
    · rw [State.record, s.slot_setSlot_ne y hm]
      rfl
  rw [State.strongestEcho, hechoes]
  refine Option.map_congr fun p hp => ?_
  obtain ⟨hrec, hon⟩ := State.mem_confirmedEchoes.mp (least_mem _ hp)
  have hne : p.1 ≠ n := fun heq => hold (heq ▸ ⟨p.2, hrec, hon⟩)
  rw [State.nameOf, State.nameOf, s.slot_setSlot_ne y hne]

/-! ### What an outcome makes of the ingress part (R137) -/

/-- An outcome names a leg where it is LOCATED, and there alone. -/
theorem Round.judge_located {r : Round} {threshold : Int} (h : (r.judge threshold).1 = .located) :
    ∃ l, r.judge threshold = (.located, some l) := by
  rw [Round.judge_eq] at h ⊢
  by_cases hvoid : r.IsVoid threshold
  · rw [if_pos hvoid] at h
    exact absurd h nofun
  by_cases hthin : r.IsThin
  · rw [if_neg hvoid, if_pos hthin] at h
    exact absurd h nofun
  rw [if_neg hvoid, if_neg hthin] at h ⊢
  unfold Round.judgeDrops at h ⊢
  split at h
  · rename_i l hlegs
    split at h
    · rename_i hlow
      exact ⟨l, by simp only [if_pos hlow]⟩
    · exact absurd h nofun
  · exact absurd h nofun
  · exact absurd h nofun

/-- The outcome of a round on an ingress record, with the leg that LOCATED names. -/
def State.judged (round : Round) (g : IngressPart) (s : State) : RoundOutcome × Option Leg :=
  round.judge (voidThreshold (s.baselineOf g.band) s.settings.ingressExcess)

/-- The ingress part with the outcome written into it. -/
def IngressPart.judged (maxAttempts : Nat) (round : Round) (o : RoundOutcome) (g : IngressPart) : IngressPart :=
  { g with
    lastRound := some { outcome := o, drops := PerLeg.ofFn round.drop }
    attempts := (outcomeEffect maxAttempts o g).2.1, voidStreak := (outcomeEffect maxAttempts o g).2.2 }

theorem outcomeEffect_void (maxAttempts : Nat) (g : IngressPart) :
    outcomeEffect maxAttempts .void g =
      (if 4 ≤ g.voidStreak + 1 then .dormant else .probeWait, g.attempts, g.voidStreak + 1) := rfl

theorem outcomeEffect_open {o : RoundOutcome} (maxAttempts : Nat) (g : IngressPart) (ho : o = .thin ∨ o = .multi ∨ o = .weak) :
    outcomeEffect maxAttempts o g =
      (if maxAttempts ≤ min (g.attempts + 1) 32 then .unresolved else .probeWait, min (g.attempts + 1) 32, 0) := by
  obtain rfl | rfl | rfl := ho <;> rfl

theorem outcomeEffect_located (maxAttempts : Nat) (g : IngressPart) :
    outcomeEffect maxAttempts .located g = (.confirmed, g.attempts, 0) := rfl

/-- Of an outcome that is not LOCATED, the state is one without a leg. -/
theorem outcomeEffect_cases {o : RoundOutcome} (maxAttempts : Nat) (g : IngressPart) (ho : o ≠ .located) :
    (outcomeEffect maxAttempts o g).1 = .probeWait ∨ (outcomeEffect maxAttempts o g).1 = .dormant ∨
      (outcomeEffect maxAttempts o g).1 = .unresolved := by
  have hopen (ho : o = .thin ∨ o = .multi ∨ o = .weak) : (outcomeEffect maxAttempts o g).1 = .probeWait ∨
      (outcomeEffect maxAttempts o g).1 = .dormant ∨ (outcomeEffect maxAttempts o g).1 = .unresolved := by
    rw [outcomeEffect_open maxAttempts g ho]
    dsimp only
    split
    · exact .inr (.inr rfl)
    · exact .inl rfl
  cases o with
  | void =>
    rw [outcomeEffect_void]
    dsimp only
    split
    · exact .inr (.inl rfl)
    · exact .inl rfl
  | thin => exact hopen (.inl rfl)
  | multi => exact hopen (.inr (.inl rfl))
  | weak => exact hopen (.inr (.inr rfl))
  | located => exact absurd rfl ho

/-- The link of a slot's CONFIRMED ingress record, where the slot held no echo record before, is the strongest echo. -/
theorem State.evaluateLinkOf_setSlot {s : State} {n : SlotNo} {gen : Byte} {q : Record} {g : IngressPart} {l : Leg} (flag : Nat)
    (hold : ¬ (s.slot n).EchoOn l) (hq : q.body = .ingress g) (hs : q.state = .confirmed) (hl : g.leg = some l) :
    ((s.setSlot n { gen := gen, changed := true, record := some q }).raise flag).evaluateLinkOf n =
      (s.setSlot n
        { gen := gen, changed := true
          record := some { q with body := .ingress { g with link := s.strongestEcho l } } }).raise flag := by
  generalize hy : ({ gen := gen, changed := true, record := some q } : Slot) = y
  have hyrec : y.record = some q := by rw [← hy]
  have hecho : ((s.setSlot n y).raise flag).strongestEcho l = s.strongestEcho l :=
    State.strongestEcho_setSlot hold (Slot.not_echoOn_of_ingress hyrec hq)
  have hrecord : ((s.setSlot n y).raise flag).record n = some q := (State.record_setSlot_self s n y).trans hyrec
  have hslot : ((s.setSlot n y).raise flag).slot n = y := s.slot_setSlot_self n y
  have hleg : q.leg? = some l := by simp only [Record.leg?, hq, hl]
  simp only [State.evaluateLinkOf, hrecord, hleg, hecho, hslot]
  show ((s.setSlot n y).setSlot n _).raise flag = _
  rw [State.setSlot_setSlot, Slot.relink_of_confirmed _ hyrec hq hs hl, ← hy]
  rfl

/-! ### The evaluation of the record (R137) -/

/-- A PROBING record with the outcome of its round, in the state that this gives. -/
def Record.evaluated (st : RecordState) (frozen : Bool) (g : IngressPart) (r : Record) : Record :=
  { r with state := st, acknowledged := false, frozen := frozen, body := .ingress g }

section Evaluation
variable {s : State} {n : SlotNo} {r : Record} {g : IngressPart} {round : Round}

/-- From PROBING R5 takes nothing of the ingress part. -/
theorem Record.enter_of_probing {st : RecordState} {g : IngressPart} {r : Record} (hs : r.state = .probing) (hst : st ≠ .probing)
    (hr : r.body = .ingress g) : r.enter st = r.evaluated st (r.body.stillFrozen r.frozen) g := by
  have hbody : r.body.agree r.state st = r.body := by simp [RecordBody.agree, hr, hs]
  rw [Record.enter, hbody, if_neg (hs ▸ hst.symm), if_neg (by rw [hs]; exact nofun), Record.evaluated, hr]

/-- The slot after the outcome has been written and the state entered. -/
theorem State.enterState_of_probing (g' : IngressPart) {st : RecordState} (hs : r.state = .probing) (hst : st ≠ .probing) :
    (s.putRecord n { r with body := .ingress g' } false).enterState n st =
      (s.setSlot n
        { gen := (s.slot n).gen, changed := true
          record := some (r.evaluated st (if g'.leg = none then false else r.frozen) g') }).raiseEntry st := by
  have hentered := Record.enter_of_probing (st := st) (g := g') (r := { r with body := .ingress g' }) hs hst rfl
  rw [State.putRecord_eq_setSlot_of_unchanged]
  simp only [State.enterState, State.record_setSlot_self, State.putRecord_setSlot, hentered, Bool.or_true]
  rw [if_neg (by rw [hs]; exact hst.symm)]
  rfl

variable (hs : r.state = .probing) (hr : r.body = .ingress g)
include hs

theorem State.applyEvaluation_of_settled (ho : (s.judged round g).1 ≠ .located)
    (hst : (outcomeEffect s.settings.maxAttempts (s.judged round g).1 g).1 ≠ .probeWait) :
    let st := (outcomeEffect s.settings.maxAttempts (s.judged round g).1 g).1
    s.applyEvaluation n r g round = (s.setSlot n
      { gen := (s.slot n).gen, changed := true
        record := some (r.evaluated st (if g.leg = none then false else r.frozen)
          (g.judged s.settings.maxAttempts round (s.judged round g).1)) }).raiseEntry st := by
  intro st
  have hcases := (outcomeEffect_cases s.settings.maxAttempts g ho).resolve_left hst
  have hne : st ≠ .probing := by
    obtain h | h := hcases <;> exact fun heq => absurd (h.symm.trans heq) nofun
  have hentered := State.enterState_of_probing (s := s) (n := n) (st := st)
    (g.judged s.settings.maxAttempts round (s.judged round g).1) hs hne
  refine Eq.trans ?_ hentered
  unfold State.applyEvaluation
  dsimp only
  split
  · rename_i hconfirmed
    obtain h | h := hcases <;> exact absurd (h.symm.trans hconfirmed) nofun
  · rename_i hwait
    exact absurd hwait hst
  all_goals rfl

theorem State.applyEvaluation_of_probeWait
    (hst : (outcomeEffect s.settings.maxAttempts (s.judged round g).1 g).1 = .probeWait) :
    s.applyEvaluation n r g round = ((s.setSlot n
      { gen := (s.slot n).gen, changed := true
        record := some (r.evaluated .probeWait (if g.leg = none then false else r.frozen)
          (g.judged s.settings.maxAttempts round (s.judged round g).1)) }).withWaitQueue
      (insertEntry { name := s.nameOf n, excess := r.severity, second := s.clock.seconds } s.waitQueue)).startTestIfIdle := by
  have hentered := State.enterState_of_probing (s := s) (n := n) (st := .probeWait)
    (g.judged s.settings.maxAttempts round (s.judged round g).1) hs nofun
  have happlied : s.applyEvaluation n r g round =
      ((s.putRecord n { r with body := .ingress (g.judged s.settings.maxAttempts round (s.judged round g).1) } false).enterState
        n .probeWait).joinQueue n s.clock.seconds := by
    rw [← hst]
    unfold State.applyEvaluation
    dsimp only
    split
    · rename_i hconfirmed
      exact absurd (hst.symm.trans hconfirmed) nofun
    · rfl
    all_goals
      rename_i hother
      exact absurd (hst.symm.trans hother) nofun
  rw [happlied, hentered]
  exact State.joinQueue_setSlot s n _ _ _ _

include hr

theorem State.applyEvaluation_of_located {l : Leg} (hrec : s.record n = some r) (ho : s.judged round g = (.located, some l)) :
    s.applyEvaluation n r g round = ((s.setSlot n
      { gen := (s.slot n).gen, changed := true
        record := some (r.evaluated .confirmed (s.plant.get l).zone.isSome
          { g.judged s.settings.maxAttempts round .located with leg := some l, link := s.strongestEcho l }) }).raise
      flagConfirmed).withConfirmedNow (some (s.nameOf n)) := by
  have hjudged : round.judge (voidThreshold (s.baselineOf g.band) s.settings.ingressExcess) = (.located, some l) := ho
  have hentered := State.enterState_of_probing (s := s) (n := n) (st := .confirmed)
    (g.judged s.settings.maxAttempts round .located) hs nofun
  generalize hg' : g.judged s.settings.maxAttempts round .located = g' at hentered
  have hwritten : g' = { g with
      lastRound := some { outcome := .located, drops := PerLeg.ofFn round.drop }, attempts := g.attempts, voidStreak := 0 } := by
    rw [← hg']
    rfl
  have hplaced : Record.refreeze s.plant (r.evaluated .confirmed (if g'.leg = none then false else r.frozen) { g' with leg := some l }) =
      r.evaluated .confirmed (s.plant.get l).zone.isSome { g' with leg := some l } := rfl
  have hraised (u : State) : (u.raise flagConfirmed).record n = u.record n := rfl
  have happlied : s.applyEvaluation n r g round =
      (((((s.setSlot n
        { gen := (s.slot n).gen, changed := true
          record := some (r.evaluated .confirmed (if g'.leg = none then false else r.frozen) g') }).raise flagConfirmed).putRecord
        n (r.evaluated .confirmed (s.plant.get l).zone.isSome { g' with leg := some l }) true).evaluateLinkOf
        n).withConfirmedNow (some (s.nameOf n))) := by
    unfold State.applyEvaluation
    simp only [hjudged, outcomeEffect_located, ← hwritten, hentered, State.raiseEntry, hraised,
      State.record_setSlot_self]
    rfl
  have hput (q₀ q : Record) :
      (((s.setSlot n { gen := (s.slot n).gen, changed := true, record := some q₀ }).raise flagConfirmed).putRecord n q true) =
        (s.setSlot n { gen := (s.slot n).gen, changed := true, record := some q }).raise flagConfirmed := by
    show ((s.setSlot n _).putRecord n q true).raise flagConfirmed = _
    rw [State.putRecord_setSlot, Bool.or_true]
  rw [happlied, hput, State.evaluateLinkOf_setSlot _ (Slot.not_echoOn_of_ingress hrec hr) rfl rfl rfl]
  rfl

end Evaluation

/-! ### The table after it -/

theorem outcomeEffect_bounds {maxAttempts : Nat} {o : RoundOutcome} {g : IngressPart} (hattempts : g.attempts ≤ 32)
    (hstreak : g.voidStreak ≤ 3) :
    (outcomeEffect maxAttempts o g).2.1 ≤ 32 ∧ (outcomeEffect maxAttempts o g).2.2 ≤ 4 ∧
      ((outcomeEffect maxAttempts o g).1 = .probeWait → (outcomeEffect maxAttempts o g).2.2 ≤ 3) := by
  have hopen (ho : o = .thin ∨ o = .multi ∨ o = .weak) : (outcomeEffect maxAttempts o g).2.1 ≤ 32 ∧
      (outcomeEffect maxAttempts o g).2.2 ≤ 4 ∧
      ((outcomeEffect maxAttempts o g).1 = .probeWait → (outcomeEffect maxAttempts o g).2.2 ≤ 3) := by
    rw [outcomeEffect_open maxAttempts g ho]
    exact ⟨Nat.min_le_right _ _, Nat.zero_le _, fun _ => Nat.zero_le _⟩
  cases o with
  | void =>
    rw [outcomeEffect_void]
    refine ⟨hattempts, Nat.succ_le_succ hstreak, fun hwait => ?_⟩
    dsimp only at hwait ⊢
    split at hwait
    · exact absurd hwait nofun
    · omega
  | located => exact ⟨hattempts, Nat.zero_le _, fun _ => Nat.zero_le _⟩
  | thin => exact hopen (.inl rfl)
  | multi => exact hopen (.inr (.inl rfl))
  | weak => exact hopen (.inr (.inr rfl))

section Table
variable {s t : State} {n : SlotNo} {x : Record} {g : IngressPart}

theorem Record.rangesSound_evaluated {plant : PerLeg LegMap} (h : x.sound plant = true) (hx : x.state = .probing)
    (st : RecordState) (frozen : Bool) (g' : IngressPart) : (x.evaluated st frozen g').rangesSound = true := by
  obtain ⟨-, -, -, -, -, -, hretention⟩ := Record.ingress_of_waiting h (.inr hx)
  obtain ⟨hscore, hone, hmany, hrecurrences, -, hticket⟩ := (Record.rangesSound_iff x).mp (Record.ranges_of_sound h)
  exact (Record.rangesSound_iff _).mpr ⟨hscore, hone, hmany, hrecurrences,
    fun k hk => absurd (hretention.symm.trans hk) nofun, hticket⟩

/-- A record whose round did not locate it is sound again without leg and link. -/
theorem Record.sound_evaluated {plant : PerLeg LegMap} (h : x.sound plant = true) (hx : x.state = .probing)
    (hg : x.body = .ingress g) {maxAttempts : Nat} {o : RoundOutcome} (ho : o ≠ .located) (round : Round) :
    Record.sound plant (x.evaluated (outcomeEffect maxAttempts o g).1 (if g.leg = none then false else x.frozen)
      (g.judged maxAttempts round o)) = true := by
  obtain ⟨g₀, hg₀, hleg, hlink, hstreak, -, -⟩ := Record.ingress_of_waiting h (.inr hx)
  obtain rfl := RecordBody.ingress.inj (hg.symm.trans hg₀)
  obtain ⟨-, -, hingress⟩ := (Record.sound_iff_of_ingress hg).mp h
  obtain ⟨hseverity, hattempts, -⟩ := (IngressPart.sound_iff _ _ _).mp hingress
  obtain ⟨hattempts', hstreak', hwait⟩ := outcomeEffect_bounds (maxAttempts := maxAttempts) (o := o) hattempts hstreak
  have hst := outcomeEffect_cases maxAttempts g ho
  refine Record.sound_of_unplaced (g := g.judged maxAttempts round o) (Record.rangesSound_evaluated h hx _ _ _) rfl (if_pos hleg)
    hleg hlink hseverity hattempts' hstreak' ?_ ?_ fun hs => hwait ?_
  · show (outcomeEffect maxAttempts o g).1 ≠ .suspect
    obtain hs | hs | hs := hst <;> rw [hs] <;> exact nofun
  · show (outcomeEffect maxAttempts o g).1 ≠ .confirmed
    obtain hs | hs | hs := hst <;> rw [hs] <;> exact nofun
  · have hne : (outcomeEffect maxAttempts o g).1 ≠ .probing := by obtain hs | hs | hs := hst <;> rw [hs] <;> exact nofun
    exact hs.resolve_right hne

theorem Record.sound_located {plant : PerLeg LegMap} (h : x.sound plant = true) (hx : x.state = .probing)
    (hg : x.body = .ingress g) {maxAttempts : Nat} (round : Round) (l : Leg) (link : Option RecordName) :
    Record.sound plant (x.evaluated .confirmed (plant.get l).zone.isSome
      { g.judged maxAttempts round .located with leg := some l, link := link }) = true := by
  obtain ⟨-, -, hingress⟩ := (Record.sound_iff_of_ingress hg).mp h
  obtain ⟨hseverity, hattempts, -⟩ := (IngressPart.sound_iff _ _ _).mp hingress
  refine (Record.sound_iff_of_ingress rfl).mpr ⟨Record.rangesSound_evaluated h hx _ _ _, rfl, ?_⟩
  rw [IngressPart.sound_iff]
  exact ⟨hseverity, hattempts, Nat.zero_le _, nofun, fun _ => Nat.zero_le _, fun _ => nofun, fun _ => .inl rfl, fun _ => rfl⟩

/-- A PROBING record takes a state that no longer waits, with a link to the strongest echo on its leg, if any. -/
theorem State.Tabled.concluded (h : s.Tabled) {q : Record} {g' : IngressPart} (hrec : s.record n = some x)
    (hx : x.state = .probing) (hg : x.body = .ingress g)
    (htable : t.table = (s.setSlot n { gen := (s.slot n).gen, changed := true, record := some q }).table)
    (hqueue : t.waitQueue = s.waitQueue) (hplant : t.plant = s.plant) (hbands : t.bands = s.bands) (hbusy : t.busy = none)
    (hq : q.body = .ingress g') (hband : g'.band = g.band) (hsound : q.sound s.plant = true)
    (hst : q.state ≠ .probeWait ∧ q.state ≠ .probing)
    (hlink : ∀ l name, g'.leg = some l → g'.link = some name → s.strongestEcho l = some name) : t.Tabled := by
  obtain ⟨hself, hslots⟩ := State.slot_of_table htable
  have hrec' : (t.slot n).record = some q := by rw [hself]
  have hnot {st : RecordState} (hne : q.state ≠ st) : ¬ (t.slot n).Holds st := fun hh =>
    hne ((Slot.holds_of_record hrec').mp hh)
  have hprobing : (s.slot n).Holds .probing := (Slot.holds_of_record hrec).mpr hx
  have hwait : ¬ (s.slot n).Holds .probeWait := fun hh =>
    absurd (hx.symm.trans ((Slot.holds_of_record hrec).mp hh)) nofun
  refine ⟨h.table.change hslots (fun p hp => ?_) hplant hbands (h.table.queueFollows_of_same hqueue hwait (hnot hst.1))
    (h.busyFollows (.inr ⟨hbusy, hprobing⟩) (hnot hst.2)) (h.table.ingressFollows_of_kept fun b hb => ?_), fun l m name hname => ?_⟩
  · obtain rfl := Option.some.inj (hrec'.symm.trans hp)
    exact hsound
  · rw [Slot.ingressOf_of_ingress hrec' hq, hband] at hb
    exact (Slot.ingressOf_of_ingress hrec hg).mpr hb
  · have helsewhere (k : SlotNo) (hecho : (s.slot k).EchoOn l) : t.slot k = s.slot k :=
      hslots k fun heq => Slot.not_echoOn_of_ingress hrec hg (heq ▸ hecho)
    have hnamed : (s.slot name.num).gen = name.gen ∧ (s.slot name.num).EchoOn l := by
      by_cases hm : m = n
      · subst hm
        obtain ⟨p, g₁, hp, hg₁, hleg, hlinked⟩ := hname
        obtain rfl := Option.some.inj (hrec'.symm.trans hp)
        obtain rfl := RecordBody.ingress.inj (hq.symm.trans hg₁)
        obtain ⟨e, hecho, hgen, -⟩ := State.strongestEcho_eq_some (hlink l name hleg hlinked)
        exact ⟨hgen.symm, e, hecho⟩
      · rw [hslots m hm] at hname
        exact h.links l m name hname
    rw [helsewhere _ hnamed.2]
    exact hnamed

theorem State.evaluateRound_of_probing {round : Round} (hmode : s.mode = .closing round) (hnamed : s.named round.record = some x)
    (hx : x.state = .probing) (hg : x.body = .ingress g) :
    s.evaluateRound = (s.applyEvaluation round.record.num x g round).enterMode .idle := by
  simp only [State.evaluateRound, hmode, hnamed, hg, if_pos hx]

theorem State.Tabled.evaluateRound (h : s.Tabled) {round : Round} (hmode : s.mode = .closing round) : s.evaluateRound.Tabled := by
  have hround : s.round = some round := by rw [State.round, hmode]
  obtain ⟨x, g, hnamed, hx, hg, hleg, hlink⟩ := h.probed hround
  have hrec := State.record_of_named hnamed
  have hsound := h.table.records _ x hrec
  have hevaluated := State.evaluateRound_of_probing hmode hnamed hx hg
  have htouches := s.touches_evaluateRound
  have hbusy : s.evaluateRound.busy = none := by
    rw [hevaluated]
    exact State.busy_of_round_none ((State.round_of_alike (State.alike_startTestIfIdle _)).trans rfl)
  by_cases ho : (s.judged round g).1 = .located
  · obtain ⟨l, hl⟩ := Round.judge_located ho
    have happlied := State.applyEvaluation_of_located (s := s) hx hg hrec hl
    refine h.concluded
      (g' := { g.judged s.settings.maxAttempts round .located with leg := some l, link := s.strongestEcho l }) hrec hx hg ?_ ?_
      (htouches .plant (by decide)) (htouches .bands (by decide)) hbusy rfl rfl (Record.sound_located hsound hx hg round l (s.strongestEcho l)) ⟨nofun, nofun⟩ ?_
    · rw [hevaluated, happlied, State.enterMode, State.table_startTestIfIdle]
      rfl
    · rw [hevaluated, happlied, State.enterMode, State.waitQueue_startTestIfIdle]
      rfl
    · intro k name hk hname
      obtain rfl := Option.some.inj hk
      exact hname
  · have hresult := Record.sound_evaluated (maxAttempts := s.settings.maxAttempts) hsound hx hg ho round
    by_cases hwait : (outcomeEffect s.settings.maxAttempts (s.judged round g).1 g).1 = .probeWait
    · have happlied := State.applyEvaluation_of_probeWait (n := round.record.num) (r := x) hx hwait
      rw [hwait] at hresult
      refine h.rejoined (gen := (s.slot round.record.num).gen) (changed := true) (second := s.clock.seconds) hrec hg ?_ ?_ ?_ (htouches .plant (by decide)) (htouches .bands (by decide)) rfl ?_ rfl hresult
        (by rw [hx]; exact nofun) (.inr ⟨hbusy, (Slot.holds_of_record hrec).mpr hx⟩)
      · rfl
      · rw [hevaluated, happlied, State.enterMode, State.table_startTestIfIdle]
        exact State.table_startTestIfIdle _
      · rw [hevaluated, happlied, State.enterMode, State.waitQueue_startTestIfIdle]
        exact State.waitQueue_startTestIfIdle _
      · exact hlink
    · have happlied := State.applyEvaluation_of_settled (n := round.record.num) (r := x) hx ho hwait
      have hraised (u : State) (st : RecordState) : (u.raiseEntry st).table = u.table ∧ (u.raiseEntry st).waitQueue = u.waitQueue := by
        cases st <;> exact ⟨rfl, rfl⟩
      refine h.concluded (g' := g.judged s.settings.maxAttempts round (s.judged round g).1) hrec hx hg ?_ ?_
        (htouches .plant (by decide)) (htouches .bands (by decide)) hbusy rfl rfl hresult ⟨hwait, ?_⟩ fun k name hk => absurd (hleg.symm.trans hk) nofun
      · rw [hevaluated, happlied, State.enterMode, State.table_startTestIfIdle]
        exact (hraised _ _).1
      · rw [hevaluated, happlied, State.enterMode, State.waitQueue_startTestIfIdle]
        exact (hraised _ _).2
      · show (outcomeEffect s.settings.maxAttempts (s.judged round g).1 g).1 ≠ .probing
        obtain hs | hs | hs := outcomeEffect_cases s.settings.maxAttempts g ho <;> rw [hs] <;> exact nofun

end Table

end Machine
end Sys2Proof
end

section
/-! Proofs, family 11, eighteenth part: every change leaves a sound table and sound links. -/

namespace Sys2Proof
namespace Machine

open State (Event)

section Tabled
variable {s t : State}

theorem State.tabled_iff (s : State) :
    s.Tabled ↔ s.recordsSound = true ∧ s.linksSound = true ∧ s.probingSound = true := by
  rw [State.tableSound_iff]
  exact ⟨fun h => ⟨h.table, h.links⟩, fun h => ⟨h.1, h.2⟩⟩

theorem State.tabled_congr (s t : State) (hsame : ∀ f ∈ [Field.table, .plant, .bands, .waitQueue, .mode], s.sameAt t f)
    (h : s.Tabled) : t.Tabled :=
  h.congr_alike (hsame .table (by decide)) (hsame .plant (by decide)) (hsame .bands (by decide)) (hsame .waitQueue (by decide))
    (.inl (hsame .mode (by decide)))

theorem State.busy_of_record {r r' : Round} (hr : s.round = some r) (hr' : t.round = some r') (hrecord : r'.record = r.record) :
    t.busy = s.busy := by
  rw [State.busy, State.busy, hr, hr', Option.map_some, Option.map_some, hrecord]

theorem State.round_of_resting {m : Mode} (hm : m.resting) (h : s.mode = m) : s.round = none := by
  obtain rfl | rfl | rfl := hm <;> rw [State.round, h]

theorem State.Tabled.setBand (h : s.Tabled) {b : Band} {x : BandEntry} (hx : (s.band b).Follows x) : (s.setBand b x).Tabled := by
  refine ⟨h.table.of_slots h.table.records (fun n => .refl _) rfl fun c hc => ?_, fun l => (h.links l).congr rfl⟩
  obtain ⟨-, v, hv, -⟩ := hx
  by_cases hcb : c = b
  · subst hcb
    rw [State.band_setBand_self, hv]
    exact nofun
  · rwa [State.band_setBand_ne s x hcb]

theorem State.Tabled.noted (h : s.Tabled) {n : SlotNo} {r : Record} (hrec : s.record n = some r) (acknowledged pinned : Bool)
    {ticket : Option Word32} (hticket : ticket = r.ticket ∨ ticket ≠ some 0) :
    (s.putRecord n { r with acknowledged := acknowledged, pinned := pinned, ticket := ticket } false).Tabled := by
  have hsound := Record.sound_noted (h.table.records n r hrec) acknowledged pinned hticket
  rw [State.putRecord_eq_setSlot_of_unchanged]
  generalize hr' : { r with acknowledged := acknowledged, pinned := pinned, ticket := ticket } = r' at hsound
  obtain ⟨hself, hslots⟩ := State.slot_of_table (s := s) (n := n) (t := s.setSlot n { s.slot n with record := some r' }) rfl
  exact h.rewritten hrec hslots (by rw [hself]) (by rw [State.record, hself]) hsound (by rw [← hr']) (by rw [← hr']) rfl rfl rfl rfl

end Tabled

/-- What every change keeps together: the map, the settings, the legs, the table and the links. -/
structure State.Kept (s : State) : Prop where
  plant : s.plantSound = true
  settings : s.settingsSound = true
  legs : s.legsSound = true
  tabled : s.Tabled

theorem Event.keeps_tabled (fs : List Field) (s t : State) (hev : Event fs s t)
    (hreads : ¬ ∀ f ∈ [Field.table, .plant, .bands, .waitQueue, .mode], f ∉ fs) (hkept : s.Kept) : t.Tabled := by
  have h := hkept.tabled
  have hin := (Settings.inRange_iff _).mp ((State.settingsSound_iff s).mp hkept.settings).1
  have hmode {t : State} (htouches : s.Touches [.switches, .mode, .lockout] t) (hbusy : t.busy = s.busy) : t.Tabled :=
    h.congr (htouches .table (by decide)) (htouches .plant (by decide)) (htouches .bands (by decide))
      (htouches .waitQueue (by decide)) hbusy
  have htouches := hev.touches
  cases hev with
  | powerOn => exact (State.tabled_iff State.reset).mpr ⟨by decide, by decide, by decide⟩ |>.congr rfl rfl rfl rfl rfl
  | tableAged => exact h.ageTable (by omega)
  | rested _ m hs hm =>
    refine hmode htouches.mono ((State.busy_of_round_none (Mode.round_none_of_resting hm s)).trans ?_)
    exact (State.busy_of_round_none (State.round_of_resting hs rfl)).symm
  | stepped _ r p p' e e' hm =>
    exact hmode htouches.mono (State.busy_of_record (r := r) (r' := r) (by rw [State.round, hm]) rfl rfl)
  | rounded _ r r' hr hrecord =>
    have hnew : (s.withRound r').round = some r' := by
      unfold State.withRound
      split <;> rfl
    exact hmode htouches.mono (State.busy_of_record hr hnew hrecord)
  | visited _ r p e legs hm =>
    obtain ⟨r', hr', -, hrecord⟩ := State.round_nextVisit legs r s
    exact hmode htouches.mono (State.busy_of_record (r := r) (by rw [State.round, hm]) hr' hrecord)
  | legReturned _ r l e guard hm =>
    exact hmode htouches.mono (State.busy_of_record (r := r) (r' := r) (by rw [State.round, hm]) rfl rfl)
  | roundStarted _ hdue => exact h.startRound hdue
  | roundEvaluated _ r hm => exact h.evaluateRound hm
  | roundAborted _ r m hr hm =>
    exact h.aborted hr ⟨rfl, rfl⟩ (htouches .plant (by decide)) (htouches .bands (by decide))
      (State.busy_of_round_none (Mode.round_none_of_resting hm _))
  | holdBegun _ l d o hm =>
    refine hmode htouches.mono ((State.busy_of_round_none rfl).trans (State.busy_of_round_none ?_).symm)
    obtain hrest | ⟨c, k, hm⟩ := hm
    · exact State.round_of_resting hrest rfl
    · rw [State.round, hm]
  | holdEnded _ l d o guard m hm hrest =>
    refine hmode htouches.mono ((State.busy_of_round_none (Mode.round_none_of_resting hrest _)).trans ?_)
    exact (State.busy_of_round_none (by rw [State.round, hm])).symm
  | locked _ guard => exact h.locked guard
  | unlocked _ hlocked =>
    refine hmode htouches.mono ((State.busy_of_round_none rfl).trans (State.busy_of_round_none ?_).symm)
    have hm : s.mode = .locked := ((State.legsSound_iff s).mp hkept.legs).2.mp hlocked
    rw [State.round, hm]
  | activated _ g => exact h.activate g
  | zoned _ l zone => exact h.putZone l zone
  | stationMarked _ l handle f => exact h.updateStation l handle f
  | observed _ o ho => exact h.observe hkept.plant hkept.settings ho
  | bandSet _ b x hx => exact h.setBand hx
  | ingressFed _ n r g excess streak second hrec hr => exact h.feedIngress hrec hr excess streak second
  | ingressOpened _ b excess streak second hbase hnone => exact h.openIngress (by omega) excess streak second hbase hnone
  | listed => exact h.listed
  | noted _ n r acknowledged pinned ticket hrec hticket => exact h.noted hrec acknowledged pinned hticket
  | retired _ n => exact h.retire n
  | merged _ na nb a b ea eb hne ha hb hea heb hleg => exact h.merge hne ha hb hea heb hleg
  | reprobed _ n r g hrec hr hs => exact h.reprobe hrec hr (by obtain hs | hs | hs | hs := hs <;> rw [hs] <;> exact ⟨nofun, nofun⟩)
  | _ => exact absurd (by decide) hreads

theorem Event.keeps_kept (fs : List Field) (s t : State) (hev : Event fs s t) (h : s.Kept) : t.Kept where
  plant := hev.keeps _ State.plantSound_congr Event.keeps_plantSound h.plant
  settings := hev.keeps _ State.settingsSound_congr Event.keeps_settingsSound h.settings
  legs := hev.keeps _ State.legsSound_congr Event.keeps_legsSound h.legs
  tabled := by
    by_cases hreads : ∀ f ∈ [Field.table, .plant, .bands, .waitQueue, .mode], f ∉ fs
    · exact State.tabled_congr s t (fun f hf => hev.touches f (hreads f hf)) h.tabled
    · exact Event.keeps_tabled fs s t hev hreads h

theorem State.kept_congr (s t : State)
    (hsame : ∀ f ∈ [Field.table, .plant, .bands, .waitQueue, .mode, .staging, .settings, .safety, .switches, .lockout], s.sameAt t f)
    (h : s.Kept) : t.Kept where
  plant := State.plantSound_congr s t (fun f hf => hsame f (by revert f; decide)) h.plant
  settings := State.settingsSound_congr s t (fun f hf => hsame f (by revert f; decide)) h.settings
  legs := State.legsSound_congr s t (fun f hf => hsame f (by revert f; decide)) h.legs
  tabled := State.tabled_congr s t (fun f hf => hsame f (by revert f; decide)) h.tabled

theorem State.kept_of_sound {s : State} (h : s.sound = true) : s.Kept := by
  simp only [State.sound, Bool.and_eq_true, and_assoc] at h
  obtain ⟨hlegs, -, hsettings, -, -, -, hplant, hrecords, hlinks, hprobing, -⟩ := h
  exact ⟨hplant, hsettings, hlegs, (State.tabled_iff s).mpr ⟨hrecords, hlinks, hprobing⟩⟩

theorem State.tabled_of_step {s t : State} (hs : s.sound = true) (hstep : step s = .next t) : t.Tabled :=
  (step_keeps [.table, .plant, .bands, .waitQueue, .mode, .staging, .settings, .safety, .switches, .lockout] State.kept_congr
    (fun fs u v hev _ => Event.keeps_kept fs u v hev) (by decide) hstep (State.kept_of_sound hs)).tabled

/-- Settles O59: records and links are sound slot by slot, and every single change keeps the whole table sound. -/
theorem recordsAndLinksStaySound : Obligations.RecordsAndLinksStaySound := by
  unfold Obligations.RecordsAndLinksStaySound
  intro s t hs hstep
  obtain ⟨hrecords, hlinks, -⟩ := (State.tabled_iff t).mp (State.tabled_of_step hs hstep)
  exact ⟨hrecords, hlinks⟩

/-- Settles O60: of the same table, the wait queue, the round and the bands. -/
theorem waitQueueAndRoundStaySound : Obligations.WaitQueueAndRoundStaySound := by
  unfold Obligations.WaitQueueAndRoundStaySound
  intro s t hs hstep
  exact ((State.tabled_iff t).mp (State.tabled_of_step hs hstep)).2.2

end Machine
end Sys2Proof
end

section
/-! Proofs, family 11, nineteenth part: what the evaluation of a round writes (O16). -/

namespace Sys2Proof
namespace Machine

theorem State.eq_of_sameAt {s t : State} (h : ∀ f, s.sameAt t f) : t = s := by
  obtain ⟨⟩ := s
  obtain ⟨⟩ := t
  simp only [State.mk.injEq]
  exact ⟨h .clock, h .table, h .plant, h .staging, h .port, h .queue, h .hold, h .bands, h .mode, h .waitQueue, h .roundNumber,
    h .switches, h .lockout, h .settings, h .safety, h .safetyLock, h .link, h .flags, h .mask, h .resetLine, h .confirmedNow,
    h .pending⟩

/-! ### When the evaluation is due (R68, R134) -/

theorem StepTag.belongsTo_iff (number : Byte) (tag : StepTag) :
    tag.belongsTo number = true ↔ tag = .refDwell number ∨ ∃ l depth, tag = .legDwell l number depth := by
  cases tag with
  | quiet | settle => simp [StepTag.belongsTo]
  | refDwell k => simp [StepTag.belongsTo]
  | legDwell l k depth => simp [StepTag.belongsTo]

theorem State.holdsReportOf_iff (s : State) (number : Byte) :
    s.holdsReportOf number = true ↔
      (∃ x ∈ s.queue, x.stamps.tag.belongsTo number = true) ∨
        ∃ stamps, s.port.pending = some stamps ∧ stamps.tag.belongsTo number = true := by
  rw [State.holdsReportOf, Bool.or_eq_true, List.any_eq_true]
  refine or_congr_right ?_
  cases s.port.pending <;> simp

theorem State.evaluationDue_iff (s : State) :
    s.evaluationDue = true ↔ (∃ r, s.mode = .closing r) ∧ s.holdsReportOf s.roundNumber = false := by
  cases hm : s.mode <;> simp [State.evaluationDue, hm]

/-! ### The evaluation (R134, R137) -/

/-- The evaluation touches the table, the flags, the wait queue, the sequencer and the note of a record just confirmed. -/
theorem State.evaluateRound_frame (s : State) :
    let t := s.evaluateRound
    t = (((((s.withTable t.table).withFlags t.flags).withWaitQueue t.waitQueue).withMode t.mode).withConfirmedNow
      t.confirmedNow) := by
  have htouches := s.touches_evaluateRound
  refine State.eq_of_sameAt fun f => ?_
  cases f with
  | table | flags | waitQueue | mode | confirmedNow => rfl
  | clock => exact htouches .clock (by decide)
  | plant => exact htouches .plant (by decide)
  | staging => exact htouches .staging (by decide)
  | port => exact htouches .port (by decide)
  | queue => exact htouches .queue (by decide)
  | hold => exact htouches .hold (by decide)
  | bands => exact htouches .bands (by decide)
  | roundNumber => exact htouches .roundNumber (by decide)
  | switches => exact htouches .switches (by decide)
  | lockout => exact htouches .lockout (by decide)
  | settings => exact htouches .settings (by decide)
  | safety => exact htouches .safety (by decide)
  | safetyLock => exact htouches .safetyLock (by decide)
  | link => exact htouches .link (by decide)
  | mask => exact htouches .mask (by decide)
  | resetLine => exact htouches .resetLine (by decide)
  | pending => exact htouches .pending (by decide)

/-- Entry into a state raises its flag and does nothing else. -/
theorem State.raiseEntry_eq_withFlags (s : State) (st : RecordState) : s.raiseEntry st = s.withFlags (s.raiseEntry st).flags := by
  cases st <;> rfl

theorem State.startTestIfIdle_eq_withMode (s : State) : s.startTestIfIdle = s.withMode s.startTestIfIdle.mode := by
  rw [State.startTestIfIdle_eq]
  split
  · exact s.startTest_eq_withMode
  · rfl

theorem State.flagSet_startTestIfIdle (s : State) (n : Nat) : s.startTestIfIdle.flagSet n = s.flagSet n := by
  rw [s.startTestIfIdle_eq_withMode]
  rfl

section Evaluated
variable {s : State} {round : Round} {r : Record} {g : IngressPart}

/-- The record, the wait queue and the note after an evaluation, with the flag of the state entered. -/
structure State.Evaluates (s : State) (name : RecordName) (r' : Record) (t : State) : Prop where
  table : t.table = (s.setSlot name.num { gen := (s.slot name.num).gen, changed := true, record := some r' }).table
  unresolved : r'.state = .unresolved → t.flagSet flagUnresolved = true
  confirmed : r'.state = .confirmed → t.flagSet flagConfirmed = true
  joined : r'.state = .probeWait → t.waitQueue =
    insertEntry { name := name, excess := r'.severity, second := s.clock.seconds } s.waitQueue
  kept : r'.state ≠ .probeWait → t.waitQueue = s.waitQueue

variable (hmode : s.mode = .closing round) (hnamed : s.named round.record = some r) (hs : r.state = .probing)
  (hr : r.body = .ingress g)
include hmode hnamed hs hr

theorem State.evaluates_located {l : Leg} (hl : s.judged round g = (.located, some l)) :
    s.Evaluates round.record
      (r.evaluated .confirmed (s.plant.get l).zone.isSome
        { g.judged s.settings.maxAttempts round .located with leg := some l, link := s.strongestEcho l }) s.evaluateRound ∧
      s.evaluateRound.confirmedNow = some round.record := by
  have hrec := State.record_of_named hnamed
  have hname : s.nameOf round.record.num = round.record := (State.name_eq_nameOf (State.gen_of_named hnamed)).symm
  have happlied := State.applyEvaluation_of_located (s := s) hs hr hrec hl
  rw [State.evaluateRound_of_probing hmode hnamed hs hr, happlied, hname, State.enterMode]
  refine ⟨⟨?_, nofun, fun _ => ?_, nofun, fun _ => ?_⟩, ?_⟩
  · rw [State.table_startTestIfIdle]
    rfl
  · rw [State.flagSet_startTestIfIdle]
    exact State.flagSet_raise_self (by decide) (s.setSlot round.record.num _)
  · rw [State.waitQueue_startTestIfIdle]
    rfl
  · rw [State.startTestIfIdle_eq_withMode]
    rfl

theorem State.evaluates_not_located (ho : (s.judged round g).1 ≠ .located) :
    s.Evaluates round.record
      (r.evaluated (outcomeEffect s.settings.maxAttempts (s.judged round g).1 g).1 (if g.leg = none then false else r.frozen)
        (g.judged s.settings.maxAttempts round (s.judged round g).1)) s.evaluateRound ∧
      s.evaluateRound.confirmedNow = s.confirmedNow := by
  have hname : s.nameOf round.record.num = round.record := (State.name_eq_nameOf (State.gen_of_named hnamed)).symm
  have hcases := outcomeEffect_cases s.settings.maxAttempts g ho
  rw [State.evaluateRound_of_probing hmode hnamed hs hr, State.enterMode]
  by_cases hwait : (outcomeEffect s.settings.maxAttempts (s.judged round g).1 g).1 = .probeWait
  · have happlied := State.applyEvaluation_of_probeWait (n := round.record.num) (r := r) hs hwait
    rw [happlied, hwait, hname, State.startTestIfIdle_eq_withMode (State.withWaitQueue _ _)]
    refine ⟨⟨?_, nofun, nofun, fun _ => ?_, fun hne => absurd rfl hne⟩, ?_⟩
    · rw [State.table_startTestIfIdle]
      rfl
    · rw [State.waitQueue_startTestIfIdle]
      rfl
    · rw [State.startTestIfIdle_eq_withMode]
      rfl
  · have happlied := State.applyEvaluation_of_settled (n := round.record.num) (r := r) hs ho hwait
    dsimp only at happlied
    rw [happlied]
    generalize hst : (outcomeEffect s.settings.maxAttempts (s.judged round g).1 g).1 = st at hcases hwait
    refine ⟨⟨?_, fun hs' => ?_, fun hs' => ?_, fun hs' => absurd hs' hwait, fun _ => ?_⟩, ?_⟩
    · rw [State.table_startTestIfIdle, State.raiseEntry_eq_withFlags]
      rfl
    · obtain rfl : st = .unresolved := hs'
      rw [State.flagSet_startTestIfIdle]
      exact State.flagSet_raise_self (by decide) (s.setSlot round.record.num _)
    · obtain rfl : st = .confirmed := hs'
      exact absurd hcases (by simp)
    · rw [State.waitQueue_startTestIfIdle, State.raiseEntry_eq_withFlags]
      rfl
    · rw [State.startTestIfIdle_eq_withMode, State.raiseEntry_eq_withFlags]
      rfl

end Evaluated

/-- Settles O16: the outcome decides the state, and PROBING has nothing that R5 takes away. -/
theorem evaluationUpdatesTheRecord : Obligations.EvaluationUpdatesTheRecord := by
  unfold Obligations.EvaluationUpdatesTheRecord
  refine ⟨fun s number => ?_, State.evaluationDue_iff, ?_⟩
  · simp only [State.holdsReportOf_iff, StepTag.belongsTo_iff]
  intro s round r g hmode hdue hnamed hs hr n o attempts
  have hrec := State.record_of_named hnamed
  have hexec : exec .roundEvaluation s = .next s.evaluateRound := congrArg Host.Outcome.next (if_pos hdue)
  have hentered : s.evaluateRound = (s.evaluateRound.withMode .idle).startTest := by
    rw [State.evaluateRound_of_probing hmode hnamed hs hr, State.enterMode_idle]
    exact State.startTest_idle_eq _
  by_cases ho : o.1 = .located
  · obtain ⟨l, hl⟩ := Round.judge_located ho
    have ho' : o = (.located, some l) := hl
    obtain ⟨htable, hunresolved, hconfirmed, hjoined, hkept⟩ := (State.evaluates_located hmode hnamed hs hr hl).1
    have hnow := (State.evaluates_located hmode hnamed hs hr hl).2
    obtain ⟨hself, hslots⟩ := State.slot_of_table htable
    refine ⟨_, _, { g.judged s.settings.maxAttempts round .located with leg := some l, link := s.strongestEcho l }, hexec, hentered,
      s.evaluateRound_frame, hnow.trans (if_pos ho).symm, hslots, by rw [hself], by rw [hself],
      by rw [State.record, hself], rfl, rfl, rfl, by rw [ho]; rfl, ?_⟩
    rw [ho']
    refine ⟨nofun, fun h => ?_, fun _ => ⟨rfl, rfl, rfl, rfl, fun k hk => ?_⟩, fun hne => absurd rfl hne, hunresolved, hconfirmed,
      hjoined, hkept⟩
    · exact absurd h (by simp)
    · obtain rfl := Option.some.inj hk
      exact ⟨rfl, rfl⟩
  · obtain ⟨⟨htable, hunresolved, hconfirmed, hjoined, hkept⟩, hnow⟩ := State.evaluates_not_located hmode hnamed hs hr ho
    obtain ⟨hself, hslots⟩ := State.slot_of_table htable
    refine ⟨_, _, g.judged s.settings.maxAttempts round (s.judged round g).1, hexec, hentered, s.evaluateRound_frame,
      hnow.trans (if_neg ho).symm, hslots, by rw [hself], by rw [hself],
      by rw [State.record, hself], rfl, rfl, rfl, rfl, fun hvoid => ?_, fun hopen => ?_, fun h => absurd h ho, fun _ hsound => ?_,
      hunresolved, hconfirmed, hjoined, hkept⟩
    · have hjudged : (s.judged round g).1 = .void := hvoid
      rw [hjudged]
      exact ⟨rfl, rfl, rfl⟩
    · have heffect := outcomeEffect_open s.settings.maxAttempts g (o := (s.judged round g).1) hopen
      refine ⟨?_, ?_, ?_⟩
      · exact congrArg (fun e => e.2.2) heffect
      · exact congrArg (fun e => e.2.1) heffect
      · exact congrArg Prod.fst heffect
    · obtain ⟨g₀, hg₀, hleg, hlink, -⟩ :=
        Record.ingress_of_waiting ((State.recordsSound_iff s).mp hsound _ r hrec) (.inr hs)
      obtain rfl := RecordBody.ingress.inj (hr.symm.trans hg₀)
      exact ⟨hleg, hlink, if_pos hleg⟩

end Machine
end Sys2Proof
end

section
/-! Proofs, family 11, twentieth part: once every due step has been taken, none is due (O3). -/

namespace Sys2Proof
namespace Machine

/-! ### What the due steps touch -/

/-- The fields that the block's own steps move, but for the frame in reception. -/
def Field.moving : List Field :=
  [.clock, .table, .flags, .waitQueue, .mode, .switches, .lockout, .roundNumber, .confirmedNow]

section Touches
variable (s : State)

theorem State.touches_mismatch (l : Leg) : s.Touches Field.moving (s.mismatch l) := by
  unfold State.mismatch
  have hlatched : s.Touches Field.moving (s.latchFault l) := (State.Touches.of_setSwitch s _ _).mono
  refine .ite (hlatched.trans (State.Touches.of_raise _ _).mono) (hlatched.trans ?_)
  exact (((State.Touches.of_withLockout _ _).mono.trans (State.touches_allThrough _ _).mono).trans
    (State.touches_enterLocked _).mono).trans (State.Touches.of_raise _ _).mono

theorem State.touches_settlePassed (l : Leg) : s.Touches Field.moving (s.settlePassed l) := by
  unfold State.settlePassed
  split
  · exact .ite (State.Touches.of_withMode s _).mono (.refl _ s)
  · exact .ite (s.touches_nextVisit _ _).mono (.refl _ s)
  case h_5 => exact s.touches_startTest.mono
  all_goals exact .refl _ s

theorem State.touches_takeSettle (l : Leg) : s.Touches Field.moving (s.takeSettle l) := by
  have hdone : s.Touches Field.moving (s.setSwitch l { s.switch l with settle := none }) :=
    (State.Touches.of_setSwitch s _ _).mono
  exact .ite (.ite (hdone.trans (State.touches_settlePassed _ l)) (hdone.trans (State.touches_mismatch _ l))) (.refl _ s)

theorem State.touches_takeHold : s.Touches Field.moving s.takeHold :=
  .ite (State.SequencerMoved.of_endHold s).touches.mono (.refl _ s)

theorem State.touches_takeDwell : s.Touches Field.moving s.takeDwell := by
  refine .ite ?_ (.refl _ s)
  unfold State.endDwell
  split
  · exact (s.touches_nextVisit _ _).mono
  · exact (s.touches_command _ _ _).mono.trans (State.Touches.of_withMode _ _).mono
  all_goals exact .refl _ s

theorem State.touches_takeEvaluation : s.Touches Field.moving s.takeEvaluation := .ite s.touches_evaluateRound.mono (.refl _ s)

theorem State.touches_takeStart : s.Touches Field.moving s.takeStart := .ite s.touches_startRound.mono (.refl _ s)

theorem State.touches_takeSecond : s.Touches Field.moving s.takeSecond :=
  .ite (s.touches_takeHold.trans (State.Touches.of_withClock _ _).mono) (.refl _ s)

theorem State.touches_takeAging : s.Touches Field.moving s.takeAging :=
  .ite ((State.Touches.of_withClock s _).mono.trans (State.touches_ageTable _).mono) (.refl _ s)

theorem State.touches_takeWindow : s.Touches Field.moving s.takeWindow :=
  .ite (((State.Touches.of_withClock s _).mono.trans (State.Touches.of_withSwitches _ _).mono).trans
    (State.touches_startTest _).mono) (.refl _ s)

/-- The steps after FRAME_TIMEOUT and the settle checks. -/
theorem State.touches_rest :
    s.Touches Field.moving
      (s.takeHold.takeDwell.takeEvaluation.takeStart.takeSecond.takeAging.takeWindow.takeHold.takeStart) :=
  s.touches_takeHold |>.trans (State.touches_takeDwell _) |>.trans (State.touches_takeEvaluation _)
    |>.trans (State.touches_takeStart _) |>.trans (State.touches_takeSecond _) |>.trans (State.touches_takeAging _)
    |>.trans (State.touches_takeWindow _) |>.trans (State.touches_takeHold _) |>.trans (State.touches_takeStart _)

theorem State.touches_settled :
    s.Touches Field.moving (((s.takeSettle 0).takeSettle 1).takeSettle 2 |>.takeSettle 3) :=
  s.touches_takeSettle 0 |>.trans (State.touches_takeSettle _ 1) |>.trans (State.touches_takeSettle _ 2)
    |>.trans (State.touches_takeSettle _ 3)

end Touches

/-! ### Settles (R150, R152) -/

/-- No settle has fallen due that was not due before. -/
def State.SettlesFrom (s t : State) : Prop := ∀ k, t.settleDue k = true → s.settleDue k = true

namespace State.SettlesFrom
variable {s t u : State}

theorem refl (s : State) : s.SettlesFrom s := fun _ => id

theorem trans (hst : s.SettlesFrom t) (htu : t.SettlesFrom u) : s.SettlesFrom u := fun k hk => hst k (htu k hk)

theorem ite {c : Prop} [Decidable c] (ht : s.SettlesFrom t) (hu : s.SettlesFrom u) : s.SettlesFrom (if c then t else u) := by
  split
  · exact ht
  · exact hu

theorem of_switches (h : t.switches = s.switches) : s.SettlesFrom t := fun k hk => by
  rwa [State.settleDue, State.switch, h] at hk

theorem of_raise (s : State) (n : Nat) : s.SettlesFrom (s.raise n) := of_switches rfl

theorem of_touches {fs : List Field} (h : s.Touches fs t) (hfs : .switches ∉ fs) : s.SettlesFrom t :=
  of_switches (h .switches hfs)

theorem of_setSwitch (l : Leg) {x : LegSwitch} (hx : x.settle = some 0 → (s.switch l).settle = some 0) :
    s.SettlesFrom (s.setSwitch l x) := by
  intro k hk
  simp only [State.settleDue, beq_iff_eq] at hk ⊢
  by_cases hkl : k = l
  · subst hkl
    rw [s.switch_setSwitch_self] at hk
    exact hx hk
  · rwa [s.switch_setSwitch_ne _ hkl] at hk

theorem of_command (s : State) (l : Leg) (p : SwitchState) {guard : Nat} (h : guard ≠ 0) : s.SettlesFrom (s.command l p guard) := by
  obtain hc | ⟨-, -, hc⟩ := s.command_cases l p guard
  · rw [hc]
    exact refl s
  · rw [hc]
    exact of_setSwitch l fun heq => absurd (Option.some.inj heq) h

theorem of_allThrough (s : State) {guard : Nat} (h : guard ≠ 0) : s.SettlesFrom (s.allThrough guard) := by
  unfold State.allThrough
  generalize allLegs = legs
  induction legs generalizing s with
  | nil => exact refl s
  | cons l legs ih => exact (of_command s l _ h).trans (ih _)

theorem of_nextVisit (legs : List Leg) (r : Round) (s : State) : s.SettlesFrom (s.nextVisit r legs) := by
  induction legs generalizing r with
  | nil => exact of_switches rfl
  | cons l legs ih =>
    unfold State.nextVisit
    split
    · refine ite (ih _) ?_
      refine (of_setSwitch l (s := s) (x := { s.switch l with charge := (s.switch l).charge + r.snap.visitCost }) id).trans ?_
      exact (of_command (s.charge l r.snap.visitCost) l _ (Nat.succ_ne_zero _)).trans (of_switches rfl)
    all_goals exact ih _

theorem of_aborted (s : State) (r : Round) : s.SettlesFrom (s.aborted r) := by
  refine trans (t := s.abortCommand) ?_ (of_switches (State.switches_requeue _ _))
  unfold State.abortCommand
  split
  · exact of_command s _ _ (Nat.succ_ne_zero _)
  · exact of_command s _ _ (Nat.succ_ne_zero _)
  all_goals exact refl s

theorem lockoutGuard_ne_zero (s : State) : s.lockoutGuard ≠ 0 := by
  unfold State.lockoutGuard
  split <;> exact Nat.succ_ne_zero _

theorem of_enterLocked (s : State) : s.SettlesFrom s.enterLocked := by
  unfold State.enterLocked
  split
  · exact (of_aborted s _).trans (of_switches rfl)
  · exact of_switches rfl

theorem of_mismatch (s : State) (l : Leg) : s.SettlesFrom (s.mismatch l) := by
  have hlatched : s.SettlesFrom (s.latchFault l) := of_setSwitch l id
  refine hlatched.trans ?_
  have hguard := lockoutGuard_ne_zero s
  unfold State.mismatch
  dsimp only
  generalize State.lockoutGuard _ = guard at hguard ⊢
  generalize s.latchFault l = u
  have hthrough : u.SettlesFrom ((u.withLockout true).allThrough guard) :=
    (of_switches (t := u.withLockout true) rfl).trans (of_allThrough _ hguard)
  split
  · exact of_raise u _
  · exact (hthrough.trans (of_enterLocked _)).trans (of_raise _ _)

theorem of_settlePassed (s : State) (l : Leg) : s.SettlesFrom (s.settlePassed l) := by
  unfold State.settlePassed
  split
  · exact ite (of_switches rfl) (refl s)
  · exact ite (of_nextVisit _ _ s) (refl s)
  case h_5 => exact of_switches s.switches_startTest
  all_goals exact refl s

/-- After a leg's settle has been checked it is due no more, and no other one is by that. -/
theorem of_takeSettle (s : State) (l : Leg) : s.SettlesFrom (s.takeSettle l) ∧ (s.takeSettle l).settleDue l = false := by
  by_cases hdue : s.settleDue l = true
  · have hdone : s.SettlesFrom (s.setSwitch l { s.switch l with settle := none }) := of_setSwitch l nofun
    have hself : (s.setSwitch l { s.switch l with settle := none }).settleDue l = false := by
      rw [State.settleDue, s.switch_setSwitch_self]
      rfl
    have hchecked : (s.setSwitch l { s.switch l with settle := none }).SettlesFrom (s.checkSettle l) :=
      ite (of_settlePassed _ l) (of_mismatch _ l)
    rw [State.takeSettle, if_pos hdue]
    exact ⟨hdone.trans hchecked, Bool.eq_false_iff.mpr fun h => absurd ((hchecked l h).symm.trans hself) nofun⟩
  · rw [State.takeSettle, if_neg hdue]
    exact ⟨refl s, Bool.eq_false_iff.mpr hdue⟩

theorem of_takeHold (s : State) : s.SettlesFrom s.takeHold := by
  refine ite ?_ (refl s)
  unfold State.endHold
  split
  · exact (of_command s _ _ (Nat.succ_ne_zero _)).trans (of_switches (State.switches_startTestIfIdle _))
  all_goals exact refl s

theorem of_takeDwell (s : State) : s.SettlesFrom s.takeDwell := by
  refine ite ?_ (refl s)
  unfold State.endDwell
  split
  · exact of_nextVisit _ _ s
  · exact (of_command s _ _ (Nat.succ_ne_zero _)).trans (of_switches rfl)
  all_goals exact refl s

theorem of_takeWindow (s : State) : s.SettlesFrom s.takeWindow := by
  refine ite (fun k hk => ?_) (refl s)
  rw [State.settleDue, State.window, State.switch, State.switches_startTest] at hk
  simpa [State.settleDue, State.switch] using hk

theorem of_rest (s : State) :
    s.SettlesFrom (s.takeHold.takeDwell.takeEvaluation.takeStart.takeSecond.takeAging.takeWindow.takeHold.takeStart) := by
  have hstart (u : State) : u.SettlesFrom u.takeStart := ite (of_touches u.touches_startRound (by decide)) (refl u)
  have hevaluation (u : State) : u.SettlesFrom u.takeEvaluation := ite (of_touches u.touches_evaluateRound (by decide)) (refl u)
  have hsecond (u : State) : u.SettlesFrom u.takeSecond := ite ((of_takeHold u).trans (of_switches rfl)) (refl u)
  have haging (u : State) : u.SettlesFrom u.takeAging :=
    ite (of_touches ((State.Touches.of_withClock u _).mono.trans (State.touches_ageTable _).mono : u.Touches [.clock, .table, .flags]
      u.aging) (by decide)) (refl u)
  exact of_takeHold s |>.trans (of_takeDwell _) |>.trans (hevaluation _) |>.trans (hstart _) |>.trans (hsecond _)
    |>.trans (haging _) |>.trans (of_takeWindow _) |>.trans (of_takeHold _) |>.trans (hstart _)

/-- After the checks of all four legs none is due. -/
theorem none_due (s : State) (l : Leg) : (((s.takeSettle 0).takeSettle 1).takeSettle 2 |>.takeSettle 3).settleDue l = false := by
  have hkept {u : State} {k : Leg} (h : u.settleDue k = false) (m : Leg) : (u.takeSettle m).settleDue k = false :=
    Bool.eq_false_iff.mpr fun hk => absurd (((of_takeSettle u m).1 k hk).symm.trans h) nofun
  have hself (u : State) (k : Leg) : (u.takeSettle k).settleDue k = false := (of_takeSettle u k).2
  match l with
  | 0 => exact hkept (hkept (hkept (hself s 0) 1) 2) 3
  | 1 => exact hkept (hkept (hself _ 1) 2) 3
  | 2 => exact hkept (hself _ 2) 3
  | 3 => exact hself _ 3

end State.SettlesFrom

end Machine
end Sys2Proof
end

section
/-! Proofs, family 11, twenty-first part: the sequencer's steps once they are taken, and what every command finds (O3). -/

namespace Sys2Proof
namespace Machine

/-! ### The dwell and the evaluation (R130, R134) -/

/-- Neither the end of a dwell nor an evaluation is due. -/
def State.Resting (s : State) : Prop := s.dwellDue = false ∧ s.evaluationDue = false

section Resting
variable {s t : State}

theorem State.resting_of_round_none (h : s.round = none) : s.Resting := by
  cases hm : s.mode with
  | active | closing => simp [State.round, hm] at h
  | idle | waitBudget | paused | manual | locked => simp [State.Resting, State.dwellDue, State.evaluationDue, hm]

theorem State.dwellDue_of_mode (h : t.mode = s.mode) : t.dwellDue = s.dwellDue := by rw [State.dwellDue, State.dwellDue, h]

theorem State.Resting.congr {fs : List Field} (h : s.Resting) (htouches : s.Touches fs t)
    (hfs : .mode ∉ fs ∧ .queue ∉ fs ∧ .port ∉ fs ∧ .roundNumber ∉ fs) : t.Resting := by
  have hmode : t.mode = s.mode := htouches .mode hfs.1
  have hqueue : t.queue = s.queue := htouches .queue hfs.2.1
  have hport : t.port = s.port := htouches .port hfs.2.2.1
  have hnumber : t.roundNumber = s.roundNumber := htouches .roundNumber hfs.2.2.2
  refine ⟨(State.dwellDue_of_mode hmode).trans h.1, ?_⟩
  rw [State.evaluationDue, hmode, State.holdsReportOf, hqueue, hport, hnumber]
  exact h.2

theorem State.Resting.startTest (h : s.Resting) : s.startTest.Resting := by
  by_cases hmode : s.startTest.mode = s.mode
  · rw [s.startTest_eq_withMode, hmode]
    exact h
  · refine State.resting_of_round_none ?_
    obtain hsame | ⟨-, hidle | hwait⟩ := s.alike_startTest
    · exact absurd hsame hmode
    · rw [State.round, hidle]
    · rw [State.round, hwait]

theorem State.dwellDue_nextVisit (legs : List Leg) (r : Round) (s : State) : (s.nextVisit r legs).dwellDue = false := by
  induction legs generalizing r with
  | nil => rfl
  | cons l legs ih =>
    unfold State.nextVisit
    split
    · split
      · exact ih _
      · rfl
    all_goals exact ih _

theorem State.dwellDue_takeDwell (s : State) : s.takeDwell.dwellDue = false := by
  by_cases hdue : s.dwellDue = true
  · rw [State.takeDwell, if_pos hdue]
    unfold State.endDwell
    split
    · exact State.dwellDue_nextVisit _ _ s
    · rfl
    all_goals
      rename_i hm
      simp [State.dwellDue, hm] at hdue
  · rw [State.takeDwell, if_neg hdue]
    exact Bool.eq_false_iff.mpr hdue

theorem State.round_evaluateRound {r : Round} (h : s.mode = .closing r) : s.evaluateRound.round = none := by
  simp only [State.evaluateRound, h]
  exact (State.round_of_alike (State.alike_startTestIfIdle _)).trans rfl

theorem State.resting_takeEvaluation (h : s.dwellDue = false) : s.takeEvaluation.Resting := by
  by_cases hdue : s.evaluationDue = true
  · obtain ⟨⟨r, hr⟩, -⟩ := s.evaluationDue_iff.mp hdue
    rw [State.takeEvaluation, if_pos hdue]
    exact State.resting_of_round_none (State.round_evaluateRound hr)
  · rw [State.takeEvaluation, if_neg hdue]
    exact ⟨h, Bool.eq_false_iff.mpr hdue⟩

/-- A dwell of a round with its values in range lasts at least one millisecond. -/
theorem Snapshot.dwellLength_pos {c : Snapshot} (h : c.inRange = true) : 0 < c.dwellLength := by
  obtain ⟨-, -, -, -, -, -, -, -, -, hdepth⟩ := (Snapshot.inRange_iff c).mp h
  unfold Snapshot.dwellLength
  obtain ⟨-, hnone⟩ | ⟨-, most, hmost, hlow, -⟩ := hdepth
  · simp only [hnone]
    omega
  · simp only [hmost]
    omega

theorem State.Resting.takeStart (h : s.Resting) (hset : s.settingsSound = true) : s.takeStart.Resting := by
  by_cases hdue : s.roundStartDue = true
  · obtain ⟨hsettings, hsafety, -⟩ := (State.settingsSound_iff s).mp hset
    have hpos := Snapshot.dwellLength_pos (State.snapshotNow_inRange hsettings hsafety)
    rw [State.takeStart, if_pos hdue]
    unfold State.startRound
    split
    · exact h
    · exact ⟨decide_eq_false (Nat.not_le.mpr hpos), rfl⟩
  · rwa [State.takeStart, if_neg hdue]

theorem State.roundStartDue_takeStart (s : State) : s.takeStart.roundStartDue = false := by
  by_cases hdue : s.roundStartDue = true
  · rw [State.takeStart, if_pos hdue]
    unfold State.startRound
    split
    · rename_i hnil
      exact absurd hnil (State.waitQueue_ne_nil_of_pass (State.roundStartDue_iff.mp hdue).2)
    · rfl
  · rw [State.takeStart, if_neg hdue]
    exact Bool.eq_false_iff.mpr hdue

theorem State.Resting.takeHold (h : s.Resting) : s.takeHold.Resting := by
  by_cases hdue : s.holdExhausted = true
  · obtain ⟨l, d, o, hm, -⟩ := s.holdExhausted_iff.mp hdue
    rw [State.takeHold, if_pos hdue, State.endHold_of_manual hm]
    refine State.resting_of_round_none ((State.round_of_alike (State.alike_startTestIfIdle _)).trans ?_)
    exact Mode.round_none_of_resting (Origin.mode_resting o) _
  · rwa [State.takeHold, if_neg hdue]

theorem State.Resting.takeSecond (h : s.Resting) : s.takeSecond.Resting := by
  unfold State.takeSecond
  split
  · exact h.takeHold.congr (State.Touches.of_withClock _ _) (by decide)
  · exact h

theorem State.Resting.takeAging (h : s.Resting) : s.takeAging.Resting := by
  unfold State.takeAging
  split
  · have htouches : s.Touches [.clock, .table, .flags] s.aging :=
      (State.Touches.of_withClock s _).mono.trans (State.touches_ageTable _).mono
    exact h.congr htouches (by decide)
  · exact h

theorem State.Resting.takeWindow (h : s.Resting) : s.takeWindow.Resting := by
  unfold State.takeWindow
  split
  · have htouches : s.Touches [.clock, .switches] ((s.withClock { s.clock with windowCount := 0 }).withSwitches
        (PerLeg.ofFn fun l => { s.switch l with charge := s.chargeAfterWindow l })) :=
      (State.Touches.of_withClock s _).mono.trans (State.Touches.of_withSwitches _ _).mono
    exact (h.congr htouches (by decide)).startTest
  · exact h

end Resting

/-! ### Nothing is due (O3) -/

section CaughtUp
variable {s : State}

theorem State.Leads.settingsSound {t : State} (h : s.Leads t) (hset : s.settingsSound = true) : t.settingsSound = true :=
  h.keeps (P := fun t => t.settingsSound = true)
    (fun _ _ _ hev hu => hev.keeps _ State.settingsSound_congr Event.keeps_settingsSound hu) hset

theorem State.timeoutDue_takeTimeout (s : State) : s.takeTimeout.timeoutDue = false := by
  by_cases hdue : s.timeoutDue = true
  · rw [State.takeTimeout, if_pos hdue]
    simp only [State.timeoutDue, State.dropFrame]
    cases s.link.phase <;> rfl
  · rw [State.takeTimeout, if_neg hdue]
    exact Bool.eq_false_iff.mpr hdue

theorem State.caughtUp_eq (s : State) :
    ∃ t u : State, t = (((s.takeTimeout.takeSettle 0).takeSettle 1).takeSettle 2).takeSettle 3 ∧
      u = t.takeHold.takeDwell.takeEvaluation.takeStart.takeSecond.takeAging.takeWindow.takeHold ∧
      s.caughtUp = u.takeStart := ⟨_, _, rfl, rfl, rfl⟩

theorem State.touches_caughtUp (s : State) : s.Touches (.link :: Field.moving) s.caughtUp :=
  ((State.Touches.ite (State.Touches.of_withLink s _).mono (.refl _ s)).trans
    (State.touches_settled s.takeTimeout).mono).trans (State.touches_rest _).mono

theorem State.timeoutDue_caughtUp (s : State) : s.caughtUp.timeoutDue = false := by
  have htouches : s.takeTimeout.Touches Field.moving s.caughtUp :=
    (State.touches_settled s.takeTimeout).trans (State.touches_rest _)
  have hlink : s.caughtUp.link = s.takeTimeout.link := htouches .link (by decide)
  rw [State.timeoutDue, hlink]
  exact s.timeoutDue_takeTimeout

theorem State.settleDue_caughtUp (s : State) (l : Leg) : s.caughtUp.settleDue l = false :=
  Bool.eq_false_iff.mpr fun h => absurd ((State.SettlesFrom.of_rest _ l h).symm.trans (State.SettlesFrom.none_due s.takeTimeout l)) nofun

theorem State.resting_caughtUp (hset : s.settingsSound = true) : s.caughtUp.Resting := by
  obtain ⟨t, u, ht, hu, hcaught⟩ := s.caughtUp_eq
  have hleads : s.Leads t := by
    rw [ht]
    exact s.leads_takeTimeout |>.trans (State.leads_takeSettle _ 0) |>.trans (State.leads_takeSettle _ 1)
      |>.trans (State.leads_takeSettle _ 2) |>.trans (State.leads_takeSettle _ 3)
  have hevaluated := hleads |>.trans t.leads_takeHold |>.trans (State.leads_takeDwell _) |>.trans (State.leads_takeEvaluation _)
  have hstarted := (State.resting_takeEvaluation t.takeHold.dwellDue_takeDwell).takeStart (hevaluated.settingsSound hset)
  have hleads' : s.Leads u := by
    rw [hu]
    exact hevaluated |>.trans (State.leads_takeStart _) |>.trans (State.leads_takeSecond _) |>.trans (State.leads_takeAging _)
      |>.trans (State.leads_takeWindow _) |>.trans (State.leads_takeHold _)
  have hresting : u.Resting := by
    rw [hu]
    exact hstarted.takeSecond.takeAging.takeWindow.takeHold
  rw [hcaught]
  exact hresting.takeStart (hleads'.settingsSound hset)

theorem State.nothingDue_caughtUp (hset : s.settingsSound = true) : s.caughtUp.nothingDue = true := by
  obtain ⟨hsecond, haging, hwindow, hhold⟩ := s.atTick_caughtUp
  obtain ⟨hdwell, hevaluation⟩ := State.resting_caughtUp hset
  have hstart : s.caughtUp.roundStartDue = false := by
    obtain ⟨t, u, -, -, hcaught⟩ := s.caughtUp_eq
    rw [hcaught]
    exact u.roundStartDue_takeStart
  have hwindow : s.caughtUp.windowDue = false := by
    obtain ⟨-, hsafety, -⟩ := (State.settingsSound_iff _).mp (s.leads_caughtUp.settingsSound hset)
    have hbudget := ((Safety.inRange_iff _).mp hsafety).1
    refine Bool.eq_false_iff.mpr fun hdue => ?_
    have hzero := hwindow hdue
    have hlimit : s.caughtUp.safety.budgetWindow ≤ s.caughtUp.clock.windowCount := of_decide_eq_true hdue
    omega
  have hhold : s.caughtUp.holdExhausted = false := by
    refine Bool.eq_false_iff.mpr fun hdue => ?_
    obtain ⟨l, d, o, hm, hcharge, -⟩ := s.caughtUp.holdExhausted_iff.mp hdue
    exact absurd hcharge (Nat.not_le.mpr (hhold l d o hm))
  simp only [State.nothingDue, s.timeoutDue_caughtUp, s.settleDue_caughtUp, hhold, hdwell, hevaluation, hstart, hsecond, haging,
    hwindow, Bool.not_false, Bool.and_true]
  rfl

end CaughtUp

/-! ### What every command finds (O3) -/

/-- A request is served in the state with every due step taken. -/
theorem exec_eq_serve {i : Instr} (h : (requestBody i).isSome = true) (s : State) : exec i s = .next (s.caughtUp.serve i) := by
  cases i with
  | powerOnReset | lineReset | resetRelease | millisecondTick | secondTick | agingTick | windowStart | settleExpiry | dwellExpiry
  | holdExhausted | reportArrival | dispatch | roundStart | roundEvaluation | alignRun | alignIdleElapsed | alignComplete
  | lineBreak | framingError | frameTimeout | frameDiscard | replySent | receivedByte | selectAssertion | reportBitReceived =>
    exact absurd h nofun
  | _ => rfl

theorem isOwnStep_settleExpiry (l : Leg) : isOwnStep (.settleExpiry l) = true := by
  revert l
  decide

theorem exec_caughtUp {s : State} (hsame : s.caughtUp.caughtUp = s.caughtUp) {i : Instr} (hi : isOwnStep i = false) :
    exec i s = exec i s.caughtUp := by
  by_cases hbody : (requestBody i).isSome = true
  · rw [exec_eq_serve hbody, exec_eq_serve hbody, hsame]
  have hreset : s.caughtUp.resetLine = s.resetLine := s.touches_caughtUp .resetLine (by decide)
  cases i with
  | powerOnReset => simp only [exec, execPowerOnReset, hreset, s.leads_caughtUp.pending_eq]
  | lineReset => simp only [exec, execLineReset, hreset, hsame]
  | resetRelease => simp only [exec, execResetRelease, hsame]
  | millisecondTick => simp only [exec, execMillisecondTick, hsame]
  | reportArrival => simp only [exec, execReportArrival, hsame]
  | dispatch => simp only [exec, execDispatch, hsame]
  | alignRun =>
    dsimp only [exec]
    unfold execAlignRun
    rw [hsame]
  | alignIdleElapsed =>
    dsimp only [exec]
    unfold execAlignIdleElapsed
    rw [hsame]
  | alignComplete =>
    dsimp only [exec]
    unfold execAlignComplete
    rw [hsame]
  | lineBreak =>
    dsimp only [exec]
    unfold execLineBreak
    rw [hsame]
  | framingError => simp only [exec, execFramingError, hsame]
  | frameDiscard => simp only [exec, execFrameDiscard, hsame]
  | replySent =>
    dsimp only [exec]
    unfold execReplySent
    rw [hsame]
  | receivedByte =>
    dsimp only [exec]
    unfold execReceivedByte
    rw [hsame]
  | selectAssertion => simp only [exec, execSelectAssertion, hsame]
  | reportBitReceived => simp only [exec, execReportBitReceived, hsame]
  | settleExpiry l => exact absurd ((isOwnStep_settleExpiry l).symm.trans hi) nofun
  | secondTick | agingTick | windowStart | dwellExpiry | holdExhausted | roundStart | roundEvaluation | frameTimeout =>
    exact absurd hi (by decide)
  | _ => exact absurd rfl hbody

/-- Settles O3: with the settings in range, each due step taken leaves none due before it. -/
theorem commandsFindEveryDueStepTaken : Obligations.CommandsFindEveryDueStepTaken := by
  unfold Obligations.CommandsFindEveryDueStepTaken
  have hnot {s t : State} {due : Bool} (h : due = false) :
      (.next (if due = true then t else s) : Host.Outcome State Fault Refusal) = .next s := by
    rw [if_neg (Bool.eq_false_iff.mp h)]
  refine ⟨fun s hset => ⟨State.nothingDue_caughtUp hset, fun i hi => ?_⟩, fun s => ⟨hnot, hnot, hnot, fun _ => hnot, hnot, hnot,
    hnot, hnot, hnot⟩⟩
  exact exec_caughtUp (State.caughtUp_of_nothingDue (State.nothingDue_caughtUp hset)) hi

end Machine
end Sys2Proof
end

section
/-! Proofs, family 11, twenty-second part: what a line reset drops and keeps (O6). -/

namespace Sys2Proof
namespace Machine

section Aborted
variable {s : State} {r : Round} {n : SlotNo}

/-- No slot but that of a PROBING record changes when a round is aborted (R140). -/
theorem State.slot_requeue (name : RecordName) (h : ∀ q, s.record n = some q → q.state ≠ .probing) :
    (s.requeue name).slot n = s.slot n := by
  cases hnamed : s.named name with
  | none => rw [State.requeue_of_gone hnamed]
  | some x =>
    by_cases hx : x.state = .probing
    · have hn : n ≠ name.num := by
        rintro rfl
        exact h x (State.record_of_named hnamed) hx
      rw [State.requeue_of_probing hnamed hx, State.slot, State.table_startTestIfIdle]
      exact s.slot_setSlot_ne _ hn
    · rw [State.requeue_of_not_probing hnamed hx]

theorem State.slot_aborted (r : Round) (h : ∀ q, s.record n = some q → q.state ≠ .probing) : (s.aborted r).slot n = s.slot n := by
  rw [State.aborted, s.abortCommand_eq_withSwitches]
  exact State.slot_requeue (s := s.withSwitches s.abortCommand.switches) r.record h

/-- An abort reads no more of the state than the sequencer, the switches, the table, the wait queue and the clock. -/
theorem State.aborted_of_same {u : State} (hround : s.round = some r) (hmode : u.mode = s.mode) (hswitches : u.switches = s.switches)
    (htable : u.table = s.table) (hqueue : u.waitQueue = s.waitQueue) (hclock : u.clock = s.clock) :
    s.legReturns r (u.aborted r) ∧ s.recordReturns r (u.aborted r) ∧
      ∀ n, (∀ q, s.record n = some q → q.state ≠ .probing) → (u.aborted r).slot n = s.slot n := by
  have hround' : u.round = some r := by rw [State.round, hmode]; exact hround
  have hlegs := State.legReturns_aborted hround'
  have hreturns := u.recordReturns_aborted r
  have hslots (n : SlotNo) := State.slot_aborted (s := u) (n := n) r
  have hnamed : u.named = s.named := by
    funext name
    rw [State.named, State.named, State.record, State.record, State.slot, State.slot, htable]
  have hset (n : SlotNo) (y : Slot) : (u.setSlot n y).table = (s.setSlot n y).table := by
    rw [State.setSlot, State.setSlot, State.withTable_table, State.withTable_table, htable]
  simp only [State.legReturns, State.switch, hmode, hswitches] at hlegs
  simp only [State.recordReturns, hnamed, htable, hqueue, hclock, hset] at hreturns
  simp only [State.record, State.slot, htable] at hslots
  exact ⟨hlegs, hreturns, hslots⟩

end Aborted

/-- A block without a reply in progress, its link in ALIGN, sends nothing (R194). -/
theorem State.transmitLine_of_initial {s : State} (h : s.link = Link.initial) (k : Nat) : s.transmitLine k = true := by
  simp [State.transmitLine, State.sending, h, Link.initial]

/-- The fields that a line reset drops, the sequencer left aside. -/
def State.dropped (s : State) : State :=
  (((((s.withResetLine true).withPort Port.initial).withQueue []).withHold false).withStaging none).withLink Link.initial

theorem exec_lineReset_of_high {s : State} (h : s.nothingDue = true) (hline : s.resetLine = false) :
    exec .lineReset s = .next s.dropped.resetSequencer := by
  have hexec : exec .lineReset s = .next ((s.caughtUp.withResetLine true).lineReset) := by
    simp only [exec, execLineReset, hline]
    rfl
  rw [hexec, State.caughtUp_of_nothingDue h]
  rfl

/-- A line reset in a round aborts it, on top of what it drops. -/
theorem State.resetSequencer_of_round {s u : State} {x : Round} (hround : u.round = some x) (hu : u = s.dropped) :
    let t := u.resetSequencer
    t = (t.withMode .idle).startTest ∧
      t = (((u.withTable t.table).withSwitches t.switches).withWaitQueue t.waitQueue).withMode t.mode ∧
      s.legReturns x t ∧ s.recordReturns x t ∧ ∀ n, (∀ r, s.record n = some r → r.state ≠ .probing) → t.slot n = s.slot n := by
  have haborted : u.resetSequencer = (u.aborted x).enterMode .idle := by
    rw [← State.abortRound_of_round hround .idle]
    obtain ⟨p, e, hm⟩ | hm := State.round_eq_some_iff.mp hround
    · simp only [State.resetSequencer, hm]
    · simp only [State.resetSequencer, hm]
  have hmoved : u.SequencerMoved ((u.aborted x).enterMode .idle) :=
    (State.SequencerMoved.of_aborted u x).trans (.of_enterMode _ _)
  have hidle (v : State) : v.enterMode .idle = ((v.enterMode .idle).withMode .idle).startTest := by
    rw [State.enterMode_idle]
    exact State.startTest_idle_eq v
  have hmode : u.mode = s.mode := by rw [hu]; rfl
  have hround' : s.round = some x := by rw [State.round, ← hmode]; exact hround
  obtain ⟨hlegs, hreturns, hslots⟩ := State.aborted_of_same (s := s) (u := u) hround' hmode (by rw [hu]; rfl) (by rw [hu]; rfl)
    (by rw [hu]; rfl) (by rw [hu]; rfl)
  dsimp only
  rw [haborted]
  refine ⟨hidle _, hmoved.frame, hlegs.congr (State.switches_startTestIfIdle _),
    hreturns.congr (State.table_enterMode _ _) (State.waitQueue_enterMode _ _), fun n hn => ?_⟩
  rw [State.slot, State.table_enterMode]
  exact hslots n hn

/-- Settles O6: a line reset drops what stands before the sequencer, which then leaves its round or its hold. -/
theorem lineResetDropsAndKeeps : Obligations.LineResetDropsAndKeeps := by
  unfold Obligations.LineResetDropsAndKeeps
  intro s hdue
  have hcaught := State.caughtUp_of_nothingDue hdue
  refine ⟨fun hline => ?again, ?release, fun hline => ?first⟩
  case again => simp only [exec, execLineReset, hline, if_true, hcaught]
  case release => simp only [exec, execResetRelease, hcaught]
  intro dropped
  have hexec : exec .lineReset s = .next dropped.resetSequencer := exec_lineReset_of_high hdue hline
  have hmode : dropped.mode = s.mode := rfl
  refine ⟨fun k => State.transmitLine_of_initial rfl k, fun hm => ?kept, fun hm => ?waiting, fun l d o hm hout => ?held, fun x hx => ?round⟩
  case kept =>
    rw [hexec]
    obtain hm | hm | hm := hm <;> simp only [State.resetSequencer, hmode, hm]
  case waiting =>
    rw [hexec]
    simp only [State.resetSequencer, hmode, hm]
    rfl
  case held =>
    have hheld : dropped.resetSequencer = (dropped.command l .through s.guardNow).enterMode .idle := by
      simp only [State.resetSequencer, hmode, hm]
      rfl
    rw [hexec, hheld, State.command_through_of_out s.guardNow (s := dropped) hout]
    rfl
  case round => exact ⟨_, hexec, State.resetSequencer_of_round (s := s) (u := dropped) hx rfl⟩

end Machine
end Sys2Proof
end

section
/-! Proofs, family 11, twenty-third part: the start test by its rows, the second tick and the window start (O7, O13). -/

namespace Sys2Proof
namespace Machine

/-! ### The start test (R125, R126, R129) -/

section StartTest
variable {s : State}

theorem State.visitCost_snapshotNow (s : State) :
    s.snapshotNow.visitCost = s.settings.guard + 1 +
      (if s.settings.probeDepth = .isolate ∧ s.safety.isolatePermitted = true then
        min (s.settings.dwell + 1) s.safety.maxIsolateDwell else s.settings.dwell + 1) := by
  by_cases hisolate : s.settings.probeDepth = .isolate ∧ s.safety.isolatePermitted = true
  · simp only [Snapshot.visitCost, Snapshot.guardLength, Snapshot.dwellLength, State.snapshotNow, if_pos hisolate]
  · simp only [Snapshot.visitCost, Snapshot.guardLength, Snapshot.dwellLength, State.snapshotNow, if_neg hisolate]

theorem State.eligible_iff {l : Leg} :
    s.eligible l = true ↔ (s.plant.get l).zone = none ∧ s.snapshotNow.visitCost ≤ s.allowance l := by
  rw [State.eligible, Bool.and_eq_true, Option.isNone_iff_eq_none, decide_eq_true_iff]

theorem State.shortOfAllowance_iff {l : Leg} :
    s.shortOfAllowance l = true ↔
      s.eligible l = true ∧ s.allowance l < (s.switch l).charge + s.snapshotNow.visitCost := by
  rw [State.shortOfAllowance, Bool.and_eq_true, decide_eq_true_iff]

theorem State.startOutcome_settlePending (hq : s.waitQueue ≠ []) (hsettle : s.anySettle = true) :
    s.startOutcome = .settlePending := by
  rw [State.startOutcome, if_neg hq, if_pos hsettle]

section Settled
variable (hq : s.waitQueue ≠ []) (hsettle : s.anySettle = false)
include hq hsettle

theorem State.startOutcome_noLeg (hnone : ∀ l, s.eligible l = false) : s.startOutcome = .noLeg := by
  rw [State.startOutcome, if_neg hq, if_neg (by rw [hsettle]; exact nofun), if_pos]
  simp only [all_allLegs, hnone, Bool.not_false, implies_true]

theorem State.startOutcome_short {l : Leg} (hl : s.shortOfAllowance l = true) : s.startOutcome = .short := by
  have heligible := (State.shortOfAllowance_iff.mp hl).1
  rw [State.startOutcome, if_neg hq, if_neg (by rw [hsettle]; exact nofun), if_neg, if_pos]
  · exact List.any_eq_true.mpr ⟨l, mem_allLegs l, hl⟩
  · rw [all_allLegs]
    exact fun hall => absurd (hall l) (by rw [heligible]; exact nofun)

theorem State.startOutcome_pass {l : Leg} (hl : s.eligible l = true) (hall : ∀ k, s.shortOfAllowance k = false) :
    s.startOutcome = .pass := by
  rw [State.startOutcome, if_neg hq, if_neg (by rw [hsettle]; exact nofun), if_neg, if_neg]
  · rw [List.any_eq_true]
    rintro ⟨k, -, hk⟩
    exact absurd (hk.symm.trans (hall k)) nofun
  · rw [all_allLegs]
    exact fun hnone => absurd (hnone l) (by rw [hl]; exact nofun)

end Settled

/-- A start test that passes leaves IDLE, with the start of a round due (log entry 2). -/
theorem State.startTest_of_pass (hmode : s.mode = .idle ∨ s.mode = .waitBudget) (hpass : s.startOutcome = .pass) :
    s.startTest = s.withMode .idle ∧ s.startTest.roundStartDue = true := by
  have htest : s.startTest = s.withMode .idle := by rw [State.startTest_of_waiting hmode, hpass]; rfl
  rw [htest]
  exact ⟨rfl, State.roundStartDue_iff.mpr ⟨rfl, hpass⟩⟩

end StartTest

/-- Settles O13: the rows of the start test, each after those before it have failed. -/
theorem startTestTakesTheFirstRow : Obligations.StartTestTakesTheFirstRow := by
  unfold Obligations.StartTestTakesTheFirstRow
  intro s hmode cost isolate
  have hrow := State.startTest_of_waiting hmode
  have hsettled (h : ∀ l, (s.switch l).settle = none) : s.anySettle = false :=
    Bool.eq_false_iff.mpr fun hany => (State.anySettle_iff.mp hany).elim fun l hl => hl (h l)
  refine ⟨s.visitCost_snapshotNow, fun l => State.eligible_iff, fun hnil => State.startTest_of_emptyQueue hmode hnil,
    fun hq hpending => ?_, fun hq hnone hlegs => ?_, fun hq hnone hshort => ?_, fun hq hnone hleg hroom => ?_⟩
  · rw [hrow, State.startOutcome_settlePending hq (State.anySettle_iff.mpr hpending)]
    rfl
  · rw [hrow, State.startOutcome_noLeg hq (hsettled hnone) hlegs]
    rfl
  · obtain ⟨l, hl⟩ := hshort
    rw [hrow, State.startOutcome_short hq (hsettled hnone) (State.shortOfAllowance_iff.mpr hl)]
    rfl
  · obtain ⟨l, hl⟩ := hleg
    refine State.startTest_of_pass hmode (State.startOutcome_pass hq (hsettled hnone) hl fun k => ?_)
    refine Bool.eq_false_iff.mpr fun hk => ?_
    obtain ⟨heligible, hless⟩ := State.shortOfAllowance_iff.mp hk
    exact absurd (hroom k heligible) (Nat.not_le.mpr hless)

/-! ### The second tick (R29, R157, R159) -/

section Second
variable {s : State}

theorem State.holdExhausted_of_not_manual (h : ∀ l d o, s.mode ≠ .manual l d o) : s.holdExhausted = false :=
  Bool.eq_false_iff.mpr fun hdue => (s.holdExhausted_iff.mp hdue).elim fun l ⟨d, o, hm, _⟩ => h l d o hm

theorem State.takeHold_of_not_exhausted (h : s.holdExhausted = false) : s.takeHold = s := by
  rw [State.takeHold, if_neg (Bool.eq_false_iff.mp h)]

theorem exec_secondTick_of_due (h : s.secondDue = true) : exec .secondTick s = .next s.takeHold.second :=
  congrArg Host.Outcome.next (if_pos h)

/-- An exhausted hold ends before the second tick that is due with it. -/
theorem exec_secondTick_of_exhausted (h : s.secondDue = true) (hhold : s.holdExhausted = true) :
    exec .holdExhausted s = .next s.endHold ∧ exec .secondTick s = exec .secondTick s.endHold := by
  have hended : s.takeHold = s.endHold := if_pos hhold
  have hclock : s.endHold.clock = s.clock := by rw [← hended]; exact s.clock_takeHold
  have hdue : s.endHold.secondDue = true := by rw [State.secondDue, hclock]; exact h
  obtain ⟨l, d, o, hm, -⟩ := s.holdExhausted_iff.mp hhold
  have hnone : s.endHold.holdExhausted = false := by
    refine State.holdExhausted_of_not_manual fun k c p => ?_
    rw [State.endHold_of_manual hm]
    exact State.mode_enterMode_origin_ne_manual _ o k c p
  refine ⟨congrArg Host.Outcome.next hended, ?_⟩
  rw [exec_secondTick_of_due h, exec_secondTick_of_due hdue, State.takeHold_of_not_exhausted hnone, hended]

theorem State.holdExhausted_of_windowComes (h : s.windowComes = true) : s.holdExhausted = false :=
  Bool.eq_false_iff.mpr fun hdue => by
    obtain ⟨-, -, -, -, -, hcomes⟩ := s.holdExhausted_iff.mp hdue
    exact absurd (h.symm.trans hcomes) nofun

end Second

/-! ### The window start (R32, R157) -/

section Window
variable {s : State}

/-- The state of a window start before its start test. -/
def State.windowed (s : State) : State :=
  (s.withClock { s.clock with windowCount := 0 }).withSwitches
    (PerLeg.ofFn fun l => { s.switch l with charge := s.chargeAfterWindow l })

theorem State.switch_windowed (l : Leg) : s.windowed.switch l = { s.switch l with charge := s.chargeAfterWindow l } := by
  simp [State.windowed, State.switch]

theorem State.switch_window (l : Leg) : s.window.switch l = { s.switch l with charge := s.chargeAfterWindow l } := by
  rw [← State.switch_windowed, State.switch, State.window, State.switches_startTest]
  rfl

theorem State.window_frame :
    s.window = ((s.withClock { s.clock with windowCount := 0 }).withSwitches s.window.switches).withMode s.window.mode := by
  rw [State.window, State.startTest_eq_withMode]
  rfl

theorem State.chargeAfterWindow_of_manual {l : Leg} {d : Depth} {o : Origin} (hm : s.mode = .manual l d o) (k : Leg) :
    s.chargeAfterWindow k = if l = k ∧ s.allowance k ≤ (s.switch k).charge then min 1 (s.switch k).charge else 0 := by
  simp only [State.chargeAfterWindow, hm]

theorem State.chargeAfterWindow_of_other (h : ∀ l d o, s.mode ≠ .manual l d o) (k : Leg) : s.chargeAfterWindow k = 0 :=
  (s.chargeAfterWindow_cases k).resolve_right fun hheld => hheld.1.elim fun d ⟨o, hm⟩ => h k d o hm

theorem State.chargeAfterWindow_le_one (k : Leg) : s.chargeAfterWindow k ≤ 1 := by
  obtain hzero | ⟨-, -, hone⟩ := s.chargeAfterWindow_cases k
  · rw [hzero]
    exact Nat.zero_le 1
  · rw [hone]
    exact Nat.min_le_left _ _

/-- After a window start an eligible leg has the allowance of a visit. -/
theorem State.startOutcome_windowed (hmode : s.mode = .waitBudget) (hq : s.waitQueue ≠ []) (hsettle : s.anySettle = false)
    {l : Leg} (hl : s.eligible l = true) : s.windowed.startOutcome = .pass := by
  have hsettle' : s.windowed.anySettle = false := by
    rw [← hsettle, State.anySettle, State.anySettle]
    simp only [State.switch_windowed]
  refine State.startOutcome_pass (s := s.windowed) hq hsettle' (l := l) hl fun k => Bool.eq_false_iff.mpr fun hk => ?_
  obtain ⟨heligible, hless⟩ := State.shortOfAllowance_iff.mp hk
  obtain ⟨-, hroom⟩ := State.eligible_iff.mp heligible
  have hzero : (s.windowed.switch k).charge = 0 := by
    rw [State.switch_windowed]
    exact State.chargeAfterWindow_of_other (fun l d o => by rw [hmode]; exact nofun) k
  omega

end Window

/-- Settles O7: the counts of both ticks; of the two at one tick, the window start is taken before the charge (log entry 19). -/
theorem secondTicksAndWindowStartsCount : Obligations.SecondTicksAndWindowStartsCount := by
  unfold Obligations.SecondTicksAndWindowStartsCount
  refine ⟨fun s => ⟨decide_eq_true_iff, decide_eq_true_iff⟩, fun s hms => ?second, fun s hdue => ?window⟩
  case second =>
    intro ticked
    have hdue : s.secondDue = true := decide_eq_true hms
    have hticked (h : s.holdExhausted = false) : exec .secondTick s = .next ticked := by
      rw [exec_secondTick_of_due hdue, State.takeHold_of_not_exhausted h]
      rfl
    refine ⟨hticked, fun t hhold ht => ?_, fun l d o hm hwindow => ?_⟩
    · obtain ⟨hended, hsame⟩ := exec_secondTick_of_exhausted hdue hhold
      obtain rfl := Host.Outcome.next.inj (hended.symm.trans ht)
      exact hsame
    · have hcomes : s.windowComes = true := by
        rw [State.windowComes, hdue, decide_eq_true hwindow]
        exact Bool.or_true _
      have hnot := State.holdExhausted_of_windowComes hcomes
      exact ⟨congrArg Host.Outcome.next (State.takeHold_of_not_exhausted hnot), hticked hnot⟩
  case window =>
    have hcharge (k : Leg) : (s.window.switch k).charge = s.chargeAfterWindow k := by rw [State.switch_window]
    have htest : s.window = s.windowed.startTest := rfl
    refine ⟨s.window, congrArg Host.Outcome.next (if_pos hdue), State.window_frame, fun k => ⟨?_, ?_⟩, fun hroom k => ?_,
      fun l d o hm => ⟨fun k hk => ?_, fun hone hexhausted => ?_⟩, fun hidle hwait => ?_, fun hmode => ?_, fun hmode hq hsettle hleg => ?_⟩
    · rw [hcharge, State.switch_window]
    · rw [hcharge]
      exact State.chargeAfterWindow_le_one k
    · rw [hcharge]
      refine (s.chargeAfterWindow_cases k).resolve_right ?_
      rintro ⟨⟨d, o, hm⟩, hexhausted, -⟩
      exact absurd (hroom k d o hm) (Nat.not_lt.mpr hexhausted)
    · rw [hcharge, State.chargeAfterWindow_of_manual hm, if_neg fun h => hk h.1.symm]
    · rw [hcharge, State.chargeAfterWindow_of_manual hm, if_pos ⟨rfl, hexhausted⟩, Nat.min_eq_left hone]
    · rw [htest, State.startTest_of_not_waiting (s := s.windowed) hidle hwait]
      rfl
    · have hback : s.window.withMode s.mode = s.windowed := by
        rw [htest, State.withMode_startTest]
        rfl
      rw [hback, htest]
    · obtain ⟨l, hl⟩ := hleg
      have hpass := State.startTest_of_pass (s := s.windowed) (.inr hmode) (State.startOutcome_windowed hmode hq hsettle hl)
      rw [htest]
      refine ⟨?_, hpass.2⟩
      rw [hpass.1]
      rfl

end Machine
end Sys2Proof
end

section
/-! Proofs, family 11, twenty-fourth part: a millisecond tick without surprises (O8). -/

namespace Sys2Proof
namespace Machine

/-- What "nothing is due" says, step by step. -/
theorem State.nothingDue_iff (s : State) :
    s.nothingDue = true ↔ s.timeoutDue = false ∧ (∀ l, s.settleDue l = false) ∧ s.holdExhausted = false ∧ s.dwellDue = false ∧
      s.evaluationDue = false ∧ s.roundStartDue = false ∧ s.secondDue = false ∧ s.agingDue = false ∧ s.windowDue = false := by
  simp only [State.nothingDue, Bool.and_eq_true, Bool.not_eq_true', all_allLegs, and_assoc]

theorem State.settleDue_iff (l : Leg) (s : State) : s.settleDue l = true ↔ (s.switch l).settle = some 0 := by
  rw [State.settleDue, beq_iff_eq]

theorem State.settle_ne_zero {s : State} (h : s.nothingDue = true) (l : Leg) : (s.switch l).settle ≠ some 0 := fun hzero =>
  absurd (((s.nothingDue_iff.mp h).2.1 l).symm.trans ((s.settleDue_iff l).mpr hzero)) nofun

theorem exec_millisecondTick {s : State} (h : s.nothingDue = true) (sense : PerLeg LinePair) :
    exec (.millisecondTick sense) s = .next (s.millisecond sense) := by
  simp only [exec, execMillisecondTick, State.caughtUp_of_nothingDue h]

section Tick
variable {s : State} (sense : PerLeg LinePair)

/-- The sequencer's state with one millisecond more of the step under way (R121). -/
def Mode.counted (m : Mode) : Mode :=
  match m with
  | .active r step elapsed => .active r step (elapsed + 1)
  | .idle => .idle
  | .waitBudget => .waitBudget
  | .closing r => .closing r
  | .paused => .paused
  | .manual l d o => .manual l d o
  | .locked => .locked

theorem State.countStep_eq (s : State) : s.countStep = s.withMode s.mode.counted := by
  obtain ⟨⟩ := s
  rename_i mode _ _ _ _ _ _ _ _ _ _ _ _ _
  cases mode <;> rfl

theorem State.countGap_eq (s : State) :
    s.countGap = s.withLink { s.link with frame := s.link.frame.map fun f => { f with gap := f.gap + 1 } } := by
  obtain ⟨⟩ := s
  rename_i link _ _ _ _ _
  obtain ⟨phase, frame, reply⟩ := link
  cases frame <;> rfl

/-- The counts of a tick, before the legs are sampled. -/
theorem State.counted_eq (s : State) :
    s.counted = ((((s.withClock { s.clock with ms := s.clock.ms + 1 }).withConfirmedNow none).withMode s.mode.counted).withLink
      { s.link with frame := s.link.frame.map fun f => { f with gap := f.gap + 1 } }) := by
  rw [State.counted, State.countStep_eq, State.countGap_eq]
  rfl

theorem State.switch_counted (l : Leg) : s.counted.switch l = s.switch l :=
  congrArg (PerLeg.get · l) (s.touches_counted .switches (by decide))

/-- A leg after it has been sampled and its settle counted down. -/
theorem State.switch_sampled (l : Leg) :
    (s.counted.sampleLegs sense).switch l =
      { s.switch l with sensed := sensedOf (sense.get l), settle := (s.switch l).settle.map fun k => k - 1 } := by
  rw [State.sampleLegs, State.switch, State.withSwitches_switches, PerLeg.get_ofFn, State.switch_counted]
  rfl

theorem State.settle_sampled_none (l : Leg) :
    ((s.counted.sampleLegs sense).switch l).settle = none ↔ (s.switch l).settle = none := by
  rw [State.switch_sampled, Option.map_eq_none_iff]

/-- A leg whose sampled pair is no surprise is not judged. -/
theorem State.judgeSense_of_expected {l : Leg} (h : ¬ s.sensesMismatch sense l) :
    s.counted.judgeSense l (s.counted.sampleLegs sense) = s.counted.sampleLegs sense := by
  refine if_neg fun hjudged => h ?_
  obtain ⟨hchange, hsettle, hagrees⟩ := hjudged
  rw [State.switch_sampled, State.switch_counted] at hchange
  rw [State.switch_sampled] at hagrees
  exact ⟨(State.settle_sampled_none sense l).mp hsettle, hchange, hagrees⟩

theorem State.millisecond_of_expected (h : ∀ l, ¬ s.sensesMismatch sense l) :
    s.millisecond sense = (s.counted.sampleLegs sense).chargeHold := by
  have hkept (legs : List Leg) :
      legs.foldl (fun t l => State.judgeSense s.counted l t) (s.counted.sampleLegs sense) = s.counted.sampleLegs sense := by
    induction legs with
    | nil => rfl
    | cons l legs ih => rw [List.foldl_cons, State.judgeSense_of_expected sense (h l), ih]
  rw [State.millisecond_eq, hkept]

/-- The settle checks of a tick pass where every leg that settles at it agrees with its command. -/
theorem State.checksPass_sampled (hzero : ∀ l, (s.switch l).settle ≠ some 0)
    (hagrees : ∀ l, (s.switch l).settle = some 1 → (sensedOf (sense.get l)).agrees (s.switch l).commanded = true) :
    (s.counted.sampleLegs sense).checksPass = true := by
  refine all_allLegs.mpr fun l => ?_
  rw [Bool.or_eq_true, Bool.not_eq_true']
  by_cases hdue : (s.counted.sampleLegs sense).settleDue l = true
  · refine .inr ?_
    rw [State.settleDue_iff, State.switch_sampled] at hdue
    obtain ⟨k, hk, hone⟩ := Option.map_eq_some_iff.mp hdue
    have hne : k ≠ 0 := fun h0 => hzero l (h0 ▸ hk)
    obtain rfl : k = 1 := by omega
    rw [State.switch_sampled]
    exact hagrees l hk
  · exact .inl (Bool.eq_false_iff.mpr hdue)

/-- What a held leg's millisecond adds to the charges. -/
theorem State.chargeHold_of_manual {l : Leg} {d : Depth} {o : Origin} (hm : s.mode = .manual l d o) (hpass : s.checksPass = true) :
    s.chargeHold = s.charge l 1 := by
  simp only [State.chargeHold, hm, if_pos hpass]

theorem State.chargeHold_of_other (h : ∀ l d o, s.mode ≠ .manual l d o) : s.chargeHold = s := by
  cases hm : s.mode with
  | manual l d o => exact absurd hm (h l d o)
  | idle | waitBudget | active | closing | paused | locked => simp only [State.chargeHold, hm]

theorem State.charge_eq_withSwitches (l : Leg) (cost : Nat) :
    s.charge l cost = s.withSwitches (PerLeg.ofFn fun k =>
      { s.switch k with charge := if l = k then (s.switch k).charge + cost else (s.switch k).charge }) := by
  rw [State.charge, State.setSwitch]
  refine congrArg s.withSwitches (PerLeg.ext_get fun k => ?_)
  by_cases hk : k = l
  · subst hk
    rw [PerLeg.get_set_self, PerLeg.get_ofFn, if_pos rfl]
  · rw [PerLeg.get_set_ne _ _ hk, PerLeg.get_ofFn, if_neg fun h => hk h.symm]
    rfl

end Tick

theorem Sensed.agrees_iff (x : Sensed) (p : SwitchState) :
    x.agrees p = true ↔ (x = .through ∧ p = .through) ∨ (x = .atten ∧ p = .atten) ∨ (x = .isolate ∧ p = .isolate) := by
  cases x <;> cases p <;> decide

/-- Settles O8: no leg is judged, so that the tick counts and charges, and nothing else. -/
theorem millisecondTickCounts : Obligations.MillisecondTickCounts := by
  unfold Obligations.MillisecondTickCounts
  refine ⟨⟨rfl, rfl, rfl, rfl⟩, ⟨rfl, rfl, rfl⟩, Sensed.agrees_iff, fun sense s hdue hexpected hagrees => ?_⟩
  have hpass := State.checksPass_sampled sense (State.settle_ne_zero hdue) hagrees
  have hswitch (l : Leg) := State.switch_sampled (s := s) sense l
  have hsampled : s.counted.sampleLegs sense = s.counted.withSwitches (PerLeg.ofFn fun l =>
      { s.switch l with sensed := sensedOf (sense.get l), settle := (s.switch l).settle.map fun k => k - 1 }) :=
    congrArg s.counted.withSwitches (PerLeg.ext_get fun l => by
      rw [PerLeg.get_ofFn, PerLeg.get_ofFn, State.switch_counted]
      rfl)
  have hmode : (s.counted.sampleLegs sense).mode = s.mode.counted := by rw [hsampled, State.counted_eq]; rfl
  rw [exec_millisecondTick hdue, State.millisecond_of_expected sense hexpected]
  cases hm : s.mode with
  | manual l d o =>
    rw [hm] at hmode
    rw [State.chargeHold_of_manual hmode hpass, State.charge_eq_withSwitches]
    simp only [hswitch]
    rw [hsampled, State.counted_eq, hm]
    rfl
  | idle | waitBudget | active | closing | paused | locked =>
    rw [hm] at hmode
    rw [State.chargeHold_of_other (fun l d o => by rw [hmode]; exact nofun), hsampled, State.counted_eq, hm]
    rfl

end Machine
end Sys2Proof
end

section
/-! Proofs, family 11, twenty-fifth part: the lockout: what a mismatch does, at a tick and at a settle check (O9). -/

namespace Sys2Proof
namespace Machine

/-! ### Every leg commanded THROUGH (R150, R154) -/

/-- A leg commanded THROUGH: a leg that was out settles for the guard, any other stands. -/
def LegSwitch.through (guard : Nat) (x : LegSwitch) : LegSwitch :=
  if x.commanded = .through then x else { x with commanded := .through, settle := some guard }

theorem LegSwitch.through_of_through {x : LegSwitch} (guard : Nat) (h : x.commanded = .through) : x.through guard = x := if_pos h

theorem LegSwitch.through_of_out {x : LegSwitch} (guard : Nat) (h : x.commanded ≠ .through) :
    x.through guard = { x with commanded := .through, settle := some guard } := if_neg h

theorem LegSwitch.commanded_through (guard : Nat) (x : LegSwitch) : (x.through guard).commanded = .through := by
  by_cases h : x.commanded = .through
  · rw [LegSwitch.through_of_through guard h, h]
  · rw [LegSwitch.through_of_out guard h]

theorem LegSwitch.through_kept (guard : Nat) (x : LegSwitch) :
    (x.through guard).sensed = x.sensed ∧ (x.through guard).charge = x.charge ∧ (x.through guard).faultLatch = x.faultLatch := by
  by_cases h : x.commanded = .through
  · rw [LegSwitch.through_of_through guard h]
    exact ⟨rfl, rfl, rfl⟩
  · rw [LegSwitch.through_of_out guard h]
    exact ⟨rfl, rfl, rfl⟩

section Through
variable {s : State}

theorem State.switch_command_through (l : Leg) (guard : Nat) :
    (s.command l .through guard).switch l = (s.switch l).through guard ∧
      ∀ k, k ≠ l → (s.command l .through guard).switch k = s.switch k := by
  by_cases h : (s.switch l).commanded = .through
  · have hsame : s.command l .through guard = s := by
      obtain hc | ⟨hne, -, -⟩ := s.command_cases l .through guard
      · exact hc
      · exact absurd h hne
    rw [hsame, LegSwitch.through_of_through guard h]
    exact ⟨rfl, fun _ _ => rfl⟩
  · rw [State.command_through_of_out guard h, LegSwitch.through_of_out guard h]
    exact ⟨s.switch_setSwitch_self l _, fun k hk => s.switch_setSwitch_ne _ hk⟩

theorem State.switch_allThrough (k : Leg) (guard : Nat) : (s.allThrough guard).switch k = (s.switch k).through guard := by
  have hlegs (legs : List Leg) (s : State) :
      (k ∈ legs → (legs.foldl (fun t l => State.command l .through guard t) s).switch k = (s.switch k).through guard) ∧
        (k ∉ legs → (legs.foldl (fun t l => State.command l .through guard t) s).switch k = s.switch k) := by
    induction legs generalizing s with
    | nil => exact ⟨fun h => absurd h List.not_mem_nil, fun _ => rfl⟩
    | cons l legs ih =>
      obtain ⟨hself, hother⟩ := s.switch_command_through l guard
      obtain ⟨hin, hout⟩ := ih (s.command l .through guard)
      by_cases hkl : k = l
      · subst hkl
        refine ⟨fun _ => ?_, fun h => absurd List.mem_cons_self h⟩
        by_cases hk : k ∈ legs
        · exact (hin hk).trans (by rw [hself, LegSwitch.through_of_through guard (LegSwitch.commanded_through guard _)])
        · exact (hout hk).trans hself
      · have hsame := hother k hkl
        refine ⟨fun h => ?_, fun h => ?_⟩
        · exact (hin ((List.mem_cons.mp h).resolve_left hkl)).trans (by rw [hsame])
        · exact (hout fun hk => h (List.mem_cons_of_mem _ hk)).trans hsame
  exact (hlegs allLegs s).1 (mem_allLegs k)

/-- With every leg commanded THROUGH, an abort has no leg to return. -/
theorem State.abortCommand_of_through (h : ∀ k, (s.switch k).commanded = .through) : s.abortCommand = s := by
  have hsame (l : Leg) (guard : Nat) : s.command l .through guard = s := by
    obtain hc | ⟨hne, -, -⟩ := s.command_cases l .through guard
    · exact hc
    · exact absurd (h l) hne
  unfold State.abortCommand
  split <;> simp only [hsame]

theorem State.aborted_of_through (h : ∀ k, (s.switch k).commanded = .through) (x : Round) : s.aborted x = s.requeue x.record := by
  rw [State.aborted, State.abortCommand_of_through h]

end Through

/-! ### A mismatch with the lockout clear (R154) -/

theorem State.recordReturns.of_same {s u t : State} {x : Round} (h : u.recordReturns x t) (htable : u.table = s.table)
    (hqueue : u.waitQueue = s.waitQueue) (hseconds : u.clock.seconds = s.clock.seconds) : s.recordReturns x t := by
  have hnamed : u.named = s.named := by
    funext name
    rw [State.named, State.named, State.record, State.record, State.slot, State.slot, htable]
  have hset (n : SlotNo) (y : Slot) : (u.setSlot n y).table = (s.setSlot n y).table := by
    rw [State.setSlot, State.setSlot, State.withTable_table, State.withTable_table, htable]
  simpa only [State.recordReturns, hnamed, htable, hqueue, hseconds, hset] using h

/-- What a mismatch with the lockout clear does to the sequencer and the legs. -/
structure State.LockedOut (s : State) (guard : Nat) (t : State) : Prop where
  lockout : t.lockout = true
  mode : t.mode = .locked
  flag : t.flagSet flagSwitchFault = true
  commanded : ∀ k, (t.switch k).commanded = .through
  kept : ∀ k, (t.switch k).sensed = (s.switch k).sensed ∧ (t.switch k).charge = (s.switch k).charge
  settles : ∀ k, (s.switch k).commanded ≠ .through → (t.switch k).settle = some guard
  stands : ∀ k, (s.switch k).commanded = .through → (t.switch k).settle = (s.switch k).settle
  returns : ∀ x, s.round = some x → s.recordReturns x t
  noRound : s.round = none → t.table = s.table ∧ t.waitQueue = s.waitQueue
  slots : ∀ n, (∀ r, s.record n = some r → r.state ≠ .probing) → t.slot n = s.slot n

section Mismatch
variable {s : State}

theorem State.touches_mismatch_all (s : State) (l : Leg) :
    s.Touches [.table, .switches, .waitQueue, .mode, .lockout, .flags] (s.mismatch l) := by
  unfold State.mismatch
  have hlatched : s.Touches [.table, .switches, .waitQueue, .mode, .lockout, .flags] (s.latchFault l) :=
    (State.Touches.of_setSwitch s _ _).mono
  refine .ite (hlatched.trans (State.Touches.of_raise _ _).mono) (hlatched.trans ?_)
  exact (((State.Touches.of_withLockout _ _).mono.trans (State.touches_allThrough _ _).mono).trans
    (State.touches_enterLocked _).mono).trans (State.Touches.of_raise _ _).mono

theorem State.lockoutGuard_of_round {x : Round} (h : s.round = some x) : s.lockoutGuard = x.snap.guard + 1 := by
  simp only [State.lockoutGuard, h, Snapshot.guardLength]

theorem State.lockoutGuard_of_no_round (h : s.round = none) : s.lockoutGuard = s.settings.guard + 1 := by
  simp only [State.lockoutGuard, h, State.guardNow]

/-- Once every leg is commanded THROUGH, LOCKED is entered by the sequencer alone. -/
theorem State.switches_enterLocked (h : ∀ k, (s.switch k).commanded = .through) : s.enterLocked.switches = s.switches := by
  unfold State.enterLocked
  split
  · rw [State.abortCommand_of_through h]
    exact State.switches_requeue s _
  · rfl

theorem State.lockout_enterLocked (s : State) : s.enterLocked.lockout = s.lockout := s.touches_enterLocked .lockout (by decide)

/-- A mismatch with the lockout clear latches the leg and locks the part. -/
theorem State.lockedOut_mismatch (l : Leg) (hclear : s.lockout = false) :
    s.LockedOut s.lockoutGuard (s.mismatch l) ∧ ((s.mismatch l).switch l).faultLatch = true := by
  generalize hw : ((s.latchFault l).withLockout true).allThrough s.lockoutGuard = w
  have hmismatch : s.mismatch l = w.enterLocked.raise flagSwitchFault := by
    unfold State.mismatch
    dsimp only
    rw [if_neg (by rw [hclear]; exact nofun), hw]
  have htouches : s.Touches [.switches, .lockout] w := by
    rw [← hw]
    exact ((State.Touches.of_setSwitch s _ _).mono.trans (State.Touches.of_withLockout _ _).mono).trans
      (State.touches_allThrough _ _).mono
  have hswitchW (k : Leg) : w.switch k = ((s.latchFault l).switch k).through s.lockoutGuard := by
    rw [← hw]
    exact State.switch_allThrough (s := (s.latchFault l).withLockout true) k _
  have hthrough (k : Leg) : (w.switch k).commanded = .through := by
    rw [hswitchW]
    exact LegSwitch.commanded_through _ _
  have hlatched (k : Leg) : ((s.latchFault l).switch k).commanded = (s.switch k).commanded ∧
      ((s.latchFault l).switch k).sensed = (s.switch k).sensed ∧ ((s.latchFault l).switch k).charge = (s.switch k).charge ∧
      ((s.latchFault l).switch k).settle = (s.switch k).settle := by
    by_cases hk : k = l
    · subst hk
      rw [State.latchFault, s.switch_setSwitch_self]
      exact ⟨rfl, rfl, rfl, rfl⟩
    · rw [State.latchFault, s.switch_setSwitch_ne _ hk]
      exact ⟨rfl, rfl, rfl, rfl⟩
  have hswitch (k : Leg) : (s.mismatch l).switch k = ((s.latchFault l).switch k).through s.lockoutGuard := by
    rw [hmismatch, ← hswitchW]
    exact congrArg (PerLeg.get · k) (State.switches_enterLocked hthrough)
  have hround : w.round = s.round := State.round_of_alike (.inl (htouches .mode (by decide)))
  have hlockW : w.lockout = true := by
    rw [← hw]
    exact State.touches_allThrough ((s.latchFault l).withLockout true) _ .lockout (by decide)
  refine ⟨⟨?_, ?_, ?_, fun k => ?_, fun k => ?_, fun k hk => ?_, fun k hk => ?_, fun x hx => ?_, fun hnone => ?_, fun n hn => ?_⟩, ?_⟩
  · rw [hmismatch]
    exact (State.lockout_enterLocked w).trans hlockW
  · rw [hmismatch]
    exact State.mode_enterLocked w
  · rw [hmismatch]
    exact State.flagSet_raise_self (by decide) _
  · rw [hswitch]
    exact LegSwitch.commanded_through _ _
  · obtain ⟨hsensed, hcharge, -⟩ := LegSwitch.through_kept s.lockoutGuard ((s.latchFault l).switch k)
    rw [hswitch]
    exact ⟨hsensed.trans (hlatched k).2.1, hcharge.trans (hlatched k).2.2.1⟩
  · rw [hswitch, LegSwitch.through_of_out _ (by rwa [(hlatched k).1])]
  · rw [hswitch, LegSwitch.through_of_through _ ((hlatched k).1.trans hk)]
    exact (hlatched k).2.2.2
  · have hentered : w.enterLocked = (w.requeue x.record).withMode .locked := by
      simp only [State.enterLocked, hround.trans hx, State.abortCommand_of_through hthrough]
    have hreturns : w.recordReturns x (s.mismatch l) :=
      (w.recordReturns_requeue x).congr (by rw [hmismatch, hentered]; rfl) (by rw [hmismatch, hentered]; rfl)
    exact hreturns.of_same (htouches .table (by decide)) (htouches .waitQueue (by decide))
      (congrArg Clock.seconds (htouches .clock (by decide)))
  · have hentered : w.enterLocked = w.withMode .locked := by
      simp only [State.enterLocked, hround.trans hnone]
    rw [hmismatch, hentered]
    exact ⟨htouches .table (by decide), htouches .waitQueue (by decide)⟩
  · have hslotW (m : SlotNo) : w.slot m = s.slot m := by rw [State.slot, State.slot, show w.table = s.table from htouches .table (by decide)]
    have hentered : w.enterLocked.slot n = w.slot n := by
      unfold State.enterLocked
      split
      · rw [State.abortCommand_of_through hthrough]
        refine State.slot_requeue _ fun q hq => hn q ?_
        rwa [State.record, hslotW] at hq
      · rfl
    rw [hmismatch]
    exact hentered.trans (hslotW n)
  · rw [hswitch, (LegSwitch.through_kept _ _).2.2, State.latchFault, s.switch_setSwitch_self]

/-- A mismatch with the lockout set latches the leg (R155). -/
theorem State.mismatch_of_locked (l : Leg) (h : s.lockout = true) : s.mismatch l = (s.latchFault l).raise flagSwitchFault := by
  unfold State.mismatch
  exact if_pos h

end Mismatch

/-! ### Mismatches under the lockout (R155) -/

theorem State.flagSet_raise_of_set {s : State} {n : Nat} (m : Nat) (h : s.flagSet n = true) : (s.raise m).flagSet n = true := by
  rw [State.flagSet] at h
  simp only [State.flagSet, State.raise, State.withFlags_flags, BitVec.getLsbD_or, h, Bool.true_or]

/-- `t` is `s` but for fault latches and flags, of which none is cleared. -/
structure State.Latched (s t : State) : Prop where
  frame : t = (s.withSwitches t.switches).withFlags t.flags
  switch : ∀ k, t.switch k = { s.switch k with faultLatch := (t.switch k).faultLatch }
  latches : ∀ k, (s.switch k).faultLatch = true → (t.switch k).faultLatch = true
  flags : ∀ n, s.flagSet n = true → t.flagSet n = true

namespace State.Latched
variable {s t u : State}

theorem refl (s : State) : s.Latched s := ⟨rfl, fun _ => rfl, fun _ => id, fun _ => id⟩

theorem trans (hst : s.Latched t) (htu : t.Latched u) : s.Latched u where
  frame := by
    rw [htu.frame, hst.frame]
    rfl
  switch k := by
    rw [htu.switch k, hst.switch k]
  latches k hk := htu.latches k (hst.latches k hk)
  flags n hn := htu.flags n (hst.flags n hn)

theorem of_mismatch (l : Leg) (h : s.lockout = true) :
    s.Latched (s.mismatch l) ∧ ((s.mismatch l).switch l).faultLatch = true ∧ (s.mismatch l).flagSet flagSwitchFault = true := by
  have hswitch (k : Leg) : ((s.latchFault l).raise flagSwitchFault).switch k = (s.latchFault l).switch k := rfl
  rw [State.mismatch_of_locked l h]
  refine ⟨⟨rfl, fun k => ?_, fun k hk => ?_, fun n hn => State.flagSet_raise_of_set _ hn⟩, ?_,
    State.flagSet_raise_self (by decide) _⟩
  · rw [hswitch, State.latchFault]
    by_cases hkl : k = l
    · subst hkl
      rw [s.switch_setSwitch_self]
    · rw [s.switch_setSwitch_ne _ hkl]
  · rw [hswitch, State.latchFault]
    by_cases hkl : k = l
    · subst hkl
      rw [s.switch_setSwitch_self]
    · rwa [s.switch_setSwitch_ne _ hkl]
  · rw [hswitch, State.latchFault, s.switch_setSwitch_self]

theorem lockout_eq (h : s.Latched t) : t.lockout = s.lockout := by rw [h.frame]; rfl

/-- The legs judged at a tick under the lockout: each surprise is latched. -/
theorem of_judged (before : State) (legs : List Leg) (h : s.lockout = true) :
    s.Latched (legs.foldl (fun t l => State.judgeSense before l t) s) ∧
      ∀ l ∈ legs, (s.switch l).sensed ≠ (before.switch l).sensed ∧ (s.switch l).settle = none ∧
        (s.switch l).sensed.agrees (s.switch l).commanded = false →
        ((legs.foldl (fun t l => State.judgeSense before l t) s).switch l).faultLatch = true ∧
          (legs.foldl (fun t l => State.judgeSense before l t) s).flagSet flagSwitchFault = true := by
  induction legs generalizing s with
  | nil => exact ⟨refl s, fun l hl => absurd hl List.not_mem_nil⟩
  | cons k legs ih =>
    rw [List.foldl_cons]
    have hjudged : s.Latched (before.judgeSense k s) ∧ ((s.switch k).sensed ≠ (before.switch k).sensed ∧
        (s.switch k).settle = none ∧ (s.switch k).sensed.agrees (s.switch k).commanded = false →
        ((before.judgeSense k s).switch k).faultLatch = true ∧ (before.judgeSense k s).flagSet flagSwitchFault = true) := by
      unfold State.judgeSense
      split
      · obtain ⟨hmoved, hlatch, hflag⟩ := of_mismatch k h
        exact ⟨hmoved, fun _ => ⟨hlatch, hflag⟩⟩
      · rename_i hnot
        exact ⟨refl s, fun hsurprise => absurd hsurprise hnot⟩
    obtain ⟨hmoved, hsurprised⟩ := hjudged
    obtain ⟨hrest, hlater⟩ := ih (s := before.judgeSense k s) (hmoved.lockout_eq.trans h)
    refine ⟨hmoved.trans hrest, fun l hl hsurprise => ?_⟩
    by_cases hlegs : l ∈ legs
    · refine hlater l hlegs ?_
      rw [hmoved.switch l]
      exact hsurprise
    · obtain rfl := (List.mem_cons.mp hl).resolve_right hlegs
      obtain ⟨hlatch, hflag⟩ := hsurprised hsurprise
      exact ⟨hrest.latches l hlatch, hrest.flags _ hflag⟩

theorem lockedOut {guard : Nat} (hst : s.LockedOut guard t) (htu : t.Latched u) : s.LockedOut guard u where
  lockout := htu.lockout_eq.trans hst.lockout
  mode := by rw [htu.frame]; exact hst.mode
  flag := htu.flags _ hst.flag
  commanded k := by rw [htu.switch k]; exact hst.commanded k
  kept k := by rw [htu.switch k]; exact hst.kept k
  settles k hk := by rw [htu.switch k]; exact hst.settles k hk
  stands k hk := by rw [htu.switch k]; exact hst.stands k hk
  returns x hx := (hst.returns x hx).congr (by rw [htu.frame]; rfl) (by rw [htu.frame]; rfl)
  noRound hnone := by rw [htu.frame]; exact hst.noRound hnone
  slots n hn := by rw [htu.frame]; exact hst.slots n hn

end State.Latched

/-! ### A surprise at a tick (R151, R153) -/

section Tick
variable {s : State} {sense : PerLeg LinePair} {l : Leg}

theorem State.surprised (h : s.sensesMismatch sense l) :
    ((s.counted.sampleLegs sense).switch l).sensed ≠ (s.counted.switch l).sensed ∧
      ((s.counted.sampleLegs sense).switch l).settle = none ∧
        ((s.counted.sampleLegs sense).switch l).sensed.agrees ((s.counted.sampleLegs sense).switch l).commanded = false := by
  obtain ⟨hsettle, hchange, hagrees⟩ := h
  refine ⟨?_, (State.settle_sampled_none sense l).mpr hsettle, ?_⟩
  · rwa [State.switch_sampled, State.switch_counted]
  · rwa [State.switch_sampled]

/-- The legs below the first surprise are not judged. -/
theorem State.judged_below (legs : List Leg) (h : ∀ k ∈ legs, ¬ s.sensesMismatch sense k) :
    legs.foldl (fun t l => State.judgeSense s.counted l t) (s.counted.sampleLegs sense) = s.counted.sampleLegs sense := by
  induction legs with
  | nil => rfl
  | cons k legs ih =>
    rw [List.foldl_cons, State.judgeSense_of_expected sense (h k List.mem_cons_self),
      ih fun j hj => h j (List.mem_cons_of_mem _ hj)]

theorem allLegs_sorted : allLegs.Pairwise (· < ·) := by decide

theorem State.touches_sampled : s.Touches [.clock, .confirmedNow, .mode, .link, .switches] (s.counted.sampleLegs sense) :=
  s.touches_counted.mono.trans (State.Touches.of_withSwitches _ _).mono

theorem Mode.counted_eq_locked {m : Mode} (h : m = .locked) : m.counted = .locked := by rw [h]; rfl

theorem State.mode_sampled : (s.counted.sampleLegs sense).mode = s.mode.counted := by
  rw [State.sampleLegs, State.counted_eq]
  rfl

theorem State.round_sampled : (s.counted.sampleLegs sense).round = s.round := by
  rw [State.round, State.mode_sampled, State.round]
  cases s.mode <;> rfl

/-- The first surprise of a tick with the lockout clear locks the part; those after it are latched. -/
theorem State.millisecond_of_surprise (hclear : s.lockout = false) (hl : s.sensesMismatch sense l)
    (hfirst : ∀ k, k < l → ¬ s.sensesMismatch sense k) :
    (s.counted.sampleLegs sense).LockedOut s.lockoutGuard (s.millisecond sense) ∧
      ((s.millisecond sense).switch l).faultLatch = true := by
  obtain ⟨pre, post, hlegs⟩ := List.append_of_mem (mem_allLegs l)
  have hsorted := allLegs_sorted
  rw [hlegs, List.pairwise_append] at hsorted
  have hbelow (k : Leg) (hk : k ∈ pre) : k < l := hsorted.2.2 k hk l List.mem_cons_self
  have hclear' : (s.counted.sampleLegs sense).lockout = false := Eq.trans (State.touches_sampled .lockout (by decide)) hclear
  have hguard : (s.counted.sampleLegs sense).lockoutGuard = s.lockoutGuard := by
    have hsettings : (s.counted.sampleLegs sense).settings = s.settings := State.touches_sampled .settings (by decide)
    rw [State.lockoutGuard, State.round_sampled, State.guardNow, hsettings]
    rfl
  obtain ⟨hlocked, hlatch⟩ := State.lockedOut_mismatch l hclear'
  have hrest := State.Latched.of_judged s.counted post hlocked.lockout
  have hjudged : allLegs.foldl (fun t l => State.judgeSense s.counted l t) (s.counted.sampleLegs sense) =
      post.foldl (fun t l => State.judgeSense s.counted l t) ((s.counted.sampleLegs sense).mismatch l) := by
    rw [hlegs, List.foldl_append, State.judged_below pre fun k hk => hfirst k (hbelow k hk), List.foldl_cons, State.judgeSense,
      if_pos (State.surprised hl)]
  have hlockedOut := State.Latched.lockedOut hlocked hrest.1
  have hcharged : s.millisecond sense =
      post.foldl (fun t l => State.judgeSense s.counted l t) ((s.counted.sampleLegs sense).mismatch l) := by
    rw [State.millisecond_eq, hjudged]
    exact State.chargeHold_of_other fun k d o => by rw [hlockedOut.mode]; exact nofun
  rw [hcharged, ← hguard]
  exact ⟨hlockedOut, hrest.1.latches l hlatch⟩

/-- After the sampling a tick touches neither the clock nor the settings, the map, the bands and the reports. -/
theorem State.touches_millisecond :
    (s.counted.sampleLegs sense).Touches [.table, .switches, .waitQueue, .mode, .lockout, .flags] (s.millisecond sense) := by
  have hjudged (legs : List Leg) (u : State) :
      u.Touches [.table, .switches, .waitQueue, .mode, .lockout, .flags]
        (legs.foldl (fun t l => State.judgeSense s.counted l t) u) := by
    induction legs generalizing u with
    | nil => exact .refl _ u
    | cons k legs ih => exact (State.Touches.ite (u.touches_mismatch_all k) (.refl _ u)).trans (ih _)
  have hcharged (u : State) : u.Touches [.switches] u.chargeHold := by
    unfold State.chargeHold
    split
    · exact .ite (.of_setSwitch u _ _) (.refl _ u)
    all_goals exact .refl _ u
  rw [State.millisecond_eq]
  exact (hjudged allLegs _).trans (hcharged _).mono

end Tick

/-- Settles O9: of several surprises the lowest locks the part, and under the lockout each only latches its leg. -/
theorem senseMismatchLocksOut : Obligations.SenseMismatchLocksOut := by
  unfold Obligations.SenseMismatchLocksOut
  intro sense s l hdue hl
  have htouches : s.Touches [.clock, .confirmedNow, .mode, .link, .switches] (s.counted.sampleLegs sense) := State.touches_sampled
  have htable : (s.counted.sampleLegs sense).table = s.table := htouches .table (by decide)
  have hclock : (s.counted.sampleLegs sense).clock = { s.clock with ms := s.clock.ms + 1 } := by
    rw [State.sampleLegs, State.counted_eq]
    rfl
  have hexec := exec_millisecondTick hdue sense
  refine ⟨fun hclear hfirst => ?clear, fun hset hlocked => ?locked⟩
  case clear =>
    obtain ⟨hlocked, hlatch⟩ := State.millisecond_of_surprise hclear hl hfirst
    have hafter := State.touches_millisecond (s := s) (sense := sense)
    have hkept {f : Field} (hf : f ∉ [Field.clock, .confirmedNow, .mode, .link, .switches] := by decide)
        (hf' : f ∉ [Field.table, .switches, .waitQueue, .mode, .lockout, .flags] := by decide) :
        s.sameAt (s.millisecond sense) f := (htouches f hf).trans (hafter f hf')
    have hround : (s.counted.sampleLegs sense).round = s.round := State.round_sampled
    have hswitch (k : Leg) := State.switch_sampled (s := s) sense k
    have hslot (n : SlotNo) : (s.counted.sampleLegs sense).slot n = s.slot n := by rw [State.slot, State.slot, htable]
    refine ⟨_, hexec, hlocked.lockout, hlocked.mode, hlatch, hlocked.flag, fun k => ⟨hlocked.commanded k, ?_, ?_, fun hk => ?_⟩,
      fun x hx => ⟨State.lockoutGuard_of_round hx, ?_⟩, fun hnone => ⟨State.lockoutGuard_of_no_round hnone, ?_, ?_⟩, ?_,
      hkept (f := .plant), hkept (f := .bands), hkept (f := .settings), hkept (f := .safety), hkept (f := .queue),
      hkept (f := .roundNumber), fun n hn => ?_⟩
    · rw [(hlocked.kept k).1, hswitch]
    · rw [(hlocked.kept k).2, hswitch]
    · exact hlocked.settles k (by rw [hswitch]; exact hk)
    · exact (hlocked.returns x (hround.trans hx)).of_same htable (htouches .waitQueue (by decide)) (by rw [hclock])
    · exact (hlocked.noRound (hround.trans hnone)).1.trans htable
    · exact Eq.trans (hlocked.noRound (hround.trans hnone)).2 (htouches .waitQueue (by decide))
    · exact Eq.trans (hafter .clock (by decide)) hclock
    · refine (hlocked.slots n fun q hq => hn q ?_).trans (hslot n)
      rwa [State.record, hslot] at hq
  case locked =>
    have hset' : (s.counted.sampleLegs sense).lockout = true := Eq.trans (htouches .lockout (by decide)) hset
    obtain ⟨hmoved, hlatched⟩ := State.Latched.of_judged s.counted allLegs hset'
    have hmode : (s.counted.sampleLegs sense).mode = .locked := State.mode_sampled.trans (Mode.counted_eq_locked hlocked)
    have hlast : s.millisecond sense =
        allLegs.foldl (fun t l => State.judgeSense s.counted l t) (s.counted.sampleLegs sense) := by
      rw [State.millisecond_eq]
      refine State.chargeHold_of_other fun k d o => ?_
      rw [hmoved.frame]
      exact fun heq => absurd (hmode.symm.trans heq) nofun
    rw [← hlast] at hmoved hlatched
    obtain ⟨hlatch, hflag⟩ := hlatched l (mem_allLegs l) (State.surprised hl)
    refine ⟨_, hexec, hmoved.lockout_eq.trans hset', ?_, hlatch, hflag, ?_, fun k => ?_⟩
    · rw [hmoved.frame]
      exact hmode
    · rw [hmoved.frame]
      exact htable
    · rw [hmoved.switch k, State.switch_sampled]
      exact ⟨rfl, rfl⟩

end Machine
end Sys2Proof
end

section
/-! Proofs, family 11, twenty-sixth part: the visits of a round, the end of a dwell and the settle check (O11, O12). -/

namespace Sys2Proof
namespace Machine

/-! ### The visits (R130, R131, R158) -/

/-- A round with those of some legs skipped that were still to be visited. -/
def Round.skipping (legs : List Leg) (r : Round) : Round :=
  { r with marks := PerLeg.ofFn fun k => if k ∈ legs ∧ r.marks.get k = .notYetVisited then .skipped else r.marks.get k }

theorem Round.get_skipping (legs : List Leg) (r : Round) (k : Leg) :
    (r.skipping legs).marks.get k = if k ∈ legs ∧ r.marks.get k = .notYetVisited then .skipped else r.marks.get k := by
  rw [Round.skipping, PerLeg.get_ofFn]

theorem Round.marks_eq {r : Round} {p : PerLeg VisitMark} (h : ∀ k, r.marks.get k = p.get k) : r = { r with marks := p } := by
  rw [← PerLeg.ext_get h]

theorem Round.skipping_nil (r : Round) : r.skipping [] = r := by
  refine (Round.marks_eq fun k => ?_).symm
  rw [PerLeg.get_ofFn, if_neg fun h => absurd h.1 List.not_mem_nil]

/-- Skipping a leg that is to be visited, and then others. -/
theorem Round.skipping_cons_of_notYet {r : Round} {k : Leg} (legs : List Leg) (h : r.marks.get k = .notYetVisited) :
    (r.mark k .skipped).skipping legs = r.skipping (k :: legs) := by
  have hmarks : ((r.mark k .skipped).skipping legs).marks = (r.skipping (k :: legs)).marks := by
    refine PerLeg.ext_get fun j => ?_
    rw [Round.get_skipping, Round.get_skipping]
    by_cases hj : j = k
    · subst hj
      rw [Round.mark, PerLeg.get_set_self, ite_self]
      exact (if_pos ⟨List.mem_cons_self, h⟩).symm
    · rw [Round.mark, PerLeg.get_set_ne _ _ hj]
      simp only [List.mem_cons, hj, false_or]
  simpa [Round.skipping, Round.mark] using hmarks

theorem Round.skipping_cons_of_other {r : Round} {k : Leg} (legs : List Leg) (h : r.marks.get k ≠ .notYetVisited) :
    r.skipping legs = r.skipping (k :: legs) := by
  have hmarks : (r.skipping legs).marks = (r.skipping (k :: legs)).marks := by
    refine PerLeg.ext_get fun j => ?_
    rw [Round.get_skipping, Round.get_skipping]
    by_cases hj : j = k
    · subst hj
      rw [if_neg fun hc => h hc.2, if_neg fun hc => h hc.2]
    · simp only [List.mem_cons, hj, false_or]
  simpa [Round.skipping] using hmarks

section Visits
variable {s : State} {r : Round}

/-- Legs that are not to be visited, or are refused, are passed over. -/
theorem State.nextVisit_skipping (pre rest : List Leg)
    (h : ∀ k ∈ pre, r.marks.get k = .notYetVisited → s.visitRefused k r.snap.visitCost = true) :
    s.nextVisit r (pre ++ rest) = s.nextVisit (r.skipping pre) rest := by
  induction pre generalizing r with
  | nil => rw [List.nil_append, Round.skipping_nil]
  | cons k pre ih =>
    by_cases hk : r.marks.get k = .notYetVisited
    · have hrefused := h k List.mem_cons_self hk
      have hrest (j : Leg) (hj : j ∈ pre) (hmark : (r.mark k .skipped).marks.get j = .notYetVisited) :
          s.visitRefused j (r.mark k .skipped).snap.visitCost = true := by
        have hjk : j ≠ k := by
          rintro rfl
          rw [Round.mark, PerLeg.get_set_self] at hmark
          exact absurd hmark nofun
        rw [Round.mark, PerLeg.get_set_ne _ _ hjk] at hmark
        exact h j (List.mem_cons_of_mem _ hj) hmark
      rw [← Round.skipping_cons_of_notYet pre hk, ← ih hrest]
      simp only [List.cons_append, State.nextVisit, hk, hrefused, if_true]
    · rw [← Round.skipping_cons_of_other pre hk, ← ih fun j hj => h j (List.mem_cons_of_mem _ hj), List.cons_append,
        State.nextVisit]
      cases hmark : r.marks.get k with
      | notYetVisited => exact absurd hmark hk
      | notInSnapshot | visited | skipped => rfl

theorem State.nextVisit_of_refused {legs : List Leg}
    (h : ∀ k ∈ legs, r.marks.get k = .notYetVisited → s.visitRefused k r.snap.visitCost = true) :
    s.nextVisit r legs = s.withMode (.closing (r.skipping legs)) := by
  have hskipped := State.nextVisit_skipping (s := s) (r := r) legs [] h
  rwa [List.append_nil] at hskipped

/-- The first leg whose visit is not refused is visited. -/
theorem State.nextVisit_of_visited {pre post : List Leg} {l : Leg}
    (h : ∀ k ∈ pre, r.marks.get k = .notYetVisited → s.visitRefused k r.snap.visitCost = true) (hpre : l ∉ pre)
    (hl : r.marks.get l = .notYetVisited) (hopen : s.visitRefused l r.snap.visitCost = false) :
    s.nextVisit r (pre ++ l :: post) =
      ((s.charge l r.snap.visitCost).command l r.snap.depth.position r.snap.guardLength).withMode
        (.active ((r.skipping pre).mark l .visited) (.settleIn l) 0) := by
  have hmark : (r.skipping pre).marks.get l = .notYetVisited := by
    rw [Round.get_skipping, if_neg fun hc => hpre hc.1, hl]
  have hsnap : (r.skipping pre).snap = r.snap := rfl
  rw [State.nextVisit_skipping pre _ h]
  simp only [State.nextVisit, hmark, hsnap, hopen]
  rfl

theorem State.otherOut_of_through (h : ∀ k, (s.switch k).commanded = .through) (l : Leg) : s.otherOut l = false := by
  refine List.any_eq_false.mpr fun k _ => ?_
  rw [s.isOut_eq_false_iff.mpr (h k), Bool.and_false]
  exact Bool.false_ne_true

/-- With no leg out and the lockout clear, a visit is refused for its cost alone. -/
theorem State.visitRefused_eq (hclear : s.lockout = false) (hthrough : ∀ k, (s.switch k).commanded = .through) (l : Leg)
    (cost : Nat) : s.visitRefused l cost = decide (s.allowance l < (s.switch l).charge + cost) := by
  rw [State.visitRefused, hclear, State.otherOut_of_through hthrough, Bool.or_self, Bool.false_or]

theorem State.visitRefused_of_short {l : Leg} {cost : Nat} (h : s.allowance l < (s.switch l).charge + cost) :
    s.visitRefused l cost = true := by
  rw [State.visitRefused, decide_eq_true h, Bool.or_true]

theorem Depth.position_ne_through (d : Depth) : d.position ≠ .through := by cases d <;> exact nofun

theorem State.setSwitch_setSwitch (s : State) (l : Leg) (x y : LegSwitch) : (s.setSwitch l x).setSwitch l y = s.setSwitch l y := by
  have hset : (s.switches.set l x).set l y = s.switches.set l y := by
    refine PerLeg.ext_get fun k => ?_
    by_cases hk : k = l
    · subst hk
      rw [PerLeg.get_set_self, PerLeg.get_set_self]
    · rw [PerLeg.get_set_ne _ _ hk, PerLeg.get_set_ne _ _ hk, PerLeg.get_set_ne _ _ hk]
  exact congrArg s.withSwitches hset

/-- The command and the charge of a visit. -/
theorem State.command_charge (hclear : s.lockout = false) (hthrough : ∀ k, (s.switch k).commanded = .through) (l : Leg)
    (cost guard : Nat) (d : Depth) :
    (s.charge l cost).command l d.position guard =
      s.setSwitch l
        { s.switch l with commanded := d.position, settle := some guard, charge := (s.switch l).charge + cost } := by
  have hswitch : (s.charge l cost).switch l = { s.switch l with charge := (s.switch l).charge + cost } :=
    s.switch_setSwitch_self l _
  have hthrough' (k : Leg) : ((s.charge l cost).switch k).commanded = .through := by
    by_cases hk : k = l
    · subst hk
      rw [hswitch]
      exact hthrough k
    · rw [State.charge, s.switch_setSwitch_ne _ hk]
      exact hthrough k
  have hclear' : (s.charge l cost).lockout = false := hclear
  have hcommand : (s.charge l cost).command l d.position guard =
      (s.charge l cost).setSwitch l { (s.charge l cost).switch l with commanded := d.position, settle := some guard } := by
    unfold State.command
    rw [if_neg, if_neg]
    · rw [hthrough']
      exact fun heq => d.position_ne_through heq.symm
    · rw [hclear', State.otherOut_of_through hthrough']
      exact fun hc => absurd hc.2 (by simp)
  rw [hcommand, hswitch, State.charge, State.setSwitch_setSwitch]

end Visits

/-! ### The end of a dwell (R129, R130) -/

theorem State.dwellDue_iff (s : State) :
    s.dwellDue = true ↔
      ∃ r e, (s.mode = .active r .ref e ∨ ∃ l, s.mode = .active r (.probe l) e) ∧ r.snap.dwellLength ≤ e := by
  cases hm : s.mode with
  | active r p e => cases p <;> simp [State.dwellDue, hm]
  | idle | waitBudget | closing | paused | manual | locked => simp [State.dwellDue, hm]

theorem exec_dwellExpiry {s : State} (h : s.dwellDue = true) : exec .dwellExpiry s = .next s.endDwell :=
  congrArg Host.Outcome.next (if_pos h)

/-- The legs in order, up to one and after it. -/
theorem allLegs_eq_append (l : Leg) : allLegs = (allLegs.filter fun k => k < l) ++ l :: legsAfter l := by
  revert l
  decide

theorem mem_legsBelow {k l : Leg} : k ∈ (allLegs.filter fun k => k < l) ↔ k < l := by
  rw [List.mem_filter, decide_eq_true_iff]
  exact and_iff_right (mem_allLegs k)

theorem mem_legsAfter {k l : Leg} : k ∈ legsAfter l ↔ l < k := by
  rw [legsAfter, List.mem_filter, decide_eq_true_iff]
  exact and_iff_right (mem_allLegs k)

section Dwell
variable {s : State} {r : Round} {e : Nat}

theorem State.endDwell_of_ref (hm : s.mode = .active r .ref e) : s.endDwell = s.nextVisit r allLegs := by
  simp only [State.endDwell, hm]

/-- The visit that the end of REF begins: of the first leg that its allowance lets in. -/
theorem State.endDwell_of_visited {l : Leg} (hm : s.mode = .active r .ref e) (hclear : s.lockout = false)
    (hthrough : ∀ k, (s.switch k).commanded = .through)
    (hbelow : ∀ k, k < l → r.marks.get k = .notYetVisited → s.allowance k < (s.switch k).charge + r.snap.visitCost)
    (hl : r.marks.get l = .notYetVisited) (hroom : (s.switch l).charge + r.snap.visitCost ≤ s.allowance l) :
    s.endDwell =
      (s.setSwitch l
        { s.switch l with
          commanded := r.snap.depth.position, settle := some (r.snap.guard + 1)
          charge := (s.switch l).charge + r.snap.visitCost }).withMode
        (.active ((r.skipping (allLegs.filter fun k => k < l)).mark l .visited) (.settleIn l) 0) := by
  have hopen : s.visitRefused l r.snap.visitCost = false := by
    rw [State.visitRefused_eq hclear hthrough]
    exact decide_eq_false (Nat.not_lt.mpr hroom)
  have hvisit := State.nextVisit_of_visited (s := s) (pre := allLegs.filter fun k => k < l) (post := legsAfter l)
    (fun k hk hmark => State.visitRefused_of_short (hbelow k (mem_legsBelow.mp hk) hmark))
    (fun hmem => absurd (mem_legsBelow.mp hmem) (lt_irrefl l)) hl hopen
  rw [← allLegs_eq_append l, State.command_charge hclear hthrough] at hvisit
  exact (State.endDwell_of_ref hm).trans hvisit

end Dwell

/-- The marks of a visit: the legs passed over before it are skipped. -/
theorem Round.mark_skipping (r : Round) (legs : List Leg) {l : Leg} (f : Leg → VisitMark)
    (h : ∀ k, k ≠ l → f k = if k ∈ legs ∧ r.marks.get k = .notYetVisited then .skipped else r.marks.get k) (hl : f l = .visited) :
    (r.skipping legs).mark l .visited = { r with marks := PerLeg.ofFn f } := by
  have hmarks : ((r.skipping legs).mark l .visited).marks = PerLeg.ofFn f := by
    refine PerLeg.ext_get fun k => ?_
    rw [PerLeg.get_ofFn]
    by_cases hk : k = l
    · subst hk
      rw [Round.mark, PerLeg.get_set_self, hl]
    · rw [Round.mark, PerLeg.get_set_ne _ _ hk, Round.get_skipping, h k hk]
  rw [← hmarks]
  rfl

/-- Settles O12: of the legs in order, those refused are passed over, and the first other one is visited. -/
theorem dwellExpiryMovesTheRoundOn : Obligations.DwellExpiryMovesTheRoundOn := by
  unfold Obligations.DwellExpiryMovesTheRoundOn
  refine ⟨fun c => ⟨fun hnone => ?_, fun most hmost => ?_, rfl⟩, State.dwellDue_iff, fun s r e hdue => ?_⟩
  · simp only [Snapshot.dwellLength, hnone]
  · simp only [Snapshot.dwellLength, hmost]
  rw [exec_dwellExpiry hdue]
  refine ⟨fun l hm hout => ?probe, fun l hm hbelow hl hclear hthrough hroom => ?first, fun l hm hbelow hl hclear hthrough hroom => ?visit,
    fun hm hall => ?closing⟩
  case probe =>
    simp only [State.endDwell, hm, State.command_through_of_out r.snap.guardLength hout]
    rfl
  case first =>
    have hnone (k : Leg) (hk : k < l) (hmark : r.marks.get k = .notYetVisited) :
        s.allowance k < (s.switch k).charge + r.snap.visitCost := absurd hmark (hbelow k hk)
    have hmarks := Round.mark_skipping r (allLegs.filter fun k => k < l) (l := l) (fun k => (r.marks.set l .visited).get k)
      (fun k hk => ?_) (PerLeg.get_set_self _ _ _)
    · rw [State.endDwell_of_visited hm hclear hthrough hnone hl hroom, hmarks]
      have hset : PerLeg.ofFn (fun k => (r.marks.set l .visited).get k) = r.marks.set l .visited :=
        PerLeg.ext_get fun k => PerLeg.get_ofFn _ _
      rw [hset]
    · rw [PerLeg.get_set_ne _ _ hk, if_neg fun hc => absurd hc.2 (hbelow k (mem_legsBelow.mp hc.1))]
  case visit =>
    rw [State.endDwell_of_visited hm hclear hthrough hbelow hl hroom, Round.mark_skipping r (allLegs.filter fun k => k < l)
      (fun k => if k = l then .visited else if k < l ∧ r.marks.get k = .notYetVisited then .skipped else r.marks.get k)
      (fun k hk => ?_) (if_pos rfl)]
    simp only [mem_legsBelow, if_neg hk]
  case closing =>
    refine ⟨_, ?_, rfl⟩
    rw [State.endDwell_of_ref hm, State.nextVisit_of_refused fun k _ hmark => State.visitRefused_of_short (hall k hmark)]
    simp only [Round.skipping, mem_allLegs, true_and]

end Machine
end Sys2Proof
end

section
/-! Proofs, family 11, twenty-seventh part: the settle check (O11). -/

namespace Sys2Proof
namespace Machine

/-! ### The settle check (R130, R152) -/

/-- The state once a settle is no longer pending. -/
def State.settled (l : Leg) (s : State) : State := s.setSwitch l { s.switch l with settle := none }

theorem exec_settleExpiry {l : Leg} {s : State} (h : s.settleDue l = true) : exec (.settleExpiry l) s = .next (s.checkSettle l) :=
  congrArg Host.Outcome.next (if_pos h)

theorem State.checkSettle_of_agrees {l : Leg} {s : State} (h : (s.switch l).sensed.agrees (s.switch l).commanded = true) :
    s.checkSettle l = (s.settled l).settlePassed l := if_pos h

theorem State.checkSettle_of_disagrees {l : Leg} {s : State} (h : (s.switch l).sensed.agrees (s.switch l).commanded = false) :
    s.checkSettle l = (s.settled l).mismatch l := if_neg (by rw [h]; exact Bool.false_ne_true)

theorem State.switch_settled_self (l : Leg) (s : State) : (s.settled l).switch l = { s.switch l with settle := none } :=
  s.switch_setSwitch_self l _

theorem State.switch_settled_ne {k l : Leg} (s : State) (h : k ≠ l) : (s.settled l).switch k = s.switch k :=
  s.switch_setSwitch_ne _ h

/-- A settle check moves nothing of a leg but its settle. -/
theorem State.switch_settled (l : Leg) (s : State) (k : Leg) :
    ((s.settled l).switch k).commanded = (s.switch k).commanded ∧ ((s.settled l).switch k).sensed = (s.switch k).sensed ∧
      ((s.settled l).switch k).charge = (s.switch k).charge := by
  by_cases hk : k = l
  · subst hk
    rw [State.switch_settled_self]
    exact ⟨rfl, rfl, rfl⟩
  · rw [State.switch_settled_ne s hk]
    exact ⟨rfl, rfl, rfl⟩

/-- The legs after one, up to another and after that. -/
theorem legsAfter_eq_append {l k : Leg} (h : l < k) :
    legsAfter l = (allLegs.filter fun j => l < j ∧ j < k) ++ k :: legsAfter k := by
  revert l k
  decide

theorem mem_legsBetween {j k l : Leg} : j ∈ (allLegs.filter fun j => l < j ∧ j < k) ↔ l < j ∧ j < k := by
  rw [List.mem_filter, decide_eq_true_iff]
  exact and_iff_right (mem_allLegs j)

section Passed
variable {s : State} {r : Round} {e : Nat} {l : Leg}

theorem State.settlePassed_of_settleOut (hm : s.mode = .active r (.settleOut l) e) :
    s.settlePassed l = s.nextVisit r (legsAfter l) := by
  simp only [State.settlePassed, hm, if_true]

/-- The visit that a passed SETTLE_OUT begins: of the first leg after it that its allowance lets in. -/
theorem State.settlePassed_of_visited {k : Leg} (hm : s.mode = .active r (.settleOut l) e) (hclear : s.lockout = false)
    (hthrough : ∀ j, (s.switch j).commanded = .through) (hlk : l < k) (hk : r.marks.get k = .notYetVisited)
    (hroom : (s.switch k).charge + r.snap.visitCost ≤ s.allowance k)
    (hbetween : ∀ j, l < j → j < k → r.marks.get j = .notYetVisited → s.allowance j < (s.switch j).charge + r.snap.visitCost) :
    s.settlePassed l =
      (s.setSwitch k
        { s.switch k with
          commanded := r.snap.depth.position, settle := some (r.snap.guard + 1)
          charge := (s.switch k).charge + r.snap.visitCost }).withMode
        (.active ((r.skipping (allLegs.filter fun j => l < j ∧ j < k)).mark k .visited) (.settleIn k) 0) := by
  have hopen : s.visitRefused k r.snap.visitCost = false := by
    rw [State.visitRefused_eq hclear hthrough]
    exact decide_eq_false (Nat.not_lt.mpr hroom)
  have hvisit := State.nextVisit_of_visited (s := s) (pre := allLegs.filter fun j => l < j ∧ j < k) (post := legsAfter k)
    (fun j hj hmark => State.visitRefused_of_short
      (hbetween j (mem_legsBetween.mp hj).1 (mem_legsBetween.mp hj).2 hmark))
    (fun hmem => absurd (mem_legsBetween.mp hmem).2 (lt_irrefl k)) hk hopen
  rw [← legsAfter_eq_append hlk, State.command_charge hclear hthrough] at hvisit
  exact (State.settlePassed_of_settleOut hm).trans hvisit

end Passed

/-! ### A settle check that fails (R154, R155) -/

section Failed
variable {s : State} {l : Leg}

theorem State.latchFault_settled (l : Leg) (s : State) :
    (s.settled l).latchFault l = s.setSwitch l { s.switch l with settle := none, faultLatch := true } := by
  rw [State.latchFault, State.switch_settled_self, State.settled, State.setSwitch_setSwitch]

/-- A failed check with the lockout clear: the leg's settle is over, and the part locks. -/
theorem State.lockedOut_settled (hclear : s.lockout = false) :
    (s.settled l).LockedOut s.lockoutGuard ((s.settled l).mismatch l) ∧
      (((s.settled l).mismatch l).switch l).faultLatch = true :=
  State.lockedOut_mismatch (s := s.settled l) l hclear

end Failed

/-- Settles O11: a check that agrees moves the sequencer on, one that does not is a mismatch of the leg. -/
theorem settleChecksPassOrFail : Obligations.SettleChecksPassOrFail := by
  unfold Obligations.SettleChecksPassOrFail
  refine ⟨State.settleDue_iff, fun l s hdue hagrees => ?passed, fun l s hdue hagrees => ?failed⟩
  case passed =>
    have hexec : exec (.settleExpiry l) s = .next ((s.settled l).settlePassed l) := by
      rw [exec_settleExpiry hdue, State.checkSettle_of_agrees hagrees]
    rw [hexec]
    change (∀ r e, (s.settled l).mode = .active r (.settleIn l) e → _) ∧ (∀ r e, (s.settled l).mode = .active r (.settleOut l) e → _ → _) ∧
      (∀ r e, (s.settled l).mode = .active r (.settleOut l) e → (s.settled l).lockout = false → _ → _) ∧
        ((s.settled l).mode = .idle → _) ∧ _
    refine ⟨fun r e hm => ?settleIn, fun r e hm hnone => ?last, fun r e hm hclear hthrough => ⟨fun hall => ?refused, ?visit⟩,
      fun hm => ?idle, fun hm => ?other⟩
    case settleIn => simp only [State.settlePassed, hm, if_true]; rfl
    case last =>
      have hrefused (k : Leg) (hk : k ∈ legsAfter l) (hmark : r.marks.get k = .notYetVisited) :
          (s.settled l).visitRefused k r.snap.visitCost = true := absurd hmark (hnone k (mem_legsAfter.mp hk))
      have hmarks : r.skipping (legsAfter l) = r := by
        refine (Round.marks_eq fun k => ?_).symm
        rw [PerLeg.get_ofFn, if_neg fun hc => hnone k (mem_legsAfter.mp hc.1) hc.2]
      rw [State.settlePassed_of_settleOut hm, State.nextVisit_of_refused hrefused, hmarks]
      rfl
    case refused =>
      have hrefused (k : Leg) (hk : k ∈ legsAfter l) (hmark : r.marks.get k = .notYetVisited) :
          (s.settled l).visitRefused k r.snap.visitCost = true := by
        refine State.visitRefused_of_short ?_
        rw [(s.switch_settled l k).2.2]
        exact (hall k (mem_legsAfter.mp hk) hmark).2
      rw [State.settlePassed_of_settleOut hm, State.nextVisit_of_refused hrefused]
      simp only [Round.skipping, mem_legsAfter]
      rfl
    case visit =>
      intro k hlk hk hopen hbetween
      have hroom : ((s.settled l).switch k).charge + r.snap.visitCost ≤ (s.settled l).allowance k := by
        rw [(s.switch_settled l k).2.2]
        exact Nat.not_lt.mp fun hshort => hopen ⟨hk, hshort⟩
      have hshort (j : Leg) (hlj : l < j) (hjk : j < k) (hj : r.marks.get j = .notYetVisited) :
          (s.settled l).allowance j < ((s.settled l).switch j).charge + r.snap.visitCost := by
        rw [(s.switch_settled l j).2.2]
        exact (hbetween j hlj hjk hj).2
      have hmarks := Round.mark_skipping r (allLegs.filter fun j => l < j ∧ j < k)
        (fun j => if j = k then .visited
          else if j < k then (if l < j ∧ r.marks.get j = .notYetVisited then .skipped else r.marks.get j)
          else r.marks.get j) (fun j hj => ?_) (if_pos rfl)
      · rw [State.settlePassed_of_visited hm hclear (fun j => (s.switch_settled l j).1.trans (hthrough j)) hlk hk hroom hshort,
          hmarks, State.switch_settled_ne s (ne_of_gt hlk)]
        rfl
      · simp only [mem_legsBetween, if_neg hj]
        by_cases hjk : j < k
        · simp only [hjk, if_true, and_true]
        · simp only [hjk, if_false, and_false, false_and]
    case idle => simp only [State.settlePassed, hm]; rfl
    case other =>
      change (s.settled l).mode = .waitBudget ∨ (s.settled l).mode = .paused ∨ (s.settled l).mode = .locked ∨
        (∃ r, (s.settled l).mode = .closing r) ∨ (∃ k d o, (s.settled l).mode = .manual k d o) at hm
      obtain hm | hm | hm | ⟨r, hm⟩ | ⟨k, d, o, hm⟩ := hm <;> simp only [State.settlePassed, hm] <;> rfl
  case failed =>
    have hexec : exec (.settleExpiry l) s = .next ((s.settled l).mismatch l) := by
      rw [exec_settleExpiry hdue, State.checkSettle_of_disagrees hagrees]
    rw [hexec]
    refine ⟨fun hlocked => ?_, fun hclear => ⟨_, rfl, ?_⟩⟩
    · rw [State.mismatch_of_locked (s := s.settled l) l hlocked, State.latchFault_settled]
    · obtain ⟨hlocked, hlatch⟩ := State.lockedOut_settled (l := l) hclear
      have htouches := (s.settled l).touches_mismatch_all l
      have hstands (hl : (s.switch l).commanded = .through) : (((s.settled l).mismatch l).switch l).settle = none := by
        rw [hlocked.stands l ((s.switch_settled l l).1.trans hl), State.switch_settled_self]
      have hlegs (k : Leg) : (((s.settled l).mismatch l).switch k).commanded = .through ∧
          (((s.settled l).mismatch l).switch k).sensed = (s.switch k).sensed ∧
            (((s.settled l).mismatch l).switch k).charge = (s.switch k).charge := by
        obtain ⟨-, hsensed, hcharge⟩ := s.switch_settled l k
        obtain ⟨hsensed', hcharge'⟩ := hlocked.kept k
        exact ⟨hlocked.commanded k, hsensed'.trans hsensed, hcharge'.trans hcharge⟩
      exact ⟨hlocked.lockout, hlocked.mode, hlatch, hlocked.flag, hstands, hlegs,
        fun x hx => (hlocked.returns x hx).of_same rfl rfl rfl, hlocked.noRound, htouches .clock (by decide),
        htouches .plant (by decide), htouches .bands (by decide), htouches .settings (by decide), htouches .safety (by decide),
        htouches .queue (by decide), htouches .roundNumber (by decide), hlocked.slots⟩

end Machine
end Sys2Proof
end

section
/-! Proofs, family 11, twenty-eighth part: the report port (O17, O18). -/

namespace Sys2Proof
namespace Machine

/-! ### The bits under a select (R57, R59) -/

section Port
variable {s : State}

theorem exec_selectAssertion (h : s.nothingDue = true) : exec .selectAssertion s = .next s.assertSelect := by
  simp only [exec, execSelectAssertion, State.caughtUp_of_nothingDue h]

theorem exec_reportBitReceived (h : s.nothingDue = true) (bit : Bool) :
    exec (.reportBitReceived bit) s = .next (s.receiveBit bit) := by
  simp only [exec, execReportBitReceived, State.caughtUp_of_nothingDue h]

theorem exec_reportArrival (h : s.nothingDue = true) : exec .reportArrival s = .next s.releaseSelect := by
  simp only [exec, execReportArrival, State.caughtUp_of_nothingDue h]

theorem State.receiveBit_of_idle (bit : Bool) (h : s.port.counting = false) : s.receiveBit bit = s :=
  if_neg (by rw [h]; exact Bool.false_ne_true)

/-- A counted bit is shifted in, and the 64th takes the stamps. -/
theorem State.receiveBit_of_counted (bit : Bool) (h : s.port.counting = true) (hcount : s.port.count < 64) :
    s.receiveBit bit =
      s.withPort
        { counting := true, count := s.port.count + 1, bits := s.port.bits <<< 1 ||| (if bit then 1#64 else 0#64)
          pending := if s.port.count + 1 = 64 then some { second := s.clock.seconds, tag := s.stepTag } else none } := by
  rw [State.receiveBit, if_pos h]
  exact if_pos (Nat.succ_le_iff.mpr hcount)

theorem State.receiveBit_of_spoilt (bit : Bool) (h : s.port.counting = true) (hcount : 64 ≤ s.port.count) :
    s.receiveBit bit =
      s.withPort { counting := true, count := s.port.count + 1, bits := s.port.bits, pending := s.port.pending } := by
  rw [State.receiveBit, if_pos h]
  exact if_neg (Nat.not_le.mpr (Nat.lt_succ_iff.mpr hcount))

/-! ### The release (R57, R61 to R63) -/

theorem State.releaseSelect_of_report {stamps : Stamps} (h : s.port.counting = true) (hcount : s.port.count = 64)
    (hpending : s.port.pending = some stamps) :
    s.releaseSelect = (s.withPort Port.initial).offerReport { report := readReport s.port.bits, stamps := stamps } := by
  simp only [State.releaseSelect, h, hpending, hcount, if_true]

theorem State.releaseSelect_of_spoilt (h : s.port.counting = false ∨ s.port.count ≠ 64) :
    s.releaseSelect = s.withPort Port.initial := by
  unfold State.releaseSelect
  cases hcounting : s.port.counting with
  | false => cases s.port.pending <;> rfl
  | true =>
    have hcount : s.port.count ≠ 64 := h.resolve_left (by rw [hcounting]; exact nofun)
    cases s.port.pending with
    | none => rfl
    | some stamps => exact if_neg hcount

theorem State.offerReport_of_room (x : QueuedReport) (h : s.queue.length < 64) :
    s.offerReport x = (s.withQueue (s.queue ++ [x])).withHold (s.hold || decide (56 ≤ s.queue.length + 1)) := if_pos h

theorem State.offerReport_of_full (x : QueuedReport) (h : 64 ≤ s.queue.length) : s.offerReport x = s.raise flagOverrun :=
  if_neg (Nat.not_lt.mpr h)

end Port

/-- Settles O17: the bits by their count, and the release by the count and the room in the queue. -/
theorem selectsAreCountedAndJudged : Obligations.SelectsAreCountedAndJudged := by
  unfold Obligations.SelectsAreCountedAndJudged
  refine ⟨fun s bit hdue => ?bits, fun s stamps hdue => ?release⟩
  case bits =>
    rw [exec_selectAssertion hdue, exec_reportBitReceived hdue]
    refine ⟨rfl, fun hidle => ?_, fun hcounting hcount => ?_, fun hcounting hcount => ?_, fun hcounting hcount => ?_⟩
    · rw [State.receiveBit_of_idle bit hidle]
    · rw [State.receiveBit_of_counted bit hcounting (by omega), if_neg (c := s.port.count + 1 = 64) (by omega)]
    · rw [State.receiveBit_of_counted bit hcounting (by omega), if_pos (c := s.port.count + 1 = 64) (by omega), hcount]
    · rw [State.receiveBit_of_spoilt bit hcounting hcount]
  case release =>
    rw [exec_reportArrival hdue]
    refine ⟨fun hcounting hcount hpending hroom => ?_, fun hcounting hcount hpending hfull => ?_, fun hspoilt => ?_⟩
    · rw [State.releaseSelect_of_report hcounting hcount hpending]
      exact congrArg Host.Outcome.next (State.offerReport_of_room _ hroom)
    · rw [State.releaseSelect_of_report hcounting hcount hpending]
      exact congrArg Host.Outcome.next (State.offerReport_of_full _ hfull)
    · rw [State.releaseSelect_of_spoilt hspoilt]
      rfl

/-! ### A whole select -/

theorem execAll_cons {c : Instr} {s t : State} (h : exec c s = .next t) (cs : List Instr) :
    execAll s (c :: cs) = execAll t cs := by
  rw [execAll, h]

theorem execAll_append {s t : State} {cs : List Instr} (h : execAll s cs = .next t) (ds : List Instr) :
    execAll s (cs ++ ds) = execAll t ds := by
  induction cs generalizing s with
  | nil =>
    obtain rfl : s = t := Host.Outcome.next.inj h
    rfl
  | cons c cs ih =>
    rw [execAll] at h
    rw [List.cons_append, execAll]
    split at h
    · exact ih h
    · exact absurd h nofun
    · exact absurd h nofun

section Select
variable {s : State}

/-- A report pending makes no step due that was not due without it. -/
theorem State.evaluationDue_withPort (p : Port) (hpending : s.port.pending = none) (h : s.evaluationDue = false) :
    (s.withPort p).evaluationDue = false := by
  have hsame : (s.withPort p).mode = s.mode := rfl
  unfold State.evaluationDue at h ⊢
  rw [hsame]
  split
  · next r hm =>
    have hqueued : (s.queue.any fun e => e.stamps.tag.belongsTo s.roundNumber) = true := by
      simpa only [hm, State.holdsReportOf, hpending, Bool.or_false, Bool.not_eq_false'] using h
    have hholds : (s.withPort p).holdsReportOf s.roundNumber = true :=
      Bool.or_eq_true_iff.mpr (.inl hqueued)
    exact congrArg not hholds
  all_goals rfl

theorem State.nothingDue_withPort (p : Port) (hpending : s.port.pending = none) (h : s.nothingDue = true) :
    (s.withPort p).nothingDue = true := by
  obtain ⟨htimeout, hsettle, hhold, hdwell, hevaluation, hrest⟩ := s.nothingDue_iff.mp h
  exact (s.withPort p).nothingDue_iff.mpr
    ⟨htimeout, hsettle, hhold, hdwell, State.evaluationDue_withPort p hpending hevaluation, hrest⟩

/-- The port when some bits of a word have been received. -/
def portAfter (w : BitVec 64) (s : State) (k : Nat) : Port :=
  { counting := true, count := k, bits := w >>> (64 - k)
    pending := if k = 64 then some { second := s.clock.seconds, tag := s.stepTag } else none }

theorem shiftIn_bit (w : BitVec 64) {k : Nat} (h : k < 64) :
    (w >>> (64 - k)) <<< 1 ||| (if w.getMsbD k then 1#64 else 0#64) = w >>> (64 - (k + 1)) := by
  have hbit (b : Bool) : (if b then 1#64 else 0#64) = (BitVec.ofBool b).setWidth 64 := by
    cases b <;> rfl
  have hmsb : w.getMsbD k = w.getLsbD (64 - (k + 1)) := by
    rw [BitVec.getMsbD_eq_getLsbD, decide_eq_true h, Bool.true_and]
    congr 1
    omega
  rw [hmsb, hbit]
  refine BitVec.eq_of_getLsbD_eq fun i hi => ?_
  rw [BitVec.getLsbD_or, BitVec.getLsbD_shiftLeft, BitVec.getLsbD_ushiftRight, BitVec.getLsbD_ushiftRight,
    BitVec.getLsbD_setWidth, BitVec.getLsbD_ofBool, decide_eq_true hi]
  cases i with
  | zero => simp
  | succ i =>
    have hindex : 64 - k + i = 64 - (k + 1) + (i + 1) := by omega
    have hnotFirst : ¬ i + 1 < 1 := by omega
    simp only [hnotFirst, decide_false, Bool.not_false, Bool.true_and, Nat.add_sub_cancel, hindex, Nat.succ_ne_zero,
      Bool.false_and, Bool.and_false, Bool.or_false]

theorem execAll_bits (w : BitVec 64) (hdue : s.nothingDue = true) (hpending : s.port.pending = none) (k : Nat) (hk : k ≤ 64) :
    execAll (s.withPort (portAfter w s 0)) (((List.range k).map w.getMsbD).map Instr.reportBitReceived) =
      .next (s.withPort (portAfter w s k)) := by
  induction k with
  | zero => rfl
  | succ k ih =>
    have hbit : (s.withPort (portAfter w s k)).receiveBit (w.getMsbD k) = s.withPort (portAfter w s (k + 1)) := by
      rw [State.receiveBit_of_counted _ rfl (Nat.lt_of_succ_le hk)]
      exact congrArg (fun bits => s.withPort { portAfter w s (k + 1) with bits := bits }) (shiftIn_bit w (Nat.lt_of_succ_le hk))
    have hlast : exec (.reportBitReceived (w.getMsbD k)) (s.withPort (portAfter w s k)) =
        .next (s.withPort (portAfter w s (k + 1))) := by
      rw [exec_reportBitReceived (State.nothingDue_withPort _ hpending hdue), hbit]
    rw [List.range_succ, List.map_append, List.map_append, execAll_append (ih (Nat.le_of_succ_le hk))]
    exact execAll_cons hlast []

end Select

/-- Settles O18: after k bits the register holds the first k bits of the word; the 64th takes the stamps. -/
theorem selectOfSixtyFourBitsIsQueued : Obligations.SelectOfSixtyFourBitsIsQueued := by
  unfold Obligations.SelectOfSixtyFourBitsIsQueued
  intro w s hdue hpending hroom
  have hempty : w >>> 64 = 0#64 := BitVec.ushiftRight_eq_zero le_rfl
  have hselect : s.assertSelect = s.withPort (portAfter w s 0) :=
    congrArg (fun bits => s.withPort { counting := true, count := 0, bits := bits, pending := none }) hempty.symm
  have hbits := execAll_bits w hdue hpending 64 le_rfl
  have hwhole : w >>> 0 = w := BitVec.ushiftRight_zero w
  have hreleased : (s.withPort (portAfter w s 64)).releaseSelect =
      (s.withPort Port.initial).offerReport
        { report := readReport w, stamps := { second := s.clock.seconds, tag := s.stepTag } } := by
    rw [State.releaseSelect_of_report rfl rfl rfl]
    exact congrArg (fun v => (s.withPort Port.initial).offerReport
      { report := readReport v, stamps := { second := s.clock.seconds, tag := s.stepTag } }) hwhole
  have harrival : exec .reportArrival (s.withPort (portAfter w s 64)) =
      .next ((s.withPort Port.initial).offerReport
        { report := readReport w, stamps := { second := s.clock.seconds, tag := s.stepTag } }) := by
    rw [exec_reportArrival (State.nothingDue_withPort _ hpending hdue), hreleased]
  rw [List.append_assoc, List.singleton_append, execAll_cons (exec_selectAssertion hdue), hselect, reportBits,
    execAll_append hbits, execAll_cons harrival]
  exact congrArg Host.Outcome.next (State.offerReport_of_room (s := s.withPort Port.initial) _ hroom)

end Machine
end Sys2Proof
end

section
/-! Proofs, family 11, twenty-ninth part: dispatch and the judging of burst reports (O20, O22). -/

namespace Sys2Proof
namespace Machine

/-! ### What a report can touch (R64) -/

/-- The fields that the handling of a report can touch. -/
def Field.reported : List Field := [.table, .flags, .plant, .bands, .waitQueue, .mode]

section Handling
variable (s : State)

theorem State.touches_updateStation (l : Leg) (handle : Nat) (f : Station → Station) :
    s.Touches [.plant] (s.updateStation l handle f) := .of_withPlant s _

theorem State.touches_placeEcho (x : Located) (rate delay level : Nat) (second : Word32) :
    s.Touches Field.reported (s.placeEcho x rate delay level second) := by
  unfold State.placeEcho
  refine .ite (s.touches_updateStation _ _ _).mono ?_
  split
  · exact .refl _ s
  · exact .ite (.refl _ s) (s.touches_observe _).mono

theorem State.touches_markMisplaced (x : Located) (second : Word32) :
    s.Touches Field.reported (s.markMisplaced x second) := by
  unfold State.markMisplaced
  split
  · exact .refl _ s
  · exact (s.touches_updateStation _ _ _).mono.trans (State.Touches.of_raise _ _).mono

theorem State.touches_handleBurst (rate handle delay level : Nat) (isEcho : Bool) (stamps : Stamps) :
    s.Touches Field.reported (s.handleBurst rate handle delay level isEcho stamps) := by
  unfold State.handleBurst
  split
  · exact .refl _ s
  · exact .ite (s.touches_markMisplaced _ _) (.ite (s.touches_placeEcho _ _ _ _ _) (.refl _ s))

theorem State.touches_quietBand (b : Band) (power : Int) (second : Word32) :
    s.Touches Field.reported (s.quietBand b power second) := by
  unfold State.quietBand
  split
  · exact (State.Touches.of_setBand s _ _).mono
  · refine .ite (State.Touches.of_setBand s _ _).mono ?_
    unfold State.detect
    dsimp only
    split
    · exact (State.Touches.of_setBand s _ _).mono.trans (State.touches_feedIngress _ _ _ _ _).mono
    · exact (State.Touches.of_setBand s _ _).mono.trans (State.touches_openIngress _ _ _ _ _).mono

theorem State.touches_dwellBand (b : Band) (power : Int) (tag : StepTag) :
    s.Touches Field.reported (s.dwellBand b power tag) := by
  unfold State.dwellBand
  split
  · exact .refl _ s
  · refine .ite ?_ (.refl _ s)
    split
    case h_1 | h_2 => exact (State.Touches.of_withMode s _).mono
    all_goals exact .refl _ s

theorem State.touches_handleReport (x : QueuedReport) : s.Touches Field.reported (s.handleReport x) := by
  unfold State.handleReport
  split
  · exact .refl _ s
  · exact .ite (s.touches_handleBurst _ _ _ _ _ _) (.refl _ s)
  · split
    · unfold State.handleBand
      split
      · exact s.touches_quietBand _ _ _
      · exact .refl _ s
      · exact s.touches_dwellBand _ _ _
      · exact s.touches_dwellBand _ _ _
    · exact .refl _ s

end Handling

theorem exec_dispatch_of_empty {s : State} (hdue : s.nothingDue = true) (h : s.queue = []) : exec .dispatch s = .next s := by
  show Host.Outcome.next s.caughtUp.dispatchHead = _
  rw [State.caughtUp_of_nothingDue hdue, State.dispatchHead, h]

/-! ### The map's answer for a handle (R38) -/

theorem State.handle_of_locate {s : State} {handle : Nat} {x : Located} (h : s.locate handle = some x) :
    handle ≠ 0 ∧ x.station.handle = handle := by
  unfold State.locate at h
  split at h
  · exact absurd h nofun
  · next hzero =>
    obtain ⟨l, -, hl⟩ := List.exists_of_findSome?_eq_some h
    unfold stationOn at hl
    split at hl
    · exact absurd hl nofun
    · obtain ⟨y, hy, rfl⟩ := Option.map_eq_some_iff.mp hl
      have hfound := List.find?_some hy
      exact ⟨hzero, eq_of_beq hfound⟩

theorem State.locate_of_unmapped {s : State} {handle : Nat}
    (h : handle = 0 ∨ ∀ l y, y ∈ (s.plant.get l).stations → y.handle ≠ handle) : s.locate handle = none := by
  cases hx : s.locate handle with
  | none => rfl
  | some x =>
    obtain ⟨hnonzero, hhandle⟩ := State.handle_of_locate hx
    exact absurd hhandle (h.resolve_left hnonzero x.leg x.station (State.mem_of_locate hx))

/-! ### The checks of a burst report (R65, R66, R88, R90) -/

section Burst
variable {s : State} {x : Located} {rate handle delay level : Nat} {stamps : Stamps}

theorem State.handleReport_burst {q : QueuedReport} (hq : q.report = .burst rate handle delay level) (hrate : rate ≤ 3)
    (hdelay : delay ≤ 383) :
    s.handleReport q =
      s.handleBurst rate handle delay (max 20 level) (classedEcho s.settings.echoFloor delay (max 20 level)) q.stamps := by
  simp only [State.handleReport, hq]
  exact if_pos ⟨hrate, hdelay⟩

theorem State.contradictsMap_iff (l : Leg) (tag : StepTag) (s : State) :
    s.contradictsMap l tag = true ↔ tag = .legDwell l s.roundNumber .isolate ∧ s.round ≠ none := by
  unfold State.contradictsMap
  split
  · simp only [Bool.and_eq_true, beq_iff_eq, Option.isSome_iff_ne_none, StepTag.legDwell.injEq, and_true]
    exact and_right_comm
  · exact iff_of_false Bool.false_ne_true fun h => absurd h.1 (by simp)
  all_goals exact iff_of_false Bool.false_ne_true fun h => absurd h.1 nofun

theorem State.handleBurst_of_contradiction (isEcho : Bool) (hx : s.locate handle = some x)
    (h : s.contradictsMap x.leg stamps.tag = true) :
    s.handleBurst rate handle delay level isEcho stamps = s.markMisplaced x stamps.second := by
  simp only [State.handleBurst, hx, h, if_true]

theorem State.handleBurst_of_echo (hx : s.locate handle = some x) (h : s.contradictsMap x.leg stamps.tag = false) :
    s.handleBurst rate handle delay level true stamps = s.placeEcho x rate delay level stamps.second := by
  simp only [State.handleBurst, hx, h, Bool.false_eq_true, if_false, if_true]

theorem State.handleBurst_of_silence (h : ∀ y, s.locate handle = some y → s.contradictsMap y.leg stamps.tag = false) :
    s.handleBurst rate handle delay level false stamps = s := by
  unfold State.handleBurst
  split
  · rfl
  · next y hy => simp only [h y hy, Bool.false_eq_true, if_false]

theorem classedEcho_of_echo {floor : Nat} (hdelay : 16 ≤ delay) (hlevel : level ≤ floor) : classedEcho floor delay level = true := by
  rw [classedEcho, decide_eq_true hdelay, decide_eq_true hlevel, Bool.and_self]

theorem classedEcho_of_silence {floor : Nat} (h : delay ≤ 15 ∨ floor < level) : classedEcho floor delay level = false := by
  obtain h | h := h
  · rw [classedEcho, decide_eq_false (by omega), Bool.false_and]
  · rw [classedEcho, decide_eq_false (p := level ≤ floor) (by omega), Bool.and_false]

end Burst

theorem Zone.holds_iff {z : Zone} {p : Nat} : z.holds p = true ↔ z.first ≤ p ∧ p ≤ z.last := by
  simp only [Zone.holds, Bool.and_eq_true, decide_eq_true_eq]

/-! ### The position of an echo (R74, R76, R77) -/

section Place
variable {s : State} {x : Located} {rate delay level : Nat} {second : Word32}

theorem State.placeEcho_of_drop (h : echoDistance delay x.vf rate ≤ x.station.drop) :
    s.placeEcho x rate delay level second = s.markDropEcho x second := if_pos h

theorem tapDistance_eq {plant : PerLeg LegMap} {l : Leg} {tap at' : Nat} (h : (plant.get l).taps[tap]? = some at') :
    tapDistance plant l tap = at' := by
  rw [tapDistance, h]

variable {tapAt : Nat} (htap : (s.plant.get x.leg).taps[x.station.tap]? = some tapAt)
  (hdrop : x.station.drop < echoDistance delay x.vf rate)
include htap hdrop

theorem State.placeEcho_of_beyond
    (h : (tapAt : Int) + x.station.drop - echoDistance delay x.vf rate < -(s.settings.matchWindow : Int)) :
    s.placeEcho x rate delay level second = s := by
  have hposition : plantPosition s.settings.matchWindow
      (echoPosition (tapDistance s.plant x.leg x.station.tap) x.station.drop (echoDistance delay x.vf rate)) = none := by
    rw [tapDistance_eq htap]
    exact if_pos h
  simp only [State.placeEcho, if_neg (Nat.not_le.mpr hdrop), hposition]

theorem State.placeEcho_of_placed
    (h : -(s.settings.matchWindow : Int) ≤ (tapAt : Int) + x.station.drop - echoDistance delay x.vf rate) :
    s.placeEcho x rate delay level second =
      if ((s.plant.get x.leg).zone.any fun z =>
          z.holds ((tapAt : Int) + x.station.drop - echoDistance delay x.vf rate).toNat) = true then s
      else s.observe
        { leg := x.leg, position := ((tapAt : Int) + x.station.drop - echoDistance delay x.vf rate).toNat, level := level
          handle := x.station.handle, second := second } := by
  have hposition : plantPosition s.settings.matchWindow
      (echoPosition (tapDistance s.plant x.leg x.station.tap) x.station.drop (echoDistance delay x.vf rate)) =
        some ((tapAt : Int) + x.station.drop - echoDistance delay x.vf rate).toNat := by
    rw [tapDistance_eq htap]
    exact if_neg (not_lt.mpr h)
  cases hzone : (s.plant.get x.leg).zone with
  | none => simp only [State.placeEcho, if_neg (Nat.not_le.mpr hdrop), hposition, hzone, Option.any_none]
  | some z => simp only [State.placeEcho, if_neg (Nat.not_le.mpr hdrop), hposition, hzone, Option.any_some]

end Place

/-- Settles O20: each of the reports without effect fails a check before it is handed over, or is handed over in vain. -/
theorem dispatchTakesTheHead : Obligations.DispatchTakesTheHead := by
  unfold Obligations.DispatchTakesTheHead
  refine ⟨fun s hdue => ⟨exec_dispatch_of_empty hdue, fun x rest hq => ?head⟩, fun s x rest hdue hq => ?vain⟩
  case head =>
    have htouches := (s.popped rest).touches_handleReport x
    exact ⟨_, exec_dispatch_of_queue hdue hq, htouches .queue (by decide), htouches .hold (by decide), htouches .clock (by decide),
      htouches .settings (by decide), htouches .safety (by decide), htouches .safetyLock (by decide),
      htouches .switches (by decide), htouches .lockout (by decide), htouches .port (by decide), htouches .link (by decide),
      htouches .staging (by decide), htouches .roundNumber (by decide), htouches .mask (by decide), htouches .resetLine (by decide)⟩
  case vain =>
    rw [exec_dispatch_of_queue hdue hq]
    refine ⟨fun kind hx => ?other, fun rate handle delay level hx hbad => ?malformed, fun band power hx hbad => ?band,
      fun rate handle delay level hx hunmapped => ?unmapped, fun rate handle delay level hx hsilent htag => ?silent,
      fun band power hx htag => ?settle⟩ <;> refine congrArg Host.Outcome.next ?_
    case other => simp only [State.handleReport, hx]
    case malformed =>
      simp only [State.handleReport, hx]
      exact if_neg (by omega)
    case band =>
      simp only [State.handleReport, hx]
      exact dif_neg (by omega)
    case unmapped =>
      have hnone : (s.popped rest).locate handle = none := State.locate_of_unmapped (s := s.popped rest) hunmapped
      simp only [State.handleReport, hx, State.handleBurst, hnone, ite_self]
    case silent =>
      have hclass : classedEcho (s.popped rest).settings.echoFloor delay (clampLevel level) = false := classedEcho_of_silence hsilent
      have hburst := State.handleBurst_of_silence (s := s.popped rest) (rate := rate) (handle := handle) (delay := delay)
        (level := clampLevel level) (stamps := x.stamps) fun y _ =>
          Bool.eq_false_iff.mpr fun hc => htag _ _ ((State.contradictsMap_iff _ _ _).mp hc).1
      simp only [State.handleReport, hx, hclass, hburst, ite_self]
    case settle =>
      simp only [State.handleReport, hx, State.handleBand, htag, dite_eq_ite, ite_self]

/-- Settles O22: the map's contradiction first, then the drop, the node and the work zone. -/
theorem echoReportsAreJudgedInOrder : Obligations.EchoReportsAreJudgedInOrder := by
  unfold Obligations.EchoReportsAreJudgedInOrder
  intro s x rest rate handle delay level y tapAt hdue hq hx hrate hdelay hy htap
  have hlocate : (s.popped rest).locate handle = some y := hy
  rw [exec_dispatch_of_queue hdue hq, State.handleReport_burst hx hrate hdelay]
  refine ⟨fun htag hround => congrArg Host.Outcome.next ?misplaced, fun hnot hecho hfloor => ?echo⟩
  case misplaced =>
    have hcontradicts : (s.popped rest).contradictsMap y.leg x.stamps.tag = true :=
      (State.contradictsMap_iff _ _ _).mpr ⟨htag, hround⟩
    rw [State.handleBurst_of_contradiction _ hlocate hcontradicts]
    unfold State.markMisplaced
    cases hmark : y.station.misplaced with
    | some _ => exact (if_neg nofun).symm
    | none => exact (if_pos rfl).symm
  case echo =>
    have hagrees : (s.popped rest).contradictsMap y.leg x.stamps.tag = false := by
      refine Bool.eq_false_iff.mpr fun hc => ?_
      obtain ⟨htag, hround⟩ := (State.contradictsMap_iff _ _ _).mp hc
      exact hnot.elim (fun hne => hne htag) hround
    have hclass : classedEcho (s.popped rest).settings.echoFloor delay (max 20 level) = true := classedEcho_of_echo hecho hfloor
    have htap' : ((s.popped rest).plant.get y.leg).taps[y.station.tap]? = some tapAt := htap
    rw [hclass, State.handleBurst_of_echo hlocate hagrees]
    refine ⟨fun hdrop => ?_, fun hdrop hbeyond => ?_, fun hdrop hplaced => ⟨fun z hz hfirst hlast => ?_, fun hout => ?_⟩⟩ <;>
      refine congrArg Host.Outcome.next ?_
    · exact State.placeEcho_of_drop hdrop
    · exact State.placeEcho_of_beyond htap' hdrop hbeyond
    · rw [State.placeEcho_of_placed htap' hdrop hplaced]
      refine if_pos ?_
      have hzone : ((s.popped rest).plant.get y.leg).zone = some z := hz
      rw [hzone]
      exact Zone.holds_iff.mpr ⟨hfirst, hlast⟩
    · rw [State.placeEcho_of_placed htap' hdrop hplaced]
      refine if_neg ?_
      cases hzone : ((s.popped rest).plant.get y.leg).zone with
      | none => exact Bool.false_ne_true
      | some z =>
        intro hholds
        obtain ⟨hfirst, hlast⟩ := Zone.holds_iff.mp hholds
        have := hout z hzone
        omega

end Machine
end Sys2Proof
end

section
/-! Proofs, family 11, thirtieth part: the opening of an ingress record (O29). -/

namespace Sys2Proof
namespace Machine

/-! ### A detection on a band without an ingress record (R108, R110, R111) -/

section Opening
variable {s : State} {b : Band}

theorem State.ingressSlot_eq_none (h : ∀ n r, s.record n = some r → r.ingressOf b = false) : s.ingressSlot b = none := by
  rw [State.ingressSlot, Option.map_eq_none_iff, List.find?_eq_none]
  intro p hp
  rw [h p.1 p.2 (State.mem_records.mp hp)]
  exact Bool.false_ne_true

theorem State.detect_of_none (excess : Nat) (second : Word32) (h : s.ingressSlot b = none) :
    s.detect b excess second =
      (s.setBand b { baseline := (s.band b).baseline, streak := min 8 ((s.band b).streak + 1) }).openIngress b excess
        (min 8 ((s.band b).streak + 1)) second := by
  simp only [State.detect, h]

theorem State.openIngress_of_short {streak : Nat} (excess : Nat) (second : Word32) (h : streak < s.settings.ingressStreak) :
    s.openIngress b excess streak second = s := if_neg (Nat.not_le.mpr h)

theorem State.openIngress_of_full {streak : Nat} (excess : Nat) (second : Word32) (h : s.settings.ingressStreak ≤ streak)
    (hfull : s.allocationSlot = none) : s.openIngress b excess streak second = s.raise flagTableFull := by
  simp only [State.openIngress, if_pos h, hfull]

theorem State.openIngress_of_taken {streak : Nat} {n : SlotNo} (excess : Nat) (second : Word32)
    (h : s.settings.ingressStreak ≤ streak) (hn : s.allocationSlot = some n) :
    s.openIngress b excess streak second =
      (s.allocateAt n (newIngress s.settings b excess second)).joinQueue n second := by
  simp only [State.openIngress, if_pos h, hn]

end Opening

/-- Settles O29: the slot is the one that the allocation takes, and the new record joins the wait queue. -/
theorem detectionOpensAnIngressRecord : Obligations.DetectionOpensAnIngressRecord := by
  unfold Obligations.DetectionOpensAnIngressRecord
  intro s b power second rest base hdue hq hbase hnone excess streak counted hexcess
  have hexec : exec .dispatch s = .next (counted.openIngress b excess.toNat streak second) := by
    have hslot : (s.popped rest).ingressSlot b = none := State.ingressSlot_eq_none (s := s.popped rest) hnone
    rw [exec_dispatch_of_band hdue hq, State.handleBand_quiet, State.quietBand_of_detecting (s := s.popped rest) hbase hexcess,
      State.detect_of_none _ _ hslot, show ((s.popped rest).band b).baseline = some base from hbase]
    rfl
  rw [hexec]
  refine ⟨fun hshort => ?_, fun hstreak n htakes => ?_, fun hstreak hfull hevict => ?_⟩ <;> refine congrArg Host.Outcome.next ?_
  · exact State.openIngress_of_short (s := counted) _ _ hshort
  · rw [State.openIngress_of_taken (s := counted) _ _ hstreak (State.allocationSlot_eq_some (s := counted) htakes),
      State.allocateAt, State.joinQueue_setSlot, State.startTestIfIdle_eq]
    rfl
  · exact State.openIngress_of_full (s := counted) _ _ hstreak (State.allocationSlot_eq_none (s := counted) hfull hevict)

end Machine
end Sys2Proof
end

section
/-! Proofs, family 11, thirty-first part: the Service Link's lines, alignment and reception (O32, O33, O34). -/

namespace Sys2Proof
namespace Machine

/-! ### The transmit line (R181) -/

theorem length_characterBits (b : Byte) : (characterBits b).length = 10 := rfl

/-- Lists of one length put end to end: the place `n * k + j` is the place `j` of the list `k`. -/
theorem getElem?_flatMap_block {α β : Type} {f : α → List β} {n : Nat} (hlength : ∀ a, (f a).length = n) (l : List α) {k j : Nat}
    {a : α} (ha : l[k]? = some a) (hj : j < n) : (l.flatMap f)[n * k + j]? = (f a)[j]? := by
  induction l generalizing k with
  | nil => exact absurd ha nofun
  | cons x xs ih =>
    rw [List.flatMap_cons]
    cases k with
    | zero =>
      obtain rfl : x = a := Option.some.inj ha
      rw [Nat.mul_zero, Nat.zero_add, List.getElem?_append_left (by rw [hlength]; exact hj)]
    | succ k =>
      have hplace : n * (k + 1) + j = n + (n * k + j) := by rw [Nat.mul_succ]; omega
      rw [hplace, List.getElem?_append_right (by rw [hlength]; omega), hlength, Nat.add_sub_cancel_left]
      exact ih ha

theorem length_flatMap_block {α β : Type} {f : α → List β} {n : Nat} (hlength : ∀ a, (f a).length = n) (l : List α) :
    (l.flatMap f).length = n * l.length := by
  induction l with
  | nil => rfl
  | cons x xs ih => rw [List.flatMap_cons, List.length_append, ih, hlength, List.length_cons, Nat.mul_succ, Nat.add_comm]

theorem State.transmitLine_of_rest {s : State} {k : Nat} (h : 10 * s.sending.length ≤ k) : s.transmitLine k = true := by
  rw [State.transmitLine, List.getElem?_eq_none (by rw [length_flatMap_block length_characterBits]; exact h)]
  rfl

theorem State.transmitLine_of_character {s : State} {k j : Nat} {b : Byte} (hb : s.sending[k]? = some b) (hj : j < 10) :
    (characterBits b)[j]? = some (s.transmitLine (10 * k + j)) := by
  have hbit : (characterBits b)[j]? = some (characterBits b)[j] := List.getElem?_eq_getElem (h := hj)
  rw [State.transmitLine, getElem?_flatMap_block length_characterBits _ hb hj, hbit]
  rfl

/-! ### The rate of a low run (R182) -/

theorem mem_allRates (r : Rate) : r ∈ allRates := by cases r <;> decide

theorem withinFourPercent_iff (m : Nat) (r : Rate) :
    withinFourPercent m r = true ↔ ((m : Int) - r.bitsPerSecond).natAbs * 100 ≤ 4 * r.bitsPerSecond := by
  have hapart : apart m r.bitsPerSecond = ((m : Int) - r.bitsPerSecond).natAbs := by
    unfold apart
    omega
  rw [withinFourPercent, decide_eq_true_iff, hapart]

/-- Two of the rates lie too far apart for one measured rate to be within 4 % of both. -/
theorem rate_eq_of_within {m : Nat} {r q : Rate} (hr : withinFourPercent m r = true) (hq : withinFourPercent m q = true) : r = q := by
  have hapart : ∀ r ∈ allRates, ∀ q ∈ allRates,
      r = q ∨ 3 * r.bitsPerSecond ≤ 2 * q.bitsPerSecond ∨ 3 * q.bitsPerSecond ≤ 2 * r.bitsPerSecond := by decide
  have hpositive : ∀ r ∈ allRates, 0 < r.bitsPerSecond := by decide
  have hpos := hpositive r (mem_allRates r)
  have hpos' := hpositive q (mem_allRates q)
  rw [withinFourPercent_iff] at hr hq
  obtain h | h | h := hapart r (mem_allRates r) q (mem_allRates q)
  · exact h
  · omega
  · omega

theorem rateOfRun_iff (periods : Nat) (r : Rate) :
    rateOfRun periods = some r ↔ withinFourPercent (measuredRate periods) r = true := by
  refine ⟨fun h => List.find?_some (p := withinFourPercent (measuredRate periods)) h, fun h => ?_⟩
  cases hfound : rateOfRun periods with
  | none => exact absurd h (List.find?_eq_none.mp hfound r (mem_allRates r))
  | some q =>
    have hq := List.find?_some (p := withinFourPercent (measuredRate periods)) hfound
    rw [rate_eq_of_within hq h]

/-! ### The link's commands -/

section Commands
variable {s : State} (hdue : s.nothingDue = true)
include hdue

theorem exec_alignRun_of_rate {periods : Nat} {r : Rate} (hphase : s.link.phase = .measuring) (hline : s.resetLine = false)
    (hrate : rateOfRun periods = some r) : exec (.alignRun periods) s = .next (s.withLink { s.link with phase := .rateTaken r }) := by
  show execAlignRun periods s = _
  unfold execAlignRun
  simp only [State.caughtUp_of_nothingDue hdue, hphase, hline, hrate]
  rfl

theorem exec_alignRun_of_other {periods : Nat}
    (h : s.link.phase ≠ .measuring ∨ s.resetLine = true ∨ rateOfRun periods = none) : exec (.alignRun periods) s = .next s := by
  show execAlignRun periods s = _
  unfold execAlignRun
  simp only [State.caughtUp_of_nothingDue hdue]
  split
  · next hphase hline hrate =>
    obtain h | h | h := h
    · exact absurd hphase h
    · exact absurd (hline.symm.trans h) nofun
    · exact absurd (hrate.symm.trans h) nofun
  · rfl

theorem exec_alignIdleElapsed_of_taken {r : Rate} (hphase : s.link.phase = .rateTaken r) :
    exec .alignIdleElapsed s = .next (s.withLink { s.link with phase := .sendingAlign r }) := by
  show execAlignIdleElapsed s = _
  unfold execAlignIdleElapsed
  simp only [State.caughtUp_of_nothingDue hdue, hphase]
  rfl

theorem exec_alignIdleElapsed_of_other (h : ∀ r, s.link.phase ≠ .rateTaken r) : exec .alignIdleElapsed s = .next s := by
  show execAlignIdleElapsed s = _
  unfold execAlignIdleElapsed
  simp only [State.caughtUp_of_nothingDue hdue]
  split
  · next r hphase => exact absurd hphase (h r)
  all_goals rfl

theorem exec_alignComplete_of_sending {r : Rate} (hphase : s.link.phase = .sendingAlign r) :
    exec .alignComplete s = .next (s.withLink { s.link with phase := .ready r }) := by
  show execAlignComplete s = _
  unfold execAlignComplete
  simp only [State.caughtUp_of_nothingDue hdue, hphase]
  rfl

theorem exec_alignComplete_of_other (h : ∀ r, s.link.phase ≠ .sendingAlign r) : exec .alignComplete s = .next s := by
  show execAlignComplete s = _
  unfold execAlignComplete
  simp only [State.caughtUp_of_nothingDue hdue]
  split
  · next r hphase => exact absurd hphase (h r)
  all_goals rfl

theorem exec_lineBreak_of_ready {r : Rate} (hphase : s.link.phase = .ready r)
    (hreply : ∀ reply, s.link.reply = some reply → reply.restart = false) :
    exec .lineBreak s = .next (s.withLink Link.initial) := by
  show execLineBreak s = _
  unfold execLineBreak
  simp only [State.caughtUp_of_nothingDue hdue, hphase]
  cases h : s.link.reply with
  | none => rfl
  | some reply => simp only [State.endReply, hreply reply h, Bool.false_eq_true, if_false]

theorem exec_lineBreak_of_other (h : ∀ r, s.link.phase ≠ .ready r) : exec .lineBreak s = .next s := by
  show execLineBreak s = _
  unfold execLineBreak
  simp only [State.caughtUp_of_nothingDue hdue]
  split
  · next r hphase => exact absurd hphase (h r)
  all_goals rfl

theorem exec_framingError : exec .framingError s = .next s.dropFrame := by
  show execFramingError s = _
  unfold execFramingError
  simp only [State.caughtUp_of_nothingDue hdue]

theorem exec_frameDiscard : exec .frameDiscard s = .next s.dropFrame := by
  show execFrameDiscard s = _
  unfold execFrameDiscard
  simp only [State.caughtUp_of_nothingDue hdue]

end Commands

/-- Settles O32: the line by characters of ten bits, the rates that lie apart, and one command after another. -/
theorem linkAligns : Obligations.LinkAligns := by
  unfold Obligations.LinkAligns
  refine ⟨fun b => rfl, fun s => ⟨fun r hphase => ?_, fun r reply hphase hreply => ?_, fun r hphase hreply => ?_, fun r hphase => ?_,
    fun k => State.transmitLine_of_rest, fun k b j => State.transmitLine_of_character⟩, fun periods r => ?_, fun s hdue =>
    ⟨fun periods r => exec_alignRun_of_rate hdue, fun periods => exec_alignRun_of_other hdue,
      fun r => exec_alignIdleElapsed_of_taken hdue, exec_alignIdleElapsed_of_other hdue, fun r => exec_alignComplete_of_sending hdue,
      exec_alignComplete_of_other hdue⟩⟩
  · simp only [State.sending, hphase]
    rfl
  · simp only [State.sending, hphase, hreply]
  · simp only [State.sending, hphase, hreply]
  · obtain hphase | hphase := hphase <;> simp only [State.sending, hphase]
  · rw [rateOfRun_iff, withinFourPercent_iff]
    rfl

theorem State.timeoutDue_iff_of_frame {s : State} {f : Frame} {r : Rate} (hphase : s.link.phase = .ready r)
    (hframe : s.link.frame = some f) : s.timeoutDue = true ↔ r.gapLimit + 1 ≤ f.gap := by
  simp only [State.timeoutDue, hphase, hframe, decide_eq_true_eq]

/-- Settles O33: what each of them drops, and the limit of the gap between two bytes at each rate. -/
theorem breaksErrorsAndTimeoutsDropTheFrame : Obligations.BreaksErrorsAndTimeoutsDropTheFrame := by
  unfold Obligations.BreaksErrorsAndTimeoutsDropTheFrame
  refine ⟨fun s hdue => ⟨fun hready hreply => ?_, State.transmitLine_of_initial rfl, exec_lineBreak_of_other hdue,
    exec_framingError hdue, exec_frameDiscard hdue⟩, fun s f r hphase hframe => ?_⟩
  · obtain ⟨r, hphase⟩ := hready
    exact exec_lineBreak_of_ready hdue hphase hreply
  · intro k
    have hk : k = r.gapLimit := by cases r <;> rfl
    have hdue := State.timeoutDue_iff_of_frame hphase hframe
    rw [hk]
    refine ⟨fun hlate => congrArg Host.Outcome.next (if_pos (hdue.mpr hlate)), fun hsoon => congrArg Host.Outcome.next (if_neg ?_)⟩
    rw [hdue]
    exact Nat.not_le.mpr (Nat.lt_succ_of_le hsoon)

/-! ### A received byte (R184, R187) -/

theorem exec_receivedByte_of_dropped {s : State} {b : Byte} (hdue : s.nothingDue = true) (h : s.receives = false) :
    exec (.receivedByte b) s = .next s := by
  show execReceivedByte b s = _
  unfold execReceivedByte
  simp only [State.caughtUp_of_nothingDue hdue, h, Bool.false_eq_true, if_false]

theorem exec_receivedByte_of_taken {s : State} {b : Byte} (hdue : s.nothingDue = true) (h : s.receives = true) :
    exec (.receivedByte b) s = .next (s.takeByte b) := by
  show execReceivedByte b s = _
  unfold execReceivedByte
  simp only [State.caughtUp_of_nothingDue hdue, h, if_true]

theorem lenAccepted_iff (len : Byte) : lenAccepted len = true ↔ 2 ≤ len.toNat ∧ len.toNat ≤ 250 := by
  simp only [lenAccepted, Bool.and_eq_true, decide_eq_true_eq]

section TakeByte
variable {s : State} {b : Byte}

theorem State.takeByte_of_hunting (h : s.link.frame = none) :
    s.takeByte b = if b = requestSync then s.withLink { s.link with frame := some { bytes := [], gap := 0 } } else s := by
  simp only [State.takeByte, h]

variable {f : Frame} (h : s.link.frame = some f)
include h

theorem State.takeByte_of_badLen (hlen : lenAccepted ((f.bytes ++ [b]).headD 0) = false) : s.takeByte b = s.dropFrame := by
  simp only [State.takeByte, h, hlen, if_true]

theorem State.takeByte_of_goodLen (hlen : lenAccepted ((f.bytes ++ [b]).headD 0) = true) :
    s.takeByte b =
      if (f.bytes ++ [b]).length = frameLength ((f.bytes ++ [b]).headD 0) then s.judgeFrame (f.bytes ++ [b])
      else s.withLink { s.link with frame := some { bytes := f.bytes ++ [b], gap := 0 } } := by
  simp only [State.takeByte, h, hlen, Bool.true_eq_false, if_false]

end TakeByte

theorem State.judgeFrame_of_bad {s : State} {bytes : List Byte} (h : crcMatches bytes = false) : s.judgeFrame bytes = s.dropFrame := by
  simp only [State.judgeFrame, h, Bool.false_eq_true, if_false]

/-- Settles O34: the hunt, LEN, the gathered bytes, and the CRC of a complete frame. -/
theorem bytesAreTakenByTheHunt : Obligations.BytesAreTakenByTheHunt := by
  unfold Obligations.BytesAreTakenByTheHunt
  refine fun s b hdue => ⟨exec_receivedByte_of_dropped hdue, fun hreceives => ?_⟩
  rw [exec_receivedByte_of_taken hdue hreceives]
  refine ⟨fun hnone => ⟨fun hsync => ?_, fun hsync => ?_⟩, fun f hframe hempty => ⟨fun hbad => ?_, fun hlow hhigh => ?_⟩,
    fun f len rest hframe hbytes hlow hhigh => ?_⟩
  · rw [State.takeByte_of_hunting hnone]
    exact congrArg Host.Outcome.next (if_pos hsync)
  · rw [State.takeByte_of_hunting hnone]
    exact congrArg Host.Outcome.next (if_neg hsync)
  · have hlen : lenAccepted ((f.bytes ++ [b]).headD 0) = false := by
      rw [hempty]
      exact Bool.eq_false_iff.mpr fun hc => absurd ((lenAccepted_iff b).mp hc) (by omega)
    rw [State.takeByte_of_badLen hframe hlen]
    rfl
  · have hlen : lenAccepted ((f.bytes ++ [b]).headD 0) = true := by
      rw [hempty]
      exact (lenAccepted_iff b).mpr ⟨hlow, hhigh⟩
    rw [State.takeByte_of_goodLen hframe hlen, hempty]
    exact congrArg Host.Outcome.next (if_neg (c := 1 = b.toNat + 3) (by omega))
  · have hhead : (f.bytes ++ [b]).headD 0 = len := by
      rw [hbytes]
      rfl
    have hlen : lenAccepted ((f.bytes ++ [b]).headD 0) = true := by
      rw [hhead]
      exact (lenAccepted_iff len).mpr ⟨hlow, hhigh⟩
    have hlength : (f.bytes ++ [b]).length = f.bytes.length + 1 := List.length_append
    rw [State.takeByte_of_goodLen hframe hlen, hhead, hlength, frameLength]
    refine ⟨fun hmore => ?_, fun hlast hcrc => ?_⟩
    · rw [if_neg (by omega)]
    · have hprefix : (f.bytes ++ [b]).take (len.toNat + 1) = f.bytes.take (len.toNat + 1) := List.take_append_of_le_length (by omega)
      have hbad : crcMatches (f.bytes ++ [b]) = false := by
        rw [crcMatches, hlength, show f.bytes.length + 1 - 2 = len.toNat + 1 by omega, hprefix]
        exact beq_eq_false_iff_ne.mpr hcrc
      rw [if_pos (by omega), State.judgeFrame_of_bad hbad]
      rfl

end Machine
end Sys2Proof
end

section
/-! Proofs, family 11, thirty-second part: the frames of requests (O35). -/

namespace Sys2Proof
namespace Machine

/-! ### Codes and commands (R186) -/

/-- A good frame's command stands for that frame's body. -/
theorem requestBody_decodeRequest (code tag : Byte) (args : List Byte) :
    requestBody (decodeRequest code tag args) = some (code :: tag :: args) := by
  unfold decodeRequest
  split
  case h_40 => rfl
  all_goals
    rename_i hcode
    exact congrArg (fun c => some (c :: tag :: args)) (BitVec.eq_of_toNat_eq hcode).symm

theorem decodeRequest_of_unnamed {code : Byte} (h : namesRequest code = false) (tag : Byte) (args : List Byte) :
    decodeRequest code tag args = .unknownRequest code tag args := by
  have hunknown : decodeRequest code 0 [] = .unknownRequest code 0 [] := bne_eq_false_iff_eq.mp h
  unfold decodeRequest
  split
  case h_40 => rfl
  all_goals
    rename_i hcode
    simp only [decodeRequest, hcode, reduceCtorEq] at hunknown

/-- A command for an unknown code is made of a code that names no request. -/
theorem unnamed_of_decodeRequest {code tag : Byte} {args : List Byte} {code' tag' : Byte} {args' : List Byte}
    (h : decodeRequest code tag args = .unknownRequest code' tag' args') : namesRequest code' = false := by
  unfold decodeRequest at h
  split at h
  case h_40 =>
    obtain ⟨rfl, rfl, rfl⟩ := Instr.unknownRequest.inj h
    simp only [namesRequest, decodeRequest, *]
    exact bne_self_eq_false _
  all_goals exact absurd h nofun

/-- The body of a request's frame is its code, its tag and its arguments, and the frame's bytes make the command again. -/
theorem requestBody_cases {i : Instr} {body : List Byte} (h : requestBody i = some body) (hi : i.wellFormed = true) :
    ∃ code tag, body = code :: tag :: i.arguments ∧ decodeRequest code tag i.arguments = i := by
  cases i with
  | powerOnReset | lineReset | resetRelease | millisecondTick | secondTick | agingTick | windowStart | settleExpiry | dwellExpiry
  | holdExhausted | reportArrival | dispatch | roundStart | roundEvaluation | alignRun | alignIdleElapsed | alignComplete
  | lineBreak | framingError | frameTimeout | frameDiscard | replySent | receivedByte | selectAssertion | reportBitReceived =>
    exact absurd h nofun
  | unknownRequest code tag args =>
    obtain rfl := Option.some.inj h
    have hunnamed : namesRequest code = false := by
      simp only [Instr.wellFormed, Bool.and_eq_true, Bool.not_eq_true'] at hi
      exact hi.2
    exact ⟨code, tag, rfl, decodeRequest_of_unnamed hunnamed tag args⟩
  | _ =>
    obtain rfl := Option.some.inj h
    exact ⟨_, _, rfl, rfl⟩

theorem arguments_decodeRequest (code tag : Byte) (args : List Byte) : (decodeRequest code tag args).arguments = args := by
  rw [Instr.arguments, requestBody_decodeRequest]
  rfl

theorem length_arguments_le {i : Instr} (h : i.wellFormed = true) : i.arguments.length ≤ 248 := by
  simp only [Instr.wellFormed, argumentsFit, Bool.and_eq_true, decide_eq_true_eq] at h
  exact h.1

theorem wellFormed_decodeRequest {code tag : Byte} {args : List Byte} (h : args.length ≤ 248) :
    (decodeRequest code tag args).wellFormed = true := by
  have hfit : argumentsFit (decodeRequest code tag args).arguments = true := by
    rw [arguments_decodeRequest]
    exact decide_eq_true h
  unfold Instr.wellFormed
  rw [hfit, Bool.true_and]
  split
  · next hunknown =>
    rw [unnamed_of_decodeRequest hunknown]
    rfl
  · next periods halign =>
    have hbody := requestBody_decodeRequest code tag args
    rw [halign] at hbody
    exact absurd hbody nofun
  · rfl

/-! ### Frames (R184, R195) -/

theorem length_crcBytes (bs : List Byte) : (crcBytes bs).length = 2 := rfl

/-- A frame after its sync: the counted bytes and their CRC. -/
theorem take_counted (counted : List Byte) :
    (counted ++ crcBytes counted).take ((counted ++ crcBytes counted).length - 2) = counted := by
  rw [List.length_append, length_crcBytes, Nat.add_sub_cancel, List.take_left]

theorem crcMatches_counted (counted : List Byte) : crcMatches (counted ++ crcBytes counted) = true := by
  rw [crcMatches, take_counted, List.length_append, length_crcBytes, Nat.add_sub_cancel, List.drop_left]
  exact beq_self_eq_true _

theorem eq_of_crcMatches {bytes : List Byte} (h : crcMatches bytes = true) :
    bytes = bytes.take (bytes.length - 2) ++ crcBytes (bytes.take (bytes.length - 2)) := by
  rw [← eq_of_beq h, List.take_append_drop]

/-- The bytes after the sync are a frame of a body with 2 to 250 bytes. -/
theorem decodeRequestFrame_framed {body : List Byte} (hlow : 2 ≤ body.length) (hhigh : body.length ≤ 250) :
    decodeRequestFrame (requestSync :: framed body) = decodeFrameBody (framed body) := by
  have hcounted : framed body = byteOf body.length :: (body ++ crcBytes (byteOf body.length :: body)) := rfl
  have hlen : (byteOf body.length).toNat = body.length := toNat_byteOf (by omega)
  have hlength : (body ++ crcBytes (byteOf body.length :: body)).length + 1 = frameLength (byteOf body.length) := by
    rw [List.length_append, length_crcBytes, frameLength, hlen]
  rw [hcounted]
  exact if_pos ⟨rfl, (lenAccepted_iff _).mpr ⟨by rwa [hlen], by rwa [hlen]⟩, hlength,
    crcMatches_counted (byteOf body.length :: body)⟩

theorem decodeFrameBody_framed (code tag : Byte) (args : List Byte) :
    decodeFrameBody (framed (code :: tag :: args)) = some (decodeRequest code tag args) := by
  have htake := take_counted (byteOf (code :: tag :: args).length :: code :: tag :: args)
  rw [decodeFrameBody, framed, htake]

theorem decodeRequestFrame_cases {frame : List Byte} {i : Instr} (h : decodeRequestFrame frame = some i) :
    ∃ len rest, frame = requestSync :: len :: rest ∧ lenAccepted len = true ∧ rest.length + 1 = frameLength len ∧
      crcMatches (len :: rest) = true ∧ decodeFrameBody (len :: rest) = some i := by
  unfold decodeRequestFrame at h
  split at h
  · next sync len rest =>
    split at h
    · next hgood =>
      obtain ⟨rfl, hlen, hlength, hcrc⟩ := hgood
      exact ⟨len, rest, rfl, hlen, hlength, hcrc, h⟩
    · exact absurd h nofun
  · exact absurd h nofun

/-- A good frame's bytes after the sync are the frame of its command's body. -/
theorem decodeFrameBody_cases {len : Byte} {rest : List Byte} {i : Instr} (hlength : rest.length + 1 = frameLength len)
    (hcrc : crcMatches (len :: rest) = true) (h : decodeFrameBody (len :: rest) = some i) :
    ∃ code tag args, i = decodeRequest code tag args ∧ args.length + 2 = len.toNat ∧
      len :: rest = framed (code :: tag :: args) := by
  have hbytes := eq_of_crcMatches hcrc
  have hcount : ((len :: rest).take ((len :: rest).length - 2)).length = len.toNat + 1 := by
    rw [List.length_take, List.length_cons, hlength, frameLength]
    omega
  unfold decodeFrameBody at h
  split at h
  · next first code tag args htake =>
    rw [htake] at hbytes hcount
    obtain rfl : len = first := (List.cons.inj hbytes).1
    have hargs : args.length + 2 = len.toNat := by simpa using hcount
    have hlen : byteOf (code :: tag :: args).length = len := by
      refine BitVec.eq_of_toNat_eq ?_
      have := len.isLt
      rw [List.length_cons, List.length_cons, toNat_byteOf (by omega), hargs]
    refine ⟨code, tag, args, (Option.some.inj h).symm, hargs, ?_⟩
    rw [framed, hlen]
    exact hbytes
  · exact absurd h nofun

theorem encodeRequest_decodeRequest (code tag : Byte) (args : List Byte) :
    encodeRequest (decodeRequest code tag args) = some (requestSync :: framed (code :: tag :: args)) := by
  rw [encodeRequest, requestBody_decodeRequest, Option.map_some]

/-- A well-formed request's frame, by the code, the tag and the arguments that make the request. -/
theorem encodeRequest_cases {i : Instr} {frame : List Byte} (h : encodeRequest i = some frame) (hi : i.wellFormed = true) :
    ∃ code tag, frame = requestSync :: framed (code :: tag :: i.arguments) ∧ decodeRequest code tag i.arguments = i := by
  obtain ⟨body, hbody, rfl⟩ := Option.map_eq_some_iff.mp h
  obtain ⟨code, tag, rfl, hdecode⟩ := requestBody_cases hbody hi
  exact ⟨code, tag, rfl, hdecode⟩

/-- Settles O35: LEN, the CRC and the code say what the frame's body was, and the body what the request was. -/
theorem requestFramesDecode : Obligations.RequestFramesDecode := by
  unfold Obligations.RequestFramesDecode
  refine ⟨fun i frame hi hframe => ?_, fun frame i hframe => ?_⟩
  · obtain ⟨code, tag, rfl, hdecode⟩ := encodeRequest_cases hframe hi
    have hlength := length_arguments_le hi
    have hbody : (code :: tag :: i.arguments).length = i.arguments.length + 2 := rfl
    rw [decodeRequestFrame_framed (by omega) (by omega), decodeFrameBody_framed, hdecode]
  · obtain ⟨len, rest, rfl, hlen, hlength, hcrc, hbody⟩ := decodeRequestFrame_cases hframe
    obtain ⟨code, tag, args, rfl, hargs, hframed⟩ := decodeFrameBody_cases hlength hcrc hbody
    have hshort := ((lenAccepted_iff len).mp hlen).2
    rw [encodeRequest_decodeRequest, hframed]
    exact ⟨rfl, wellFormed_decodeRequest (by omega)⟩

end Machine
end Sys2Proof
end

section
/-! Proofs, family 11, thirty-third part: power-on, and the requests for the settings (O53, O40). -/

namespace Sys2Proof
namespace Machine

/-- Settles O53: the state after power-on is one state, and soundness is a test of it. -/
theorem resetIsSound : Obligations.ResetIsSound := by
  unfold Obligations.ResetIsSound
  decide +kernel

/-! ### The settings block (R13, R72, R117, R122, R195) -/

/-- What 17 bytes store, by the place of each byte. -/
def storedSettings (args : List Byte) : Settings :=
  { echoFloor := clamp 20 120 (args.getD 0 0).toNat
    matchWindow := clamp 10 200 (args.getD 1 0).toNat
    confirmStations := clamp 1 8 (args.getD 2 0).toNat
    scoreAdd := clamp 1 50 (args.getD 3 0).toNat
    agingStep := clamp 1 10 (args.getD 4 0).toNat
    agingCode := clamp 0 3 (args.getD 5 0).toNat
    retention := clamp 0 255 (args.getD 6 0).toNat
    ingressExcess := clamp 16 120 (args.getD 7 0).toNat
    ingressStreak := clamp 1 8 (args.getD 8 0).toNat
    probeDepth := if (args.getD 9 0).toNat = 0 then .atten else .isolate
    dropHigh := clamp 4 80 (args.getD 10 0).toNat
    dropLow :=
      if clamp 0 40 (args.getD 11 0).toNat < clamp 4 80 (args.getD 10 0).toNat then clamp 0 40 (args.getD 11 0).toNat
      else clamp 4 80 (args.getD 10 0).toNat - 1
    dwell := clamp 19 999 (nat2 (args.getD 12 0) (args.getD 13 0))
    guard := clamp 1 49 (args.getD 14 0).toNat
    maxAttempts := clamp 1 32 (args.getD 15 0).toNat
    minSamples := clamp 1 16 (args.getD 16 0).toNat }

theorem readSettings_eq {args : List Byte} (h : args.length = 17) : readSettings args = some (storedSettings args) := by
  have hargs := eq_map_getD args 0
  rw [h] at hargs
  exact (congrArg readSettings hargs).trans rfl

theorem clamp_byteOf {low high n : Nat} (hlow : low ≤ n) (hhigh : n ≤ high) (hbyte : high < 256) :
    clamp low high (byteOf n).toNat = n := by
  rw [toNat_byteOf (by omega), clamp_of_mem_range hlow hhigh]

/-- Values in range are read back from their block. -/
theorem readSettings_settingsBlock {c : Settings} (h : c.inRange = true) : readSettings (settingsBlock c) = some c := by
  obtain ⟨hfloor, hfloor', hwindow, hwindow', hconfirm, hconfirm', hscore, hscore', hstep, hstep', hcode', hretention', hexcess,
    hexcess', hstreak, hstreak', hhigh, hhigh', hlow', hless, hdwell, hdwell', hguard, hguard', hattempts, hattempts', hsamples,
    hsamples'⟩ := c.inRange_iff.mp h
  have hdepth : (if (byteOf (depthCode c.probeDepth)).toNat = 0 then Depth.atten else .isolate) = c.probeDepth := by
    cases c.probeDepth <;> rfl
  have hdwells : clamp 19 999 (nat2 (byteOf (c.dwell / 256)) (byteOf c.dwell)) = c.dwell := by
    rw [nat2_byteOf (by omega), clamp_of_mem_range hdwell hdwell']
  rw [readSettings_eq (args := settingsBlock c) rfl]
  simp only [storedSettings, settingsBlock, bytes2, List.cons_append, List.nil_append, List.getD_cons_zero, List.getD_cons_succ,
    clamp_byteOf hfloor hfloor' (by decide), clamp_byteOf hwindow hwindow' (by decide),
    clamp_byteOf hconfirm hconfirm' (by decide), clamp_byteOf hscore hscore' (by decide), clamp_byteOf hstep hstep' (by decide),
    clamp_byteOf (Nat.zero_le _) hcode' (by decide), clamp_byteOf (Nat.zero_le _) hretention' (by decide),
    clamp_byteOf hexcess hexcess' (by decide), clamp_byteOf hstreak hstreak' (by decide),
    clamp_byteOf hhigh hhigh' (by decide), clamp_byteOf (Nat.zero_le _) hlow' (by decide),
    clamp_byteOf hguard hguard' (by decide), clamp_byteOf hattempts hattempts' (by decide),
    clamp_byteOf hsamples hsamples' (by decide), hdepth, hdwells, hless, if_true]

/-- New settings, by what they do to the aging count and in IDLE. -/
theorem State.configure_eq (c : Settings) (s : State) :
    s.configure c =
      ((s.withSettings c).withClock
        (if c.agingCode = s.settings.agingCode then s.clock else { s.clock with agingCount := 0 })).startTestIfIdle := by
  unfold State.configure
  split <;> rfl

/-- Settles O40: each byte is clamped by its place, and values in range pass their clamps. -/
theorem settingsRequestsClampAndAnswer : Obligations.SettingsRequestsClampAndAnswer := by
  unfold Obligations.SettingsRequestsClampAndAnswer
  refine ⟨fun s tag hears => ?_, fun c hc => ⟨rfl, readSettings_settingsBlock hc⟩,
    fun s tag args hears hlength => ?_⟩
  · have hexec : exec (.readSettings tag []) s = .next ((serveReadSettings [] s).begin 0x10#8 tag false) :=
      exec_of_hears hears rfl rfl
    exact hexec
  intro b high low c
  have hc : c = storedSettings args := by
    have hretention : b 6 = clamp 0 255 (args.getD 6 0).toNat := by
      rw [clamp_zero, Nat.min_eq_left (Nat.le_of_lt_succ (args.getD 6 0).isLt)]
    have hlow : low = clamp 0 40 (args.getD 11 0).toNat := (clamp_zero _ _).symm
    have hcode : min (b 5) 3 = clamp 0 3 (args.getD 5 0).toNat := (clamp_zero _ _).symm
    show ({ echoFloor := _, matchWindow := _, confirmStations := _, scoreAdd := _, agingStep := _, agingCode := min (b 5) 3,
            retention := b 6, ingressExcess := _, ingressStreak := _, probeDepth := _, dropHigh := _,
            dropLow := if low < high then low else high - 1, dwell := _, guard := _, maxAttempts := _, minSamples := _ } : Settings) = _
    rw [hretention, hlow, hcode]
    rfl
  have hexec : exec (.configure tag args) s = .next ((serveConfigure args s).begin 0x11#8 tag false) := exec_of_hears hears rfl rfl
  have hserve : serveConfigure args s = answerOk (settingsBlock c) (s.configure c) := by
    rw [serveConfigure, readSettings_eq hlength, ← hc]
  refine ⟨inRange_of_readSettings ((readSettings_eq hlength).trans (congrArg some hc.symm)), ?_⟩
  rw [hexec, hserve, begin_answerOk, State.configure_eq, State.startTestIfIdle_eq]
  rfl

end Machine
end Sys2Proof
end

section
/-! Proofs, family 11, thirty-fourth part: the requests for the work zones (O44). -/

namespace Sys2Proof

/-- Two bytes are the field of the number they hold. -/
theorem bytes2_nat2 (hi lo : Byte) : bytes2 (nat2 hi lo) = [hi, lo] := by
  have hhi : byteOf (nat2 hi lo / 256) = hi := by
    refine BitVec.eq_of_toNat_eq ?_
    rw [nat2, byteOf, BitVec.toNat_ofNat]
    omega
  have hlo : byteOf (nat2 hi lo) = lo := by
    refine BitVec.eq_of_toNat_eq ?_
    rw [nat2, byteOf, BitVec.toNat_ofNat]
    omega
  rw [bytes2, hhi, hlo]

namespace Machine

/-! ### A leg's zone and the records on it (R24, R53) -/

/-- Whether a zone freezes a record on its leg: an echo record by its position, an ingress record whatever the span. -/
def RecordBody.frozenBy (zone : Option Zone) (b : RecordBody) : Bool :=
  match b, zone with
  | .echo e, some z => decide (z.first ≤ e.position ∧ e.position ≤ z.last)
  | .ingress _, some _ => true
  | _, none => false

theorem Record.inZone_eq_frozenBy {plant : PerLeg LegMap} {r : Record} {l : Leg} {zone : Option Zone} (hleg : r.leg? = some l)
    (hzone : (plant.get l).zone = zone) : r.inZone plant = r.body.frozenBy zone := by
  cases hbody : r.body with
  | echo e =>
    have hl : e.leg = l := by simpa [Record.leg?, hbody] using hleg
    rw [Record.inZone_of_echo plant hbody, hl, hzone]
    cases zone <;> rfl
  | ingress g =>
    have hl : g.leg = some l := by simpa [Record.leg?, hbody] using hleg
    rw [Record.inZone_of_ingress plant hbody, hl, Option.any_some, hzone]
    cases zone <;> rfl

theorem State.slot_putZone (s : State) (l : Leg) (zone : Option Zone) (n : SlotNo) :
    (s.putZone l zone).slot n = (s.slot n).refreezeOn (s.putZone l zone).plant l := State.slot_map (s.withPlant _) _ n

theorem State.zone_putZone (s : State) (l : Leg) (zone : Option Zone) : ((s.putZone l zone).plant.get l).zone = zone :=
  congrArg LegMap.zone (PerLeg.get_set_self _ _ _)

/-- `t` is `s` with another zone on a leg and its records' frozen flags anew, and the start test made in IDLE. -/
def State.Rezoned (s : State) (l : Leg) (zone : Option Zone) (t : State) : Prop :=
  t = ((s.withPlant (s.plant.set l { s.plant.get l with zone := zone })).withTable t.table).withMode t.mode ∧
    (s.mode = .idle → t = (t.withMode .idle).startTest) ∧ (s.round = none → s.mode ≠ .idle → t.mode = s.mode) ∧
      ∀ n, (s.record n = none → t.slot n = s.slot n) ∧
        ∀ r, s.record n = some r → (r.leg? ≠ some l → t.slot n = s.slot n) ∧
          (r.leg? = some l → t.slot n = { s.slot n with record := some { r with frozen := r.body.frozenBy zone } })

section Rezoned
variable {s v : State} {l : Leg} {zone : Option Zone}

theorem State.startTestIfIdle_of_not_idle (h : v.mode ≠ .idle) : v.startTestIfIdle = v := by
  rw [State.startTestIfIdle_eq, if_neg h]

theorem State.rezoned_startTestIfIdle (hv : v = (s.putZone l zone).withMode v.mode) (hidle : s.mode = .idle → v.mode = .idle)
    (hother : s.round = none → v.mode = s.mode) : s.Rezoned l zone v.startTestIfIdle := by
  have hmoved : v.startTestIfIdle = (s.putZone l zone).withMode v.startTestIfIdle.mode := by
    have hmode := v.startTestIfIdle_eq_withMode
    generalize v.startTestIfIdle.mode = m at hmode ⊢
    rw [hmode, hv]
    rfl
  have htable : v.startTestIfIdle.table = (s.putZone l zone).table := by
    rw [hmoved]
    rfl
  have hslot (n : SlotNo) : v.startTestIfIdle.slot n = (s.slot n).refreezeOn (s.putZone l zone).plant l := by
    rw [← State.slot_putZone, State.slot, htable]
    rfl
  refine ⟨?_, fun hm => ?_, fun hnone hm => ?_, fun n => ⟨fun hfree => ?_, fun r hr => ⟨fun hleg => ?_, fun hleg => ?_⟩⟩⟩
  · rw [htable]
    exact hmoved
  · have hrest : v = v.withMode .idle := by rw [← hidle hm]; rfl
    rw [State.startTestIfIdle_eq, if_pos (hidle hm), hrest]
    exact State.startTest_idle_eq v
  · rw [State.startTestIfIdle_of_not_idle (by rwa [hother hnone])]
    exact hother hnone
  all_goals
    rw [hslot]
    obtain ⟨hsame, hnot⟩ | ⟨q, hq, hqleg, hfrozen⟩ := Slot.refreezeOn_cases (s.putZone l zone).plant l (s.slot n)
  · exact hsame
  · exact absurd (hfree.symm.trans hq) nofun
  · exact hsame
  · obtain rfl := Option.some.inj (hr.symm.trans hq)
    exact absurd hqleg hleg
  · exact absurd hleg (hnot r hr)
  · obtain rfl := Option.some.inj (hr.symm.trans hq)
    rw [hfrozen, Record.refreeze, Record.inZone_eq_frozenBy hleg (State.zone_putZone s l zone)]

/-- The frozen records on a leg, counted in any state with the same table. -/
theorem State.frozenOn_eq {u t : State} (h : t.table = u.table) (l : Leg) :
    u.frozenOn l = (t.records.filter fun p => p.2.leg? == some l && p.2.frozen).length := by
  have hrecords : u.records = t.records := by
    simp only [State.records, State.record, State.slot, h]
  rw [State.frozenOn, List.countP_eq_length_filter, hrecords]

/-- Without a zone no record on the leg is frozen. -/
theorem State.frozenOn_putZone_none (s : State) (l : Leg) : (s.putZone l none).frozenOn l = 0 := by
  refine List.countP_eq_zero.mpr fun p hp hfrozen => ?_
  obtain ⟨hleg, hfrozen⟩ := Bool.and_eq_true_iff.mp hfrozen
  have hrec : ((s.putZone l none).slot p.1).record = some p.2 := State.mem_records.mp hp
  rw [State.slot_putZone] at hrec
  obtain ⟨hsame, hnot⟩ | ⟨q, hq, hqleg, hrefrozen⟩ := Slot.refreezeOn_cases (s.putZone l none).plant l (s.slot p.1)
  · rw [hsame] at hrec
    exact hnot p.2 hrec (eq_of_beq hleg)
  · rw [hrefrozen] at hrec
    obtain hrec := Option.some.inj hrec
    rw [← hrec, Record.refreeze, Record.inZone_eq_frozenBy hqleg (State.zone_putZone s l none)] at hfrozen
    cases hbody : q.body <;> simp [hbody, RecordBody.frozenBy] at hfrozen

/-! ### A zone and the round in progress (R132) -/

theorem Round.zoned_eq (l : Leg) (r : Round) :
    r.zoned l =
      { r with
        marks := if r.marks.get l = .notYetVisited then r.marks.set l .skipped else r.marks
        dropAbsent := if r.marks.get l = .visited then r.dropAbsent.set l true else r.dropAbsent } := by
  unfold Round.zoned
  split <;> rename_i hmark <;> simp [hmark, Round.mark]

theorem State.zoneRound_eq_withMode (l : Leg) (u : State) : u.zoneRound l = u.withMode (u.zoneRound l).mode := by
  unfold State.zoneRound
  split <;> rfl

theorem State.zoneRound_of_active {u : State} {r : Round} {step : ProbeStep} {e : Nat} (l : Leg) (h : u.mode = .active r step e) :
    (u.zoneRound l).mode = .active (r.zoned l) step e := by
  simp only [State.zoneRound, h]
  rfl

theorem State.zoneRound_of_closing {u : State} {r : Round} (l : Leg) (h : u.mode = .closing r) :
    (u.zoneRound l).mode = .closing (r.zoned l) := by
  simp only [State.zoneRound, h]
  rfl

theorem State.zoneRound_of_no_round {u : State} (l : Leg) (h : u.round = none) : u.zoneRound l = u := by
  unfold State.zoneRound
  split
  case h_1 r step e hm => simp only [State.round, hm, reduceCtorEq] at h
  case h_2 r hm => simp only [State.round, hm, reduceCtorEq] at h
  all_goals rfl

end Rezoned

/-! ### The owners' answers -/

section Owners
variable {s : State} {leg : Byte} {l : Leg}

theorem serveSetZone_of_bad (f1 f0 e1 e0 : Byte)
    (h : 4 ≤ leg.toNat ∨ nat2 e1 e0 < nat2 f1 f0 ∨ 20000 < nat2 e1 e0) :
    serveSetZone [leg, f1, f0, e1, e0] s = refuse .badArgument s := by
  cases hl : legOf leg with
  | none => simp only [serveSetZone, hl]
  | some k =>
    simp only [serveSetZone, hl]
    exact if_pos (h.resolve_left fun hbad => absurd (hl.symm.trans (legOf_eq_none hbad)) nofun)

theorem serveSetZone_of_good (f1 f0 e1 e0 : Byte) (hleg : leg.toNat = l.val) (horder : nat2 f1 f0 ≤ nat2 e1 e0)
    (hend : nat2 e1 e0 ≤ 20000) :
    serveSetZone [leg, f1, f0, e1, e0] s =
      answerOk
        ([f1, f0] ++ [e1, e0] ++ [byteOf ((s.putZone l (some { first := nat2 f1 f0, last := nat2 e1 e0 })).frozenOn l)])
        ((s.putZone l (some { first := nat2 f1 f0, last := nat2 e1 e0 })).zoneRound l).startTestIfIdle := by
  simp only [serveSetZone, legOf_eq_some hleg, bytes2_nat2]
  exact if_neg (by rw [Config.maxDistance]; omega)

theorem serveClearZone_of_bad (h : 4 ≤ leg.toNat) : serveClearZone [leg] s = refuse .badArgument s := by
  simp only [serveClearZone, legOf_eq_none h]

theorem serveClearZone_of_good (h : leg.toNat = l.val) :
    serveClearZone [leg] s = answerOk [0#8] (s.putZone l none).startTestIfIdle := by
  have hcount : byteOf ((s.putZone l none).frozenOn l) = 0#8 := congrArg byteOf (State.frozenOn_putZone_none s l)
  simp only [serveClearZone, legOf_eq_some h]
  exact congrArg (fun b => answerOk [b] (s.putZone l none).startTestIfIdle) hcount

end Owners

/-- Settles O44: the zone and the frozen flags are written at once; the round is skipped in or not, and the start test made. -/
theorem zoneRequestsFreezeAndSkip : Obligations.ZoneRequestsFreezeAndSkip := by
  unfold Obligations.ZoneRequestsFreezeAndSkip
  intro s tag leg hears
  have hset (args : List Byte) : exec (.setZone tag args) s = .next ((serveSetZone args s).begin 0x28#8 tag false) :=
    exec_of_hears hears rfl rfl
  have hclear (args : List Byte) : exec (.clearZone tag args) s = .next ((serveClearZone args s).begin 0x29#8 tag false) :=
    exec_of_hears hears rfl rfl
  refine ⟨fun f1 f0 e1 e0 hbad => ?bad, fun hbad => ?badClear, fun l hl => ⟨fun f1 f0 e1 e0 horder hend => ?set, ?clear⟩⟩
  case bad => rw [hset, serveSetZone_of_bad f1 f0 e1 e0 hbad, begin_refuse]
  case badClear => rw [hclear, serveClearZone_of_bad hbad, begin_refuse]
  case set =>
    generalize hzone : some { first := nat2 f1 f0, last := nat2 e1 e0 : Zone } = zone
    have hmoved := State.zoneRound_eq_withMode l (s.putZone l zone)
    have hrezoned : s.Rezoned l zone ((s.putZone l zone).zoneRound l).startTestIfIdle := by
      refine State.rezoned_startTestIfIdle hmoved (fun hm => ?_) fun hnone => ?_
      · rw [State.zoneRound_of_no_round l (by rw [State.round, show (s.putZone l zone).mode = .idle from hm])]
        exact hm
      · rw [State.zoneRound_of_no_round (u := s.putZone l zone) l hnone]
        rfl
    have htable : ((s.putZone l zone).zoneRound l).startTestIfIdle.table = (s.putZone l zone).table := by
      rw [State.startTestIfIdle_eq_withMode, hmoved]
      rfl
    refine ⟨((s.putZone l zone).zoneRound l).startTestIfIdle, ?_, hzone ▸ hrezoned, fun r hr => ?_⟩
    · rw [hset, serveSetZone_of_good f1 f0 e1 e0 hl horder hend, begin_answerOk, hzone, State.frozenOn_eq htable]
      rfl
    · intro r'
      have hr' : r.zoned l = r' := Round.zoned_eq l r
      refine ⟨fun step e hm => ?_, fun hm => ?_⟩
      · have hmode := State.zoneRound_of_active (u := s.putZone l zone) l hm
        rw [State.startTestIfIdle_of_not_idle (by rw [hmode]; exact nofun), hmode, hr']
      · have hmode := State.zoneRound_of_closing (u := s.putZone l zone) l hm
        rw [State.startTestIfIdle_of_not_idle (by rw [hmode]; exact nofun), hmode, hr']
  case clear =>
    refine ⟨(s.putZone l none).startTestIfIdle, ?_, State.rezoned_startTestIfIdle rfl id fun _ => rfl, fun r hr => ?_⟩
    · rw [hclear, serveClearZone_of_good hl, begin_answerOk]
    · have hmode : (s.putZone l none).mode ≠ .idle := by
        intro hm
        rw [State.round, show s.mode = .idle from hm] at hr
        exact absurd hr nofun
      rw [State.startTestIfIdle_of_not_idle hmode]
      rfl

end Machine
end Sys2Proof
end

section
/-! Proofs, family 11, thirty-fifth part: manual holds, and the retirement of a record by name (O51, O48). -/

namespace Sys2Proof
namespace Machine

/-! ### Manual holds (R143, R144, R159) -/

theorem depthOf_of_bad {b : Byte} (h : 2 ≤ b.toNat) : depthOf b = none := by
  unfold depthOf
  split
  · omega
  · omega
  · rfl

theorem exec_holdExhausted (s : State) : exec .holdExhausted s = .next s.takeHold := rfl

section LegManual
variable {s : State} {leg depth : Byte} {l : Leg} {d : Depth}

theorem serveLegManual_of_bad (h : 4 ≤ leg.toNat ∨ 2 ≤ depth.toNat) : serveLegManual [leg, depth] s = refuse .badArgument s := by
  cases hleg : legOf leg with
  | none => simp only [serveLegManual, hleg]
  | some k =>
    have hdepth : depthOf depth = none := depthOf_of_bad (h.resolve_left fun hbad => absurd (hleg.symm.trans (legOf_eq_none hbad)) nofun)
    simp only [serveLegManual, hleg, hdepth]

variable (hleg : legOf leg = some l) (hdepth : depthOf depth = some d)
include hleg hdepth

theorem serveLegManual_of_locked (hm : s.mode = .locked) : serveLegManual [leg, depth] s = refuse .wrongState s := by
  simp only [serveLegManual, hleg, hdepth, hm]

theorem serveLegManual_of_busy (h : s.mode = .waitBudget ∨ s.round ≠ none ∨ (∃ k c o, s.mode = .manual k c o ∧ k ≠ l)) :
    serveLegManual [leg, depth] s = refuse .busy s := by
  obtain hm | hround | ⟨k, c, o, hm, hk⟩ := h
  · simp only [serveLegManual, hleg, hdepth, hm]
  · obtain ⟨r, hr⟩ := Option.ne_none_iff_exists'.mp hround
    obtain ⟨p, e, hm⟩ | hm := State.round_eq_some_iff.mp hr <;> simp only [serveLegManual, hleg, hdepth, hm]
  · simp only [serveLegManual, hleg, hdepth, hm, if_neg hk]

theorem serveLegManual_of_held {o : Origin}
    (h : (s.mode = .idle ∧ o = .idle) ∨ (s.mode = .paused ∧ o = .paused) ∨ (∃ c, s.mode = .manual l c o)) :
    serveLegManual [leg, depth] s = s.grantHold l d o := by
  obtain ⟨hm, rfl⟩ | ⟨hm, rfl⟩ | ⟨c, hm⟩ := h <;> simp only [serveLegManual, hleg, hdepth, hm, if_true]

end LegManual

section Hold
variable {s : State} {l : Leg} {d : Depth} {o : Origin}

/-- The leg is commanded where the sequencer may hold it: no lockout, and no other leg out. -/
theorem State.command_of_holdable (p : SwitchState) (guard : Nat) (hlegs : s.legsSound = true) (hunlocked : s.mode ≠ .locked)
    (hheld : ∀ k, s.mode.heldLeg = some k → k = l) :
    s.command l p guard =
      if (s.switch l).commanded = p then s else s.setSwitch l { s.switch l with commanded := p, settle := some guard } := by
  obtain ⟨hout, hlock⟩ := s.legsSound_iff.mp hlegs
  have hother : s.otherOut l = false := by
    refine List.any_eq_false.mpr fun k _ hk => ?_
    obtain ⟨hne, hkout⟩ := Bool.and_eq_true_iff.mp hk
    exact bne_iff_ne.mp hne (hheld k (hout k hkout))
  refine if_neg ?_
  rintro ⟨-, hlocked | hkout⟩
  · exact hunlocked (hlock.mp hlocked)
  · exact absurd (hkout.symm.trans hother) nofun

theorem Mode.heldLeg_of_origin {m : Mode}
    (h : (m = .idle ∧ o = .idle) ∨ (m = .paused ∧ o = .paused) ∨ (∃ c, m = .manual l c o)) :
    m ≠ .locked ∧ ∀ k, m.heldLeg = some k → k = l := by
  obtain ⟨rfl, -⟩ | ⟨rfl, -⟩ | ⟨c, rfl⟩ := h
  · exact ⟨nofun, fun k hk => absurd hk nofun⟩
  · exact ⟨nofun, fun k hk => absurd hk nofun⟩
  · exact ⟨nofun, fun k hk => (Option.some.inj hk).symm⟩

theorem State.startTest_of_settlePending (hidle : s.mode = .idle) (h : s.anySettle = true) : s.startTest = s := by
  by_cases hq : s.waitQueue = []
  · rw [State.startTest_of_emptyQueue (.inl hidle) hq, ← hidle]
    rfl
  · rw [State.startTest_of_waiting (.inl hidle), State.startOutcome_settlePending hq h]
    rfl

/-- The end of a hold of a leg that is out: its settle is pending, so that the start test of IDLE starts nothing. -/
theorem State.endHold_of_out (hm : s.mode = .manual l d o) (hout : (s.switch l).commanded ≠ .through) :
    s.endHold =
      (s.setSwitch l { s.switch l with commanded := .through, settle := some (s.settings.guard + 1) }).withMode o.mode := by
  rw [State.endHold_of_manual hm, State.command_through_of_out _ hout]
  cases o with
  | paused => rfl
  | idle =>
    refine State.startTest_of_settlePending (s := (s.setSwitch l _).withMode .idle) rfl (List.any_eq_true.mpr ⟨l, mem_allLegs l, ?_⟩)
    exact congrArg (fun x => x.settle.isSome) (s.switch_setSwitch_self l _)

theorem State.windowComes_of_early
    (h : s.clock.windowCount + (if 1000 ≤ s.clock.ms then 1 else 0) < s.safety.budgetWindow) : s.windowComes = false := by
  have hwindow : s.windowDue = false := decide_eq_false (by split at h <;> omega)
  rw [State.windowComes, hwindow, Bool.false_and, Bool.false_or]
  by_cases hms : 1000 ≤ s.clock.ms
  · rw [if_pos hms] at h
    rw [decide_eq_false (by omega), Bool.and_false]
  · rw [State.secondDue, decide_eq_false hms, Bool.false_and]

end Hold

/-- Settles O51: the rows of LEG_MANUAL in order; both ends of a hold command its leg THROUGH and return to its origin. -/
theorem manualHoldsBeginAndEnd : Obligations.ManualHoldsBeginAndEnd := by
  unfold Obligations.ManualHoldsBeginAndEnd
  refine ⟨fun s tag leg depth hears => ?begins, fun s => ⟨fun tag hears hnone => ?free, fun l d o hm hout => ?ends⟩⟩
  case begins =>
    have hmanual : exec (.legManual tag [leg, depth]) s = .next ((serveLegManual [leg, depth] s).begin 0x43#8 tag false) :=
      exec_of_hears hears rfl rfl
    dsimp only
    rw [hmanual]
    refine ⟨fun hbad => ?_, fun l d hl hd => ?_⟩
    · rw [serveLegManual_of_bad hbad, begin_refuse]
    have hleg := legOf_eq_some hl
    have hdepth : depthOf depth = some d := by
      rw [hd]
      cases d <;> rfl
    refine ⟨fun hlocked => ?_, fun hbusy => ?_, fun o ho => ?_⟩
    · rw [serveLegManual_of_locked hleg hdepth hlocked, begin_refuse]
    · rw [serveLegManual_of_busy hleg hdepth hbusy, begin_refuse]
    rw [serveLegManual_of_held hleg hdepth ho, State.grantHold]
    refine ⟨fun hisolate => ?_, fun hpermitted => ?_⟩
    · rw [if_pos hisolate, begin_refuse]
    have hopen : ¬ (d = .isolate ∧ s.safety.isolatePermitted = false) := by
      rintro ⟨rfl, hnot⟩
      exact hpermitted.elim nofun fun h => absurd (h.symm.trans hnot) nofun
    rw [if_neg hopen]
    refine ⟨fun hfull => ?_, fun hroom hlegs => ?_⟩
    · rw [if_pos hfull, begin_refuse]
    · obtain ⟨hunlocked, hheld⟩ := Mode.heldLeg_of_origin ho
      rw [if_neg (Nat.not_le.mpr hroom), begin_answerOk, State.beginHold,
        State.command_of_holdable d.position s.guardNow hlegs hunlocked hheld]
      cases d <;> rfl
  case free =>
    have hrelease : exec (.legRelease tag []) s = .next ((serveLegRelease [] s).begin 0x44#8 tag false) := exec_of_hears hears rfl rfl
    have hrefused : serveLegRelease [] s = refuse .wrongState s := by
      cases hm : s.mode with
      | manual l d o => exact absurd hm (hnone l d o)
      | idle | waitBudget | active | closing | paused | locked => simp only [serveLegRelease, hm]
    rw [hrelease, hrefused, begin_refuse]
  case ends =>
    have hended := State.endHold_of_out hm hout
    intro ended
    have hended' : s.endHold = ended := by
      rw [hended]
      cases o <;> rfl
    refine ⟨fun tag hears => ?_, fun hfull hearly => ?_⟩
    · have hrelease : exec (.legRelease tag []) s = .next ((serveLegRelease [] s).begin 0x44#8 tag false) :=
        exec_of_hears hears rfl rfl
      have hserve : serveLegRelease [] s = answerOk [] s.endHold := by simp only [serveLegRelease, hm]
      rw [hrelease, hserve, begin_answerOk, hended']
    · have hdue : s.holdExhausted = true := s.holdExhausted_iff.mpr ⟨l, d, o, hm, hfull, State.windowComes_of_early hearly⟩
      rw [exec_holdExhausted, State.takeHold, if_pos hdue, hended']

/-! ### RETIRE (R19, R20, R175) -/

section Retire
variable {s : State} {n : SlotNo} {r : Record}

theorem State.retire_of_no_links (hrec : s.record n = some r) (h : s.relinkLeg n r = none) : s.retire n = s.retireQuietly n := by
  simp only [State.retire, hrec, h]

theorem State.retire_of_links {l : Leg} (hrec : s.record n = some r) (h : s.relinkLeg n r = some l) :
    s.retire n = (s.retireQuietly n).evaluateLinks l := by
  simp only [State.retire, hrec, h]

theorem State.relinkLeg_of_not_confirmed (h : r.state ≠ .confirmed) : s.relinkLeg n r = none := by
  unfold State.relinkLeg
  split
  · exact if_neg h
  · exact if_neg fun hc => h hc.1

/-- A quiet retirement frees the slot, and moves nothing else of the table. -/
theorem State.table_retireQuietly (hrec : s.record n = some r) : (s.retireQuietly n).table = (s.freeSlot n).table := by
  by_cases hwait : r.state = .probeWait
  · rw [State.retireQuietly_of_probeWait hrec hwait, State.leaveQueue_eq]
    rfl
  by_cases hprobing : r.state = .probing
  · by_cases hround : ∃ x, s.round = some x ∧ x.record = s.nameOf n
    · obtain ⟨x, hx, hname⟩ := hround
      rw [State.retireQuietly_of_probing hrec hprobing hx hname, State.table_enterMode, State.abortCommand_eq_withSwitches]
      rfl
    · have hkept : s.retireQuietly n = s.freeSlot n := by
        have hsame : (s.freeSlot n).round = s.round := rfl
        simp only [State.retireQuietly, hrec, State.afterRetirement, hprobing, hsame]
        split
        · rfl
        · next x hx => exact if_neg fun hname => hround ⟨x, hx, hname⟩
      rw [hkept]
  · rw [State.retireQuietly_of_settled hrec ⟨hwait, hprobing⟩]

theorem State.slot_retire_self (hrec : s.record n = some r) : (s.retire n).slot n = (s.slot n).freed := by
  have hquiet : (s.retireQuietly n).slot n = (s.slot n).freed := by
    rw [State.slot, State.table_retireQuietly hrec]
    exact s.slot_setSlot_self n _
  cases hlinks : s.relinkLeg n r with
  | none => rw [State.retire_of_no_links hrec hlinks, hquiet]
  | some l =>
    rw [State.retire_of_links hrec hlinks, State.slot_evaluateLinks, hquiet]
    exact Slot.relink_of_not_confirmed _ fun q g hq => nomatch hq

/-- The retirement of a record in its round: its leg returns, nothing is queued again, and IDLE is entered. -/
theorem State.retire_of_probing {x : Round} (hrec : s.record n = some r) (hs : r.state = .probing) (hround : s.round = some x)
    (hname : x.record = s.nameOf n) :
    s.retire n = (((s.freeSlot n).abortCommand).withMode .idle).startTest ∧ s.legReturns x (s.retire n) := by
  have hlinks : s.relinkLeg n r = none := State.relinkLeg_of_not_confirmed (by rw [hs]; exact nofun)
  have hretired : s.retire n = ((s.freeSlot n).abortCommand).enterMode .idle := by
    rw [State.retire_of_no_links hrec hlinks, State.retireQuietly_of_probing hrec hs hround hname]
  have hreturns : (s.freeSlot n).legReturns x (s.freeSlot n).abortCommand := State.legReturns_abortCommand (s := s.freeSlot n) hround
  refine ⟨hretired, State.legReturns.congr (s := s) (t := (s.freeSlot n).abortCommand) hreturns ?_⟩
  rw [hretired, State.enterMode, State.startTestIfIdle_eq_withMode]
  rfl

end Retire

/-- Settles O48: the slot is freed first; what follows depends on the state that the record was in. -/
theorem retireFreesTheSlot : Obligations.RetireFreesTheSlot := by
  unfold Obligations.RetireFreesTheSlot
  intro s tag num gen n r hears hpicks
  have hrec : s.record n = some r := hpicks.2.1
  have hgen : (s.slot n).gen = gen := hpicks.2.2
  have hname : s.nameOf n = { num := n, gen := gen } := congrArg (fun g => ({ num := n, gen := g } : RecordName)) hgen
  have hexec : exec (.retire tag [num, gen]) s = .next ((s.retire n).replied 0x38#8 tag .ok []) := by
    have hserve : serveRetire [num, gen] s = answerOk [] (s.retire n) := by
      simp only [serveRetire, State.checkName_of_picks hpicks]
    have hretire : exec (.retire tag [num, gen]) s = .next ((serveRetire [num, gen] s).begin 0x38#8 tag false) :=
      exec_of_hears hears rfl rfl
    rw [hretire, hserve, begin_answerOk]
  have htouches := s.touches_retire n
  have hslot : (s.retire n).slot n = { gen := gen, changed := true, record := none } := by
    rw [State.slot_retire_self hrec, Slot.freed, hgen]
  have hquiet (hs : r.state ≠ .probeWait ∧ r.state ≠ .probing) : s.retireQuietly n = s.freeSlot n :=
    State.retireQuietly_of_settled hrec hs
  refine ⟨s.retire n, hexec, hslot, htouches .clock (by decide), htouches .plant (by decide), htouches .bands (by decide),
    htouches .settings (by decide), htouches .safety (by decide), htouches .flags (by decide), htouches .queue (by decide),
    htouches .roundNumber (by decide), htouches .lockout (by decide), fun hs => ?settled, fun g hr hs hearlier => ?earlier,
    fun g l hr hs hl hnow => ?now, fun e hr hs => ?echo, fun hs => ?waiting, fun hs g hr x hx hround => ?probing⟩
  case settled =>
    have hnot : r.state ≠ .probeWait ∧ r.state ≠ .probing ∧ r.state ≠ .confirmed := by
      obtain hs | hs | hs | hs := hs <;> rw [hs] <;> exact ⟨nofun, nofun, nofun⟩
    rw [State.retire_of_no_links hrec (State.relinkLeg_of_not_confirmed hnot.2.2), hquiet ⟨hnot.1, hnot.2.1⟩]
    rfl
  case earlier =>
    have hlinks : s.relinkLeg n r = none := by
      simp only [State.relinkLeg, hr]
      exact if_neg fun hc => hearlier (hc.2.trans (congrArg some hname))
    rw [State.retire_of_no_links hrec hlinks, hquiet ⟨by rw [hs]; exact nofun, by rw [hs]; exact nofun⟩]
    rfl
  case now =>
    have hlinks : s.relinkLeg n r = some l := by
      simp only [State.relinkLeg, hr, hl]
      exact if_pos ⟨hs, hnow.trans (congrArg some hname.symm)⟩
    rw [State.retire_of_links hrec hlinks, hquiet ⟨by rw [hs]; exact nofun, by rw [hs]; exact nofun⟩]
    rfl
  case echo =>
    have hlinks : s.relinkLeg n r = some e.leg := by
      simp only [State.relinkLeg, hr]
      exact if_pos hs
    rw [State.retire_of_links hrec hlinks, hquiet ⟨by rw [hs]; exact nofun, by rw [hs]; exact nofun⟩]
    rfl
  case waiting =>
    have hleft : s.retire n = (s.freeSlot n).leaveQueue { num := n, gen := gen } := by
      rw [State.retire_of_no_links hrec (State.relinkLeg_of_not_confirmed (by rw [hs]; exact nofun)),
        State.retireQuietly_of_probeWait hrec hs, hname]
    rw [hleft, State.leaveQueue_eq]
    exact ⟨rfl, rfl⟩
  case probing =>
    obtain ⟨hretired, hreturns⟩ := State.retire_of_probing hrec hs hx (hround.trans hname.symm)
    refine ⟨?_, ?_, ?_, hreturns⟩
    · rw [hretired, State.table_startTest, State.abortCommand_eq_withSwitches]
      rfl
    · rw [hretired, State.waitQueue_startTest, State.abortCommand_eq_withSwitches]
      rfl
    · rw [hretired]
      exact State.startTest_idle_eq _

end Machine
end Sys2Proof
end

section
/-! Proofs, family 11, thirty-sixth part: the reads of the map and of probing (O45). -/

namespace Sys2Proof
namespace Machine

/-! ### Bytes of flags -/

theorem flagBit_zero (a : Bool) : flagBit a 0 = byteOf (if a then 1 else 0) := by
  revert a
  decide

theorem flagBits_two (a b : Bool) : flagBit a 0 ||| flagBit b 1 = byteOf ((if a then 1 else 0) + if b then 2 else 0) := by
  revert a b
  decide

theorem flagBits_three (a b c : Bool) :
    flagBit a 0 ||| flagBit b 1 ||| flagBit c 2 =
      byteOf ((if a then 1 else 0) + (if b then 2 else 0) + if c then 4 else 0) := by
  revert a b c
  decide

/-! ### The map (R50, R51, R54) -/

section Map
variable {s : State} {leg : Byte} {l : Leg}

theorem serveReadLeg_of_bad (h : 4 ≤ leg.toNat) : serveReadLeg [leg] s = refuse .badArgument s := by
  simp only [serveReadLeg, legOf_eq_none h]

theorem serveReadStations_of_bad (page : Byte) (h : 4 ≤ leg.toNat) : serveReadStations [leg, page] s = refuse .badArgument s := by
  simp only [serveReadStations, legOf_eq_none h]

theorem serveReadLeg_of_good (h : leg.toNat = l.val) :
    serveReadLeg [leg] s =
      answerOk
        ([byteOf (if (s.plant.get l).vf.isSome then 1 else 0),
            byteOf ((if (s.plant.get l).vf.isSome then 1 else 0) + (if (s.plant.get l).zone.isSome then 2 else 0) +
              if s.staging.isSome then 4 else 0)] ++
          bytes2 ((s.plant.get l).vf.getD 0) ++ [byteOf (s.plant.get l).taps.length] ++
          bytes2 (s.plant.get l).stations.length ++
          bytes2 ((s.plant.get l).stations.filter fun x => x.misplaced.isSome).length ++
          bytes2 ((s.plant.get l).stations.filter fun x => x.dropEcho.isSome).length ++
          bytes2 (((s.plant.get l).zone.map Zone.first).getD 0) ++ bytes2 (((s.plant.get l).zone.map Zone.last).getD 0) ++
          bytes2 s.stationsInAll ++ [byteOf ((s.staging.map fun g => g.leg.val).getD 0)] ++
          bytes2 ((s.staging.map fun g => g.vf).getD 0) ++ [byteOf ((s.staging.map fun g => g.taps.length).getD 0)] ++
          bytes2 ((s.staging.map fun g => g.stations.length).getD 0) ++ (s.plant.get l).taps.flatMap bytes2) s := by
  simp only [serveReadLeg, legOf_eq_some h, flagBits_three, List.countP_eq_length_filter]
  rw [flagBit_zero]
  cases s.staging with
  | none => cases (s.plant.get l).zone <;> rfl
  | some g => cases (s.plant.get l).zone <;> rfl

theorem stationBytes_eq (x : Station) :
    stationBytes x = bytes2 x.handle ++ [byteOf x.tap] ++ bytes2 x.drop ++
      [byteOf ((if x.misplaced.isSome then 1 else 0) + if x.dropEcho.isSome then 2 else 0)] := by
  rw [stationBytes, flagBits_two]

theorem serveReadStations_of_good (page : Byte) (h : leg.toNat = l.val) :
    serveReadStations [leg, page] s =
      answerOk
        (bytes2 (s.plant.get l).stations.length ++
          [byteOf (((s.plant.get l).stations.drop (40 * page.toNat)).take 40).length] ++
          (((s.plant.get l).stations.drop (40 * page.toNat)).take 40).flatMap stationBytes) s := by
  simp only [serveReadStations, legOf_eq_some h]

end Map

/-! ### The probe reply, by its places (R145, R163, R196) -/

theorem length_manualBytes (m : Mode) : (manualBytes m).length = 3 := by cases m <;> rfl

theorem length_stepBytes (m : Mode) : (stepBytes m).length = 4 := by
  cases m with
  | active r step e => cases step <;> rfl
  | idle | waitBudget | closing | paused | manual | locked => rfl

theorem length_roundHead (x : Option Round) : (roundHead x).length = 10 := by cases x <;> rfl

theorem length_roundCounts (x : Option Round) : (roundCounts x).length = 10 := by cases x <;> rfl

theorem length_switchBytes (s : State) (l : Leg) : (s.switchBytes l).length = 12 := rfl

theorem length_waitBytes (e : WaitEntry) : (waitBytes e).length = 7 := rfl

/-- The bytes of the probe reply before the round number. -/
def State.probeHead (s : State) : List Byte :=
  [byteOf (modeCode s.mode),
    flagBit (modeCode s.mode == 5) 0 ||| flagBit s.round.isSome 1 ||| flagBit (modeCode s.mode == 2) 2] ++ manualBytes s.mode

theorem State.probeReply_eq (s : State) :
    s.probeReply =
      s.probeHead ++ ([s.roundNumber] ++ (roundHead s.round ++ (stepBytes s.mode ++ (roundCounts s.round ++
        ([flagBit s.lockout 0] ++ (allLegs.flatMap s.switchBytes ++ ([byteOf s.waitQueue.length] ++
          s.waitQueue.flatMap waitBytes))))))) := by
  simp only [State.probeReply, State.probeHead, List.append_assoc]

theorem State.length_probeHead (s : State) : s.probeHead.length = 5 := by
  rw [State.probeHead, List.length_append, length_manualBytes]
  rfl

/-- A place in a list, from an earlier one and the part between them. -/
theorem drop_add_of_append {α : Type} {xs a b : List α} {m n : Nat} (h : xs.drop m = a ++ b) (hn : a.length = n) :
    xs.drop (m + n) = b := by
  rw [← List.drop_drop, h, List.drop_left' hn]

theorem take_of_append {α : Type} {xs a b : List α} {n : Nat} (h : xs = a ++ b) (hn : a.length = n) : xs.take n = a := by
  rw [h, List.take_left' hn]

theorem getElem?_of_drop {α : Type} {xs b : List α} {x : α} {n : Nat} (h : xs.drop n = [x] ++ b) : xs[n]? = some x := by
  have hplace := List.getElem?_drop (xs := xs) (i := n) (j := 0)
  rw [h] at hplace
  exact hplace.symm

section Probe
variable (s : State)

theorem State.drop_five_probeReply :
    s.probeReply.drop 5 = [s.roundNumber] ++ (roundHead s.round ++ (stepBytes s.mode ++ (roundCounts s.round ++
      ([flagBit s.lockout 0] ++ (allLegs.flatMap s.switchBytes ++ ([byteOf s.waitQueue.length] ++
        s.waitQueue.flatMap waitBytes)))))) := by
  rw [s.probeReply_eq, List.drop_left' s.length_probeHead]

theorem State.drop_six_probeReply :
    s.probeReply.drop 6 = roundHead s.round ++ (stepBytes s.mode ++ (roundCounts s.round ++
      ([flagBit s.lockout 0] ++ (allLegs.flatMap s.switchBytes ++ ([byteOf s.waitQueue.length] ++
        s.waitQueue.flatMap waitBytes))))) := drop_add_of_append s.drop_five_probeReply rfl

theorem State.drop_sixteen_probeReply :
    s.probeReply.drop 16 = stepBytes s.mode ++ (roundCounts s.round ++ ([flagBit s.lockout 0] ++
      (allLegs.flatMap s.switchBytes ++ ([byteOf s.waitQueue.length] ++ s.waitQueue.flatMap waitBytes)))) :=
  drop_add_of_append s.drop_six_probeReply (length_roundHead _)

theorem State.drop_twenty_probeReply :
    s.probeReply.drop 20 = roundCounts s.round ++ ([flagBit s.lockout 0] ++
      (allLegs.flatMap s.switchBytes ++ ([byteOf s.waitQueue.length] ++ s.waitQueue.flatMap waitBytes))) :=
  drop_add_of_append s.drop_sixteen_probeReply (length_stepBytes _)

theorem State.drop_thirty_probeReply :
    s.probeReply.drop 30 = [flagBit s.lockout 0] ++
      (allLegs.flatMap s.switchBytes ++ ([byteOf s.waitQueue.length] ++ s.waitQueue.flatMap waitBytes)) :=
  drop_add_of_append s.drop_twenty_probeReply (length_roundCounts _)

theorem State.drop_thirtyOne_probeReply :
    s.probeReply.drop 31 =
      allLegs.flatMap s.switchBytes ++ ([byteOf s.waitQueue.length] ++ s.waitQueue.flatMap waitBytes) :=
  drop_add_of_append s.drop_thirty_probeReply rfl

theorem State.drop_seventyNine_probeReply :
    s.probeReply.drop 79 = [byteOf s.waitQueue.length] ++ s.waitQueue.flatMap waitBytes :=
  drop_add_of_append s.drop_thirtyOne_probeReply (length_flatMap_block (length_switchBytes s) allLegs)

theorem State.drop_eighty_probeReply : s.probeReply.drop 80 = s.waitQueue.flatMap waitBytes :=
  drop_add_of_append s.drop_seventyNine_probeReply rfl

theorem State.length_probeReply : s.probeReply.length = 80 + 7 * s.waitQueue.length := by
  have hrest := congrArg List.length s.drop_seventyNine_probeReply
  rw [List.length_drop, List.length_append, length_flatMap_block length_waitBytes, List.length_singleton] at hrest
  omega

/-- The controller's items of a leg in the probe reply. -/
theorem State.drop_leg_probeReply (l : Leg) :
    ∃ rest, s.probeReply.drop (31 + 12 * l.val) = s.switchBytes l ++ rest := by
  have hbelow : ((allLegs.filter fun k => k < l).flatMap s.switchBytes).length = 12 * l.val := by
    rw [length_flatMap_block (length_switchBytes s)]
    congr 1
    revert l
    decide
  refine ⟨_, drop_add_of_append (a := (allLegs.filter fun k => k < l).flatMap s.switchBytes)
    (b := s.switchBytes l ++ ((legsAfter l).flatMap s.switchBytes ++ ([byteOf s.waitQueue.length] ++
      s.waitQueue.flatMap waitBytes))) ?_ hbelow⟩
  have hlegs : allLegs.flatMap s.switchBytes =
      (allLegs.filter fun k => k < l).flatMap s.switchBytes ++ (s.switchBytes l ++ (legsAfter l).flatMap s.switchBytes) := by
    rw [← List.flatMap_cons, ← List.flatMap_append, ← allLegs_eq_append l]
  rw [s.drop_thirtyOne_probeReply, hlegs]
  simp only [List.append_assoc]

end Probe

/-- A round's items before the current step, by the fields that they give. -/
theorem roundHead_some (r : Round) :
    roundHead (some r) =
      [byteOf r.record.num.val, r.record.gen, byteOf (depthCode r.snap.depth)] ++ bytes2 r.snap.dwellLength ++
        [byteOf (r.snap.guard + 1)] ++ allLegs.map (visitByte r) := rfl

theorem roundCounts_some (r : Round) :
    roundCounts (some r) = bytes2 r.refSum.count ++ allLegs.flatMap fun l => bytes2 (r.legSums.get l).count := rfl

theorem State.stepBytes_of_no_round {s : State} (h : s.round = none) : stepBytes s.mode = [0#8, 0#8, 0#8, 0#8] := by
  cases hm : s.mode with
  | active r step e => simp only [State.round, hm, reduceCtorEq] at h
  | idle | waitBudget | closing | paused | manual | locked => rfl

/-- Settles O45: each reply by its layout; the probe reply by the lengths of its parts. -/
theorem mapAndProbeReadsChangeNothing : Obligations.MapAndProbeReadsChangeNothing := by
  unfold Obligations.MapAndProbeReadsChangeNothing
  intro s tag hears
  have hleg (args : List Byte) : exec (.readLeg tag args) s = .next ((serveReadLeg args s).begin 0x25#8 tag false) :=
    exec_of_hears hears rfl rfl
  have hstations (args : List Byte) :
      exec (.readStations tag args) s = .next ((serveReadStations args s).begin 0x26#8 tag false) := exec_of_hears hears rfl rfl
  have hzones : exec (.readZones tag []) s = .next ((serveReadZones [] s).begin 0x2A#8 tag false) := exec_of_hears hears rfl rfl
  have hprobe : exec (.readProbe tag []) s = .next (s.replied 0x40#8 tag .ok s.probeReply) :=
    exec_of_hears (owner := serveReadProbe []) (restart := false) hears rfl rfl
  refine ⟨fun leg page hbad => ⟨?_, ?_⟩, fun leg l hl => ⟨?_, fun page => ?_⟩, ?_, s.probeReply, hprobe, ?_, fun hnone => ?_,
    fun r hr => ⟨?_, ?_⟩, fun r hm => ?_, fun r step e hm => ?_, fun l => ?_, ?_, s.length_probeReply, ?_, ?_, fun l => ?_, ?_⟩
  · rw [hleg, serveReadLeg_of_bad hbad, begin_refuse]
  · rw [hstations, serveReadStations_of_bad page hbad, begin_refuse]
  · rw [hleg, serveReadLeg_of_good hl, begin_answerOk]
    rfl
  · rw [hstations, serveReadStations_of_good page hl, begin_answerOk, funext stationBytes_eq]
  · rw [hzones, serveReadZones, begin_answerOk]
    refine congrArg (fun data => Host.Outcome.next (s.replied 0x2A#8 tag .ok data)) ?_
    have hlegs : s.plant.toList = allLegs.map s.plant.get := rfl
    rw [hlegs, List.flatMap_map]
    refine List.flatMap_congr fun l _ => ?_
    unfold zoneBytes
    cases (s.plant.get l).zone <;> rfl
  · rw [take_of_append s.probeReply_eq s.length_probeHead, State.probeHead, State.round]
    cases s.mode with
    | manual l d o =>
      simp only [modeCode, manualBytes, Option.isSome_none]
      cases d <;> cases o <;> rfl
    | idle | waitBudget | active | closing | paused | locked =>
      simp only [modeCode, manualBytes, Option.isSome_none, Option.isSome_some]
      rfl
  · have hpart : s.probeReply.drop 6 = (roundHead s.round ++ stepBytes s.mode ++ roundCounts s.round) ++
        ([flagBit s.lockout 0] ++ (allLegs.flatMap s.switchBytes ++ ([byteOf s.waitQueue.length] ++
          s.waitQueue.flatMap waitBytes))) := by
      rw [s.drop_six_probeReply]
      simp only [List.append_assoc]
    rw [hnone, State.stepBytes_of_no_round hnone] at hpart
    exact take_of_append hpart rfl
  · have hpart := take_of_append s.drop_six_probeReply (length_roundHead _)
    rw [hr, roundHead_some] at hpart
    have hdepth : byteOf (depthCode r.snap.depth) = match r.snap.depth with
        | .atten => 0#8
        | .isolate => 1#8 := by cases r.snap.depth <;> rfl
    have hvisit (l : Leg) : visitByte r l = byteOf ((match r.marks.get l with
        | .notInSnapshot => 0
        | .notYetVisited => 1
        | .visited => 2
        | .skipped => 3) + if r.dropAbsent.get l then 4 else 0) := by
      unfold visitByte
      cases r.marks.get l <;> cases r.dropAbsent.get l <;> rfl
    rw [hdepth, funext hvisit] at hpart
    exact hpart
  · have hpart := take_of_append s.drop_twenty_probeReply (length_roundCounts _)
    rw [hr, roundCounts_some] at hpart
    exact hpart
  · have hpart := take_of_append s.drop_sixteen_probeReply (length_stepBytes _)
    rw [hm] at hpart
    exact hpart
  · have hpart := take_of_append s.drop_sixteen_probeReply (length_stepBytes _)
    rw [hm] at hpart
    cases step <;> exact hpart
  · obtain ⟨rest, hl⟩ := s.drop_leg_probeReply l
    rw [hl]
    have hitems : (s.switchBytes l ++ rest).take 4 =
        [byteOf (switchCode (s.switch l).commanded), byteOf (sensedCode (s.switch l).sensed),
          byteOf ((s.switch l).settle.getD 0), flagBit (s.switch l).faultLatch 0] := rfl
    rw [hitems]
    cases (s.switch l).commanded <;> cases (s.switch l).sensed <;> rfl
  · exact getElem?_of_drop s.drop_seventyNine_probeReply
  · exact getElem?_of_drop s.drop_five_probeReply
  · exact getElem?_of_drop s.drop_thirty_probeReply
  · obtain ⟨rest, hl⟩ := s.drop_leg_probeReply l
    rw [← List.drop_drop, hl]
    rfl
  · exact s.drop_eighty_probeReply

end Machine
end Sys2Proof
end

section
/-! Proofs, family 11, thirty-seventh part: the reads of records (O46). -/

namespace Sys2Proof
namespace Machine

/-! ### The map's answer for a handle (R38, R52) -/

theorem stationOn_cases {plant : PerLeg LegMap} {handle : Nat} {l : Leg} {y : Located} (h : stationOn plant handle l = some y) :
    y.leg = l ∧ (plant.get l).vf = some y.vf ∧ y.station ∈ (plant.get l).stations ∧ y.station.handle = handle := by
  unfold stationOn at h
  split at h
  · exact absurd h nofun
  · next vf hvf =>
    obtain ⟨x, hx, rfl⟩ := Option.map_eq_some_iff.mp h
    have hfound := List.find?_some hx
    exact ⟨rfl, hvf, List.mem_of_find?_eq_some hx, eq_of_beq hfound⟩

theorem State.locate_cases {s : State} {handle : Nat} {y : Located} (h : s.locate handle = some y) :
    handle ≠ 0 ∧ (s.plant.get y.leg).vf = some y.vf ∧ y.station ∈ (s.plant.get y.leg).stations ∧ y.station.handle = handle := by
  unfold State.locate at h
  split at h
  · exact absurd h nofun
  · next hzero =>
    obtain ⟨l, -, hl⟩ := List.exists_of_findSome?_eq_some h
    obtain ⟨rfl, hvf, hmem, hhandle⟩ := stationOn_cases hl
    exact ⟨hzero, hvf, hmem, hhandle⟩

theorem State.locate_ne_none {s : State} {handle : Nat} {l : Leg} {x : Station} {vf : Nat} (hzero : handle ≠ 0)
    (hvf : (s.plant.get l).vf = some vf) (hx : x ∈ (s.plant.get l).stations) (hhandle : x.handle = handle) :
    s.locate handle ≠ none := by
  rw [State.locate, if_neg hzero]
  intro hnone
  have hleg := List.findSome?_eq_none_iff.mp hnone l (mem_allLegs l)
  simp only [stationOn, hvf, Option.map_eq_none_iff] at hleg
  exact absurd (beq_iff_eq.mpr hhandle) (List.find?_eq_none.mp hleg x hx)

/-- On a sound map a handle is found exactly where the map holds it: no other entry has it. -/
theorem State.locate_iff {s : State} {handle : Nat} {y : Located} (hs : s.plantSound = true) :
    s.locate handle = some y ↔
      handle ≠ 0 ∧ (s.plant.get y.leg).vf = some y.vf ∧ y.station ∈ (s.plant.get y.leg).stations ∧ y.station.handle = handle := by
  refine ⟨State.locate_cases, fun ⟨hzero, hvf, hmem, hhandle⟩ => ?_⟩
  obtain ⟨x, hx⟩ := Option.ne_none_iff_exists'.mp (State.locate_ne_none hzero hvf hmem hhandle)
  obtain ⟨-, hvf', hmem', hhandle'⟩ := State.locate_cases hx
  obtain ⟨-, ⟨hnodup, hdisjoint⟩, -, -⟩ := s.plantSound_iff.mp hs
  have hin : handle ∈ (s.plant.get y.leg).handles := List.mem_map.mpr ⟨_, hmem, hhandle⟩
  have hin' : handle ∈ (s.plant.get x.leg).handles := List.mem_map.mpr ⟨_, hmem', hhandle'⟩
  have hleg : x.leg = y.leg := by
    by_contra hne
    exact hdisjoint _ _ hne hin' hin
  rw [hleg] at hvf' hmem'
  have hstation : x.station = y.station :=
    List.inj_on_of_nodup_map (hnodup y.leg) hmem' hmem (hhandle'.trans hhandle.symm)
  have hspeed : x.vf = y.vf := Option.some.inj (hvf'.symm.trans hvf)
  rw [hx]
  exact congrArg some (by cases x; cases y; simp_all)

theorem mapAnswer_some (y : Located) :
    mapAnswer (some y) =
      [1#8, byteOf ((if y.station.misplaced.isSome then 1 else 0) + (if y.station.dropEcho.isSome then 2 else 0)),
        byteOf y.leg.val, byteOf y.station.tap] ++ bytes2 y.station.drop ++ bytes4 (y.station.misplaced.getD 0).toNat ++
        bytes4 (y.station.dropEcho.getD 0).toNat := by
  rw [mapAnswer, flagBits_two]
  rfl

/-! ### Record bodies (R166, R167, R195) -/

theorem flagBits_five (a b c d e : Bool) :
    flagBit a 0 ||| flagBit b 1 ||| flagBit c 2 ||| flagBit d 3 ||| flagBit e 4 =
      byteOf ((if a then 1 else 0) + (if b then 2 else 0) + (if c then 4 else 0) + (if e then 16 else 0) + if d then 8 else 0) := by
  revert a b c d e
  decide

theorem presenceByte_echo (tap retention ticket : Bool) :
    presenceByte true tap false false retention ticket false false =
      byteOf ((if retention then 16 else 0) + (if ticket then 32 else 0) + 1 + if tap then 2 else 0) := by
  revert tap retention ticket
  decide

theorem presenceByte_ingress (leg last link retention ticket position tap : Bool) :
    presenceByte leg false last link retention ticket position tap =
      byteOf ((if retention then 16 else 0) + (if ticket then 32 else 0) + (if leg then 1 else 0) + (if last then 4 else 0) +
        (if link then 8 else 0) + (if position then 64 else 0) + if tap then 128 else 0) := by
  revert leg last link retention ticket position tap
  decide

section Body
variable {s : State} {n : SlotNo} {r : Record}

theorem length_commonBytes (n : SlotNo) (x : Slot) (r : Record) (kind : Nat) (stale : Bool) (presence : Byte) :
    (commonBytes n x r kind stale presence).length = 25 := rfl

theorem length_flatMap_bytes2 (xs : List Nat) : (xs.flatMap bytes2).length = 2 * xs.length :=
  length_flatMap_block (f := bytes2) (n := 2) (fun _ => rfl) xs

theorem length_echoBytes (plant : PerLeg LegMap) (e : EchoPart) : (echoBytes plant e).length = 10 + 2 * e.stations.length := by
  rw [echoBytes, List.length_append, length_flatMap_bytes2]
  rfl

theorem length_roundBytes (x : Option RoundResult) : (roundBytes x).length = 6 := by cases x <;> rfl

theorem length_ingressBytes (g : IngressPart) (s : State) : (ingressBytes g s).length = 19 := by
  unfold ingressBytes
  cases g.link <;> cases s.probable g <;> simp [length_roundBytes, bytes2, signedBytes2, nameBytes]

/-- The position and tap that an ingress record reads from the echo record of its link. -/
theorem State.probable_eq (g : IngressPart) (s : State) :
    s.probable g = ((g.link.bind s.named).bind Record.echo?).map fun e =>
      { position := e.position, tap := e.tap, distance := (e.tap.map fun k => tapDistance s.plant e.leg k).getD 0 } := by
  cases hlink : g.link with
  | none => simp only [State.probable, hlink, Option.bind_none, Option.map_none]
  | some name =>
    cases hnamed : (s.named name).bind Record.echo? with
    | none => simp only [State.probable, hlink, hnamed, Option.bind_some, Option.map_none]
    | some e =>
      simp only [State.probable, hlink, hnamed, Option.bind_some, Option.map_some]
      cases e.tap <;> rfl

theorem echoBytes_eq (plant : PerLeg LegMap) (e : EchoPart) :
    echoBytes plant e =
      bytes2 e.position ++ bytes2 e.spreadMin ++ bytes2 e.spreadMax ++ [byteOf (e.tap.getD 0)] ++
        bytes2 ((e.tap.map fun k => tapDistance plant e.leg k).getD 0) ++ [byteOf e.stations.length] ++
        e.stations.flatMap bytes2 := by
  unfold echoBytes
  cases e.tap <;> rfl

theorem roundBytes_eq (x : Option RoundResult) :
    roundBytes x =
      [byteOf ((x.map fun y => outcomeCode y.outcome).getD 0)] ++
        allLegs.map (fun l => BitVec.ofInt 8 ((x.bind fun y => y.drops.get l).getD 0)) ++
        [byteOf ((if (x.bind fun y => y.drops.get 0).isSome then 1 else 0) + (if (x.bind fun y => y.drops.get 1).isSome then 2 else 0) +
          (if (x.bind fun y => y.drops.get 2).isSome then 4 else 0) + if (x.bind fun y => y.drops.get 3).isSome then 8 else 0)] := by
  have hbits (a b c d : Bool) : flagBit a 0 ||| flagBit b 1 ||| flagBit c 2 ||| flagBit d 3 =
      byteOf ((if a then 1 else 0) + (if b then 2 else 0) + (if c then 4 else 0) + if d then 8 else 0) := by
    revert a b c d
    decide
  cases x with
  | none => rfl
  | some y =>
    rw [roundBytes, hbits]
    rfl

theorem commonBytes_eq (n : SlotNo) (x : Slot) (r : Record) (kind : Nat) (stale : Bool) (presence : Byte) :
    commonBytes n x r kind stale presence =
      [byteOf n.val, x.gen, byteOf (recordStateCode r.state), byteOf kind,
        byteOf ((if r.acknowledged then 1 else 0) + (if r.pinned then 2 else 0) + (if r.frozen then 4 else 0) +
          (if x.changed then 16 else 0) + if stale then 8 else 0),
        presence, byteOf ((r.leg?.map Fin.val).getD 0), byteOf r.severity] ++
      (bytes2 r.observations ++ [byteOf r.score, byteOf r.recurrences, byteOf (r.retention.getD 0)] ++
        bytes4 r.firstSeen.toNat ++ bytes4 r.lastEvidence.toNat ++ bytes4 (r.ticket.getD 0).toNat) := by
  rw [commonBytes, flagBits_five]
  rfl

theorem State.recordBody_of_echo {e : EchoPart} (hr : r.body = .echo e) :
    s.recordBody n r =
      [byteOf n.val, (s.slot n).gen, byteOf (recordStateCode r.state), 0#8,
        byteOf ((if r.acknowledged then 1 else 0) + (if r.pinned then 2 else 0) + (if r.frozen then 4 else 0) +
          (if (s.slot n).changed then 16 else 0) + if e.staleScale then 8 else 0),
        byteOf ((if r.retention.isSome then 16 else 0) + (if r.ticket.isSome then 32 else 0) + 1 + if e.tap.isSome then 2 else 0),
        byteOf e.leg.val, byteOf r.severity] ++
      (bytes2 r.observations ++ [byteOf r.score, byteOf r.recurrences, byteOf (r.retention.getD 0)] ++
        bytes4 r.firstSeen.toNat ++ bytes4 r.lastEvidence.toNat ++ bytes4 (r.ticket.getD 0).toNat) ++ echoBytes s.plant e := by
  have hleg : r.leg? = some e.leg := by simp only [Record.leg?, hr]
  simp only [State.recordBody, hr, commonBytes_eq, presenceByte_echo, hleg]
  rfl

theorem State.recordBody_of_ingress {g : IngressPart} (hr : r.body = .ingress g) :
    s.recordBody n r =
      [byteOf n.val, (s.slot n).gen, byteOf (recordStateCode r.state), 1#8,
        byteOf ((if r.acknowledged then 1 else 0) + (if r.pinned then 2 else 0) + (if r.frozen then 4 else 0) +
          if (s.slot n).changed then 16 else 0),
        byteOf ((if r.retention.isSome then 16 else 0) + (if r.ticket.isSome then 32 else 0) + (if g.leg.isSome then 1 else 0) +
          (if g.lastRound.isSome then 4 else 0) + (if g.link.isSome then 8 else 0) + (if (s.probable g).isSome then 64 else 0) +
          if ((s.probable g).bind Probable.tap).isSome then 128 else 0),
        byteOf ((g.leg.map Fin.val).getD 0), byteOf r.severity] ++
      (bytes2 r.observations ++ [byteOf r.score, byteOf r.recurrences, byteOf (r.retention.getD 0)] ++
        bytes4 r.firstSeen.toNat ++ bytes4 r.lastEvidence.toNat ++ bytes4 (r.ticket.getD 0).toNat) ++ ingressBytes g s := by
  have hleg : r.leg? = g.leg := by simp only [Record.leg?, hr]
  simp only [State.recordBody, hr, commonBytes_eq, presenceByte_ingress, hleg]
  rfl

theorem State.length_recordBody_of_echo {e : EchoPart} (hr : r.body = .echo e) :
    (s.recordBody n r).length = 35 + 2 * e.stations.length := by
  simp only [State.recordBody, hr, List.length_append, length_commonBytes, length_echoBytes]
  omega

theorem State.length_recordBody_of_ingress {g : IngressPart} (hr : r.body = .ingress g) : (s.recordBody n r).length = 44 := by
  simp only [State.recordBody, hr, List.length_append, length_commonBytes, length_ingressBytes]

theorem State.baselineOf_of_some {b : Band} {base : Int} (h : (s.band b).baseline = some base) : s.baselineOf b = base := by
  have hband : (s.bands[b]).baseline = some base := h
  simp only [State.baselineOf, hband]

/-- The ingress part of a body, by the link, the last round and the baseline. -/
theorem ingressBytes_eq {g : IngressPart} {base : Int} (h : (s.band g.band).baseline = some base) :
    ingressBytes g s =
      [byteOf g.band.val, byteOf g.attempts, byteOf g.voidStreak] ++ roundBytes g.lastRound ++
        ((g.link.map nameBytes).getD [0#8, 0#8]) ++ bytes2 (((s.probable g).map Probable.position).getD 0) ++
        [byteOf (((s.probable g).bind Probable.tap).getD 0)] ++ bytes2 (((s.probable g).map Probable.distance).getD 0) ++
        bytes2 (BitVec.ofInt 16 base).toNat ++ [byteOf (s.band g.band).streak] := by
  unfold ingressBytes
  rw [State.baselineOf_of_some h]
  cases g.link with
  | none => cases s.probable g <;> simp only [List.append_assoc] <;> rfl
  | some name => cases s.probable g <;> simp only [List.append_assoc] <;> rfl

end Body

/-! ### Lists of names (R168, R190) -/

/-- The reply's list of the records that pass a test. -/
theorem State.nameList_namesOf (s : State) (test : Record → Bool) :
    ∃ slots : List SlotNo, slots.Pairwise (fun a b => a < b) ∧ (∀ n, n ∈ slots ↔ ∃ r, s.record n = some r ∧ test r = true) ∧
      nameList (s.namesOf test) = byteOf slots.length :: slots.flatMap fun n => [byteOf n.val, (s.slot n).gen] := by
  refine ⟨(s.records.filter fun p => test p.2).map Prod.fst, ?_, fun n => ?_, ?_⟩
  · exact List.pairwise_map.mpr (s.records_sorted.filter _)
  · simp only [List.mem_map, List.mem_filter, State.mem_records]
    exact ⟨fun ⟨p, ⟨hrec, htest⟩, heq⟩ => ⟨p.2, heq ▸ hrec, htest⟩, fun ⟨r, hrec, htest⟩ => ⟨(n, r), ⟨hrec, htest⟩, rfl⟩⟩
  · rw [State.namesOf, nameList, List.length_map, List.length_map, List.flatMap_map, List.flatMap_map]
    rfl

theorem readTerm_eq_none {α : Type} {p : Bool} {v : Option α} (hp : p = true) (hv : v = none) : readTerm p v = none := by
  rw [hp, hv]
  rfl

/-- A term that is not refused is met where its value, if it is present, passes the test. -/
theorem readTerm_eq_some {α : Type} {p : Bool} {v : Option α} (h : ¬ (p = true ∧ v = none)) :
    ∃ t, readTerm p v = some t ∧ ∀ test : α → Bool, termMet t test = true ↔ (p = true → ∃ x, v = some x ∧ test x = true) := by
  cases hp : p with
  | false => exact ⟨none, rfl, fun test => ⟨fun _ => nofun, fun _ => rfl⟩⟩
  | true =>
    obtain ⟨x, hx⟩ := Option.ne_none_iff_exists'.mp fun hv => h ⟨hp, hv⟩
    refine ⟨some x, by rw [hx]; rfl, fun test => ⟨fun hmet _ => ⟨x, hx, hmet⟩, fun hmet => ?_⟩⟩
    obtain ⟨y, hy, htest⟩ := hmet rfl
    obtain rfl := Option.some.inj (hx.symm.trans hy)
    exact htest

theorem readFlag_eq_none {b : Byte} : readFlag b = none ↔ 2 ≤ b.toNat := by
  unfold readFlag
  split
  · next h => simp [h]
  · next h => simp [h]
  · next h0 h1 =>
    have hzero : b.toNat ≠ 0 := h0
    have hone : b.toNat ≠ 1 := h1
    exact iff_of_true rfl (by omega)

theorem readFlag_eq_some {b : Byte} {x : Bool} (h : readFlag b = some x) : x = true ↔ b = 1#8 := by
  unfold readFlag at h
  split at h
  · next h0 =>
    obtain rfl := Option.some.inj h
    exact ⟨nofun, fun h1 => by rw [h1] at h0; exact absurd h0 (by decide)⟩
  · next h1 =>
    obtain rfl := Option.some.inj h
    exact ⟨fun _ => BitVec.eq_of_toNat_eq h1, fun _ => rfl⟩
  · exact absurd h nofun

theorem legOf_eq_none_iff {b : Byte} : legOf b = none ↔ 4 ≤ b.toNat := by
  unfold legOf
  split
  · next h => exact ⟨nofun, fun hle => absurd h (Nat.not_lt.mpr hle)⟩
  · next h => exact ⟨fun _ => Nat.not_lt.mp h, fun _ => rfl⟩

theorem bandOf_eq_none_iff {b : Byte} : bandOf b = none ↔ 16 ≤ b.toNat := by
  unfold bandOf
  split
  · next h => exact ⟨nofun, fun hle => absurd h (Nat.not_lt.mpr hle)⟩
  · next h => exact ⟨fun _ => Nat.not_lt.mp h, fun _ => rfl⟩

theorem bandOf_eq_some_iff {b : Byte} {x : Band} : bandOf b = some x ↔ x.val = b.toNat := by
  unfold bandOf
  split
  · next h =>
    rw [Option.some.injEq]
    exact ⟨fun heq => by rw [← heq], fun heq => Fin.ext heq.symm⟩
  · next h => exact ⟨nofun, fun heq => absurd (heq ▸ x.isLt) h⟩

theorem legOf_eq_some_iff {b : Byte} {x : Leg} : legOf b = some x ↔ x.val = b.toNat := by
  unfold legOf
  split
  · next h =>
    rw [Option.some.injEq]
    exact ⟨fun heq => by rw [← heq], fun heq => Fin.ext heq.symm⟩
  · next h => exact ⟨nofun, fun heq => absurd (heq ▸ x.isLt) h⟩

/-! ### Filters (R168, R190) -/

section Filter
variable {p kind states leg l1 l0 h1 h0 band ack : Byte}

/-- What makes a filter bad: a term that is present with a value it cannot take. -/
def filterBad (p kind states leg l1 l0 h1 h0 band ack : Byte) : Prop :=
  (p.getLsbD 0 = true ∧ 2 ≤ kind.toNat) ∨ (p.getLsbD 1 = true ∧ states.toNat < 2) ∨ (p.getLsbD 2 = true ∧ 4 ≤ leg.toNat) ∨
    (p.getLsbD 3 = true ∧ (nat2 h1 h0 < nat2 l1 l0 ∨ 20000 < nat2 h1 h0)) ∨ (p.getLsbD 4 = true ∧ 16 ≤ band.toNat) ∨
      (p.getLsbD 5 = true ∧ 2 ≤ ack.toNat)

/-- What a record meets: every term that is present. -/
def filterMet (p kind states leg l1 l0 h1 h0 band ack : Byte) (r : Record) : Prop :=
  (p.getLsbD 0 = true → (kind = 1#8 ↔ ∃ g, r.body = .ingress g)) ∧
    (p.getLsbD 1 = true → states.getLsbD (recordStateCode r.state) = true) ∧
      (p.getLsbD 2 = true → ∃ l : Leg, r.leg? = some l ∧ l.val = leg.toNat) ∧
        (p.getLsbD 3 = true → ∃ e, r.body = .echo e ∧ nat2 l1 l0 ≤ e.position ∧ e.position ≤ nat2 h1 h0) ∧
          (p.getLsbD 4 = true → ∃ g, r.body = .ingress g ∧ g.band.val = band.toNat) ∧
            (p.getLsbD 5 = true → (ack = 1#8 ↔ r.acknowledged = true))

/-- The states that a filter names, none where it names no state. -/
def statesOf (states : Byte) : Option Byte := if states.toNat / 2 = 0 then none else some states

/-- The span that a filter names, none where it is no span on a leg. -/
def spanOf (low high : Nat) : Option (Nat × Nat) := if low ≤ high ∧ high ≤ Config.maxDistance then some (low, high) else none

theorem readFilter_eq_bind :
    readFilter p kind states leg l1 l0 h1 h0 band ack =
      (readTerm (p.getLsbD 0) (readFlag kind)).bind fun k => (readTerm (p.getLsbD 1) (statesOf states)).bind fun st =>
        (readTerm (p.getLsbD 2) (legOf leg)).bind fun l => (readTerm (p.getLsbD 3) (spanOf (nat2 l1 l0) (nat2 h1 h0))).bind fun sp =>
          (readTerm (p.getLsbD 4) (bandOf band)).bind fun b => (readTerm (p.getLsbD 5) (readFlag ack)).bind fun a =>
            some { kind := k, states := st, leg := l, span := sp, band := b, acknowledged := a } := rfl

theorem statesOf_eq_none_iff : statesOf states = none ↔ states.toNat < 2 := by
  unfold statesOf
  split
  · exact iff_of_true rfl (by omega)
  · exact iff_of_false nofun (by omega)

theorem spanOf_eq_none_iff {low high : Nat} : spanOf low high = none ↔ high < low ∨ 20000 < high := by
  have hmost : Config.maxDistance = 20000 := rfl
  unfold spanOf
  split
  · exact iff_of_false nofun (by omega)
  · exact iff_of_true rfl (by omega)

theorem readFilter_of_bad (h : filterBad p kind states leg l1 l0 h1 h0 band ack) :
    readFilter p kind states leg l1 l0 h1 h0 band ack = none := by
  rw [readFilter_eq_bind]
  obtain ⟨hp, hv⟩ | ⟨hp, hv⟩ | ⟨hp, hv⟩ | ⟨hp, hv⟩ | ⟨hp, hv⟩ | ⟨hp, hv⟩ := h
  · rw [readTerm_eq_none hp (readFlag_eq_none.mpr hv), Option.bind_none]
  · rw [readTerm_eq_none hp (statesOf_eq_none_iff.mpr hv)]
    simp only [Option.bind_none, Option.bind_fun_none]
  · rw [readTerm_eq_none hp (legOf_eq_none_iff.mpr hv)]
    simp only [Option.bind_none, Option.bind_fun_none]
  · rw [readTerm_eq_none hp (spanOf_eq_none_iff.mpr hv)]
    simp only [Option.bind_none, Option.bind_fun_none]
  · rw [readTerm_eq_none hp (bandOf_eq_none_iff.mpr hv)]
    simp only [Option.bind_none, Option.bind_fun_none]
  · rw [readTerm_eq_none hp (readFlag_eq_none.mpr hv)]
    simp only [Option.bind_none, Option.bind_fun_none]

/-- A term of 0 or 1 is met where its value says what the record is. -/
theorem readFlag_met {b : Byte} (h : b.toNat < 2) (x : Bool) : (∃ k, readFlag b = some k ∧ (k == x) = true) ↔ (b = 1#8 ↔ x = true) := by
  obtain ⟨k, hk⟩ := Option.ne_none_iff_exists'.mp (fun hnone => absurd (readFlag_eq_none.mp hnone) (Nat.not_le.mpr h))
  rw [← readFlag_eq_some hk]
  constructor
  · rintro ⟨j, hj, hx⟩
    obtain rfl := Option.some.inj (hk.symm.trans hj)
    rw [eq_of_beq hx]
  · intro hx
    exact ⟨k, hk, beq_iff_eq.mpr (Bool.eq_iff_iff.mpr hx)⟩

theorem Record.isSome_ingress? (r : Record) : r.ingress?.isSome = true ↔ ∃ g, r.body = .ingress g := by
  cases hr : r.body <;> simp [Record.ingress?, hr]

theorem readFilter_of_good (h : ¬ filterBad p kind states leg l1 l0 h1 h0 band ack) :
    ∃ f, readFilter p kind states leg l1 l0 h1 h0 band ack = some f ∧
      ∀ r, f.meets r = true ↔ filterMet p kind states leg l1 l0 h1 h0 band ack r := by
  simp only [filterBad, not_or] at h
  obtain ⟨hkind, hstates, hleg, hspan, hband, hack⟩ := h
  obtain ⟨k, hk, hkmet⟩ := readTerm_eq_some fun hc => hkind (hc.imp_right readFlag_eq_none.mp)
  obtain ⟨st, hst, hstmet⟩ := readTerm_eq_some fun hc => hstates (hc.imp_right statesOf_eq_none_iff.mp)
  obtain ⟨l, hl, hlmet⟩ := readTerm_eq_some fun hc => hleg (hc.imp_right legOf_eq_none_iff.mp)
  obtain ⟨sp, hsp, hspmet⟩ := readTerm_eq_some fun hc => hspan (hc.imp_right spanOf_eq_none_iff.mp)
  obtain ⟨b, hb, hbmet⟩ := readTerm_eq_some fun hc => hband (hc.imp_right bandOf_eq_none_iff.mp)
  obtain ⟨a, ha, hamet⟩ := readTerm_eq_some fun hc => hack (hc.imp_right readFlag_eq_none.mp)
  refine ⟨{ kind := k, states := st, leg := l, span := sp, band := b, acknowledged := a }, ?_, fun r => ?_⟩
  · rw [readFilter_eq_bind, hk, hst, hl, hsp, hb, ha]
    rfl
  simp only [Filter.meets, Bool.and_eq_true, hkmet, hstmet, hlmet, hspmet, hbmet, hamet, and_assoc, filterMet]
  refine and_congr (forall_congr' fun hp => ?_) (and_congr (forall_congr' fun hp => ?_) (and_congr (forall_congr' fun hp => ?_)
    (and_congr (forall_congr' fun hp => ?_) (and_congr (forall_congr' fun hp => ?_) (forall_congr' fun hp => ?_)))))
  · rw [readFlag_met (Nat.not_le.mp fun hle => hkind ⟨hp, hle⟩), Record.isSome_ingress?]
  · have hsome : statesOf states = some states := if_neg fun hzero => hstates ⟨hp, by omega⟩
    simp only [hsome, Option.some.injEq, exists_eq_left']
  · simp only [legOf_eq_some_iff, beq_iff_eq]
    exact exists_congr fun l => And.comm
  · have hsome : spanOf (nat2 l1 l0) (nat2 h1 h0) = some (nat2 l1 l0, nat2 h1 h0) := if_pos (by
      have hmost : Config.maxDistance = 20000 := rfl
      have := not_or.mp fun hbad => hspan ⟨hp, hbad⟩
      omega)
    simp only [hsome, Option.some.injEq, exists_eq_left']
    cases hr : r.body <;> simp [Record.echo?, hr]
  · simp only [bandOf_eq_some_iff, Record.ingressOf_iff]
    exact ⟨fun ⟨x, hx, g, hr, hg⟩ => ⟨g, hr, hg ▸ hx⟩, fun ⟨g, hr, hg⟩ => ⟨g.band, hg, g, hr, rfl⟩⟩
  · rw [readFlag_met (Nat.not_le.mp fun hle => hack ⟨hp, hle⟩)]

end Filter

end Machine
end Sys2Proof
end

section
/-! Proofs, family 11, thirty-eighth part: LOOKUP, FIND, FIND_STATION and LIST_CHANGED (O46). -/

namespace Sys2Proof
namespace Machine

theorem byteOf_of_toNat {b : Byte} {n : Nat} (h : b.toNat = n) : byteOf n = b :=
  BitVec.eq_of_toNat_eq (by rw [toNat_byteOf (by have := b.isLt; omega), h])

theorem Record.lists_iff {handle : Nat} {r : Record} :
    r.lists handle = true ↔ ∃ e, r.body = .echo e ∧ handle ∈ e.stations := by
  cases hr : r.body <;> simp [Record.lists, hr]

/-- The changed slots of LIST_CHANGED (R171). -/
theorem State.nameList_changedSlots (s : State) :
    s.changedSlots.Pairwise (fun a b => a < b) ∧ (∀ n, n ∈ s.changedSlots ↔ (s.slot n).changed = true) ∧
      nameList (s.changedSlots.map s.nameOf) =
        byteOf s.changedSlots.length :: s.changedSlots.flatMap fun n => [byteOf n.val, (s.slot n).gen] := by
  refine ⟨List.Pairwise.filter _ (List.pairwise_lt_finRange 96), fun n => ?_, ?_⟩
  · rw [State.changedSlots, List.mem_filter]
    exact and_iff_right (List.mem_finRange n)
  · rw [nameList, List.length_map, List.flatMap_map]
    rfl

/-! ### What an ingress record reads from its link (R167) -/

section Probable
variable (s : State) (g : IngressPart)

theorem State.isSome_probable : (s.probable g).isSome = ((g.link.bind s.named).bind Record.echo?).isSome := by
  rw [State.probable_eq, Option.isSome_map]

theorem State.tap_probable : (s.probable g).bind Probable.tap = ((g.link.bind s.named).bind Record.echo?).bind EchoPart.tap := by
  rw [State.probable_eq, Option.bind_map]
  rfl

theorem State.position_probable :
    (s.probable g).map Probable.position = ((g.link.bind s.named).bind Record.echo?).map EchoPart.position := by
  rw [State.probable_eq, Option.map_map]
  rfl

theorem State.distance_probable :
    ((s.probable g).map Probable.distance).getD 0 =
      (((g.link.bind s.named).bind Record.echo?).bind fun e => e.tap.map fun k => tapDistance s.plant e.leg k).getD 0 := by
  rw [State.probable_eq, Option.map_map]
  cases (g.link.bind s.named).bind Record.echo? <;> rfl

end Probable

section Lookup
variable {s : State} {num gen : Byte} {n : SlotNo} {r : Record}

theorem serveLookup_of_picks (h : s.picks num gen n r) : serveLookup [num, gen] s = answerOk (s.recordBody n r) s := by
  simp only [serveLookup, State.checkName_of_picks h]

theorem serveLookup_of_namesNothing {status : Status} (h : s.namesNothing num gen status) :
    serveLookup [num, gen] s = refuse status s := by
  simp only [serveLookup, State.checkName_of_namesNothing h]

/-- Every body begins with the record's name, and holds its score at the same place. -/
theorem State.recordBody_name (h : s.picks num gen n r) :
    (s.recordBody n r).take 2 = [num, gen] ∧ (s.recordBody n r)[10]? = some (byteOf r.score) := by
  obtain ⟨hnum, -, hgen⟩ := h
  have hname : [byteOf n.val, (s.slot n).gen] = [num, gen] := by rw [byteOf_of_toNat hnum, hgen]
  rw [← hname]
  cases hr : r.body with
  | echo e =>
    rw [State.recordBody_of_echo hr]
    exact ⟨rfl, rfl⟩
  | ingress g =>
    rw [State.recordBody_of_ingress hr]
    exact ⟨rfl, rfl⟩

end Lookup

/-- Settles O46: the bodies by their layout, the filter by its terms, and the lists in ascending number. -/
theorem recordReadsListWhatTheyAsk : Obligations.RecordReadsListWhatTheyAsk := by
  unfold Obligations.RecordReadsListWhatTheyAsk
  refine ⟨rfl, fun plant l k d => tapDistance_eq, fun s handle y => State.locate_iff, ⟨rfl, mapAnswer_some⟩, fun s tag hears =>
    ⟨fun num gen status hnothing => ?nothing, fun num gen n r hpicks => ?lookup,
      fun p kind states leg l1 l0 h1 h0 band ack => ?find, fun h1 h0 => ?station, ?changed⟩⟩
  case nothing =>
    have hexec : exec (.lookup tag [num, gen]) s = .next ((serveLookup [num, gen] s).begin 0x30#8 tag false) :=
      exec_of_hears hears rfl rfl
    rw [hexec, serveLookup_of_namesNothing hnothing, begin_refuse]
  case lookup =>
    have hexec : exec (.lookup tag [num, gen]) s = .next ((serveLookup [num, gen] s).begin 0x30#8 tag false) :=
      exec_of_hears hears rfl rfl
    obtain ⟨hname, hscore⟩ := State.recordBody_name hpicks
    have hnum : byteOf n.val = num := byteOf_of_toNat hpicks.1
    have hgen : (s.slot n).gen = gen := hpicks.2.2
    refine ⟨s.recordBody n r, ?_, rfl, hname, hscore, fun e hr => ⟨State.length_recordBody_of_echo hr, ?_⟩,
      fun g hr => ⟨State.length_recordBody_of_ingress hr, fun base hbase => ?_⟩⟩
    · rw [hexec, serveLookup_of_picks hpicks, begin_answerOk]
    · rw [State.recordBody_of_echo hr, echoBytes_eq, hnum, hgen]
      simp only [List.append_assoc]
    · rw [State.recordBody_of_ingress hr, ingressBytes_eq hbase, hnum, hgen, roundBytes_eq, State.isSome_probable,
        State.tap_probable, State.position_probable, State.distance_probable]
      dsimp only
      generalize (g.link.bind s.named).bind Record.echo? = linked
      simp only [List.append_assoc]
      cases g.link with
      | none =>
        cases g.lastRound with
        | none => rfl
        | some y =>
          obtain ⟨outcome, drops⟩ := y
          cases outcome <;> rfl
      | some name =>
        cases g.lastRound with
        | none => rfl
        | some y =>
          obtain ⟨outcome, drops⟩ := y
          cases outcome <;> rfl
  case find =>
    have hexec : exec (.find tag [p, kind, states, leg, l1, l0, h1, h0, band, ack]) s =
        .next ((serveFind [p, kind, states, leg, l1, l0, h1, h0, band, ack] s).begin 0x31#8 tag false) :=
      exec_of_hears hears rfl rfl
    dsimp only
    rw [hexec]
    refine ⟨fun hbad => ?_, fun hgood => ?_⟩
    · have hnone := readFilter_of_bad (p := p) (kind := kind) (states := states) (leg := leg) (l1 := l1) (l0 := l0) (h1 := h1)
        (h0 := h0) (band := band) (ack := ack) hbad
      have hserve : serveFind [p, kind, states, leg, l1, l0, h1, h0, band, ack] s = refuse .badArgument s := by
        simp only [serveFind, hnone]
      rw [hserve, begin_refuse]
    · obtain ⟨f, hf, hmeets⟩ := readFilter_of_good (p := p) (kind := kind) (states := states) (leg := leg) (l1 := l1) (l0 := l0)
        (h1 := h1) (h0 := h0) (band := band) (ack := ack) hgood
      obtain ⟨slots, hsorted, hmem, hlist⟩ := s.nameList_namesOf f.meets
      have hserve : serveFind [p, kind, states, leg, l1, l0, h1, h0, band, ack] s = answerOk (nameList (s.namesOf f.meets)) s := by
        simp only [serveFind, hf]
      refine ⟨slots, hsorted, fun n => (hmem n).trans (exists_congr fun r => and_congr_right fun _ => hmeets r), ?_⟩
      rw [hserve, begin_answerOk, hlist]
  case station =>
    have hexec : exec (.findStation tag [h1, h0]) s = .next ((serveFindStation [h1, h0] s).begin 0x32#8 tag false) :=
      exec_of_hears hears rfl rfl
    obtain ⟨slots, hsorted, hmem, hlist⟩ := s.nameList_namesOf (Record.lists (nat2 h1 h0))
    refine ⟨slots, hsorted, fun n => (hmem n).trans ?_, ?_⟩
    · simp only [Record.lists_iff]
      exact exists_congr fun r => exists_and_left.symm
    · rw [hexec, serveFindStation, begin_answerOk, hlist]
      rfl
  case changed =>
    have hexec : exec (.listChanged tag []) s = .next ((serveListChanged [] s).begin 0x33#8 tag false) := exec_of_hears hears rfl rfl
    obtain ⟨hsorted, hmem, hlist⟩ := s.nameList_changedSlots
    refine ⟨s.changedSlots, s.withTable (s.table.map fun x => { x with changed := false }), hsorted, hmem, ?_, rfl,
      State.slot_map s _⟩
    rw [hexec, serveListChanged, begin_answerOk, hlist]

end Machine
end Sys2Proof
end

section
/-! Proofs, family 11, thirty-ninth part: unknown requests, wrong lengths, and requests not taken (O38). -/

namespace Sys2Proof
namespace Machine

/-! ### Argument blocks of the wrong length (R190) -/

theorem length_readWords {args : List Byte} {ws : List Nat} (h : readWords args = some ws) : args.length = 2 * ws.length := by
  induction args using readWords.induct generalizing ws with
  | case1 =>
    obtain rfl := Option.some.inj h
    rfl
  | case2 b => exact absurd h nofun
  | case3 hi lo rest ih =>
    obtain ⟨vs, hvs, rfl⟩ := Option.map_eq_some_iff.mp h
    rw [List.length_cons, List.length_cons, List.length_cons, ih hvs]
    omega

theorem length_readStations {args : List Byte} {xs : List (Station × Bool)} (h : readStations args = some xs) :
    args.length = 5 * xs.length := by
  induction args using readStations.induct generalizing xs with
  | case1 =>
    obtain rfl := Option.some.inj h
    rfl
  | case2 h1 h0 tap d1 d0 rest ih =>
    obtain ⟨ys, hys, rfl⟩ := Option.map_eq_some_iff.mp h
    simp only [List.length_cons, ih hys]
    omega
  | case3 args hnil hcons =>
    rw [readStations] at h
    · exact absurd h nofun
    · exact hnil
    · exact hcons

theorem readSettings_eq_none {args : List Byte} (h : args.length ≠ 17) : readSettings args = none := by
  unfold readSettings
  split
  · exact absurd rfl h
  · rfl

theorem readSafety_eq_none {args : List Byte} (h : args.length ≠ 21) : readSafety args = none := by
  unfold readSafety
  split
  · exact absurd rfl h
  · rfl

/-- MAP_TAPS takes at most 64 whole distances. -/
theorem serveMapTaps_of_unfit {args : List Byte} (s : State) (h : ¬ (args.length % 2 = 0 ∧ args.length ≤ 128)) :
    serveMapTaps args s = refuse .badArgument s := by
  cases hread : readWords args with
  | none => simp only [serveMapTaps, hread]
  | some ws =>
    have hlength := length_readWords hread
    simp only [serveMapTaps, hread]
    exact if_pos (by omega)

/-- MAP_STATIONS takes at most 49 whole entries. -/
theorem serveMapStations_of_unfit {args : List Byte} (s : State) (h : ¬ (args.length % 5 = 0 ∧ args.length ≤ 245)) :
    serveMapStations args s = refuse .badArgument s := by
  cases hread : readStations args with
  | none => simp only [serveMapStations, hread]
  | some xs =>
    have hlength := length_readStations hread
    simp only [serveMapStations, hread]
    exact if_pos (by omega)

/-- Every owner refuses arguments whose number does not fit its code (R186 step 2). -/
theorem State.serve_of_unfit {i : Instr} {code tag : Byte} (s : State) (hct : codeAndTag i = some (code, tag))
    (hnamed : namesRequest code = true) (hwf : i.wellFormed = true) (hfit : lengthFits i = false) :
    ∃ restart owner, s.serve i = s.takeRequest code tag restart owner ∧ owner s = refuse .badArgument s := by
  cases i with
  | powerOnReset | lineReset | resetRelease | millisecondTick | secondTick | agingTick | windowStart | settleExpiry | dwellExpiry
  | holdExhausted | reportArrival | dispatch | roundStart | roundEvaluation | alignRun | alignIdleElapsed | alignComplete
  | lineBreak | framingError | frameTimeout | frameDiscard | replySent | receivedByte | selectAssertion | reportBitReceived =>
    exact absurd hct nofun
  | unknownRequest code' tag' args =>
    obtain ⟨rfl, rfl⟩ := Prod.mk.inj (Option.some.inj hct)
    simp only [Instr.wellFormed, hnamed, Bool.not_true, Bool.and_false, Bool.false_eq_true] at hwf
  | configure tag' args =>
    obtain ⟨rfl, rfl⟩ := Prod.mk.inj (Option.some.inj hct)
    have hlength : args.length ≠ 17 := beq_eq_false_iff_ne.mp hfit
    exact ⟨_, _, rfl, by rw [serveConfigure, readSettings_eq_none hlength]⟩
  | setSafety tag' args =>
    obtain ⟨rfl, rfl⟩ := Prod.mk.inj (Option.some.inj hct)
    have hlength : args.length ≠ 21 := beq_eq_false_iff_ne.mp hfit
    exact ⟨_, _, rfl, by rw [serveSetSafety, readSafety_eq_none hlength]⟩
  | mapTaps tag' args =>
    obtain ⟨rfl, rfl⟩ := Prod.mk.inj (Option.some.inj hct)
    have hlength : (args.length % 2 == 0 && decide (args.length ≤ 128)) = false := hfit
    refine ⟨_, _, rfl, serveMapTaps_of_unfit s ?_⟩
    simpa using hlength
  | mapStations tag' args =>
    obtain ⟨rfl, rfl⟩ := Prod.mk.inj (Option.some.inj hct)
    have hlength : (args.length % 5 == 0 && decide (args.length ≤ 245)) = false := hfit
    refine ⟨_, _, rfl, serveMapStations_of_unfit s ?_⟩
    simpa using hlength
  | mapActivate tag' args | pauseProbing tag' args | resumeProbing tag' args | legRelease tag' args | releaseLockout tag' args =>
    obtain ⟨rfl, rfl⟩ := Prod.mk.inj (Option.some.inj hct)
    refine ⟨_, _, rfl, ?_⟩
    cases args with
    | nil => exact absurd (show true = false from hfit) nofun
    | cons x xs => rfl
  | _ tag' args =>
    obtain ⟨rfl, rfl⟩ := Prod.mk.inj (Option.some.inj hct)
    refine ⟨_, _, rfl, ?_⟩
    simp only [serveIdent, serveRestart, serveReadClock, serveSetClock, serveReadSettings, serveReadSafety, serveLockSafety,
      serveMapOpen, serveMapDiscard, serveReadLeg, serveReadStations, serveSetZone, serveClearZone, serveReadZones, serveLookup,
      serveFind, serveFindStation, serveListChanged, serveAcknowledge, serveAnnotate, servePin, serveUnpin, serveRetire, serveMerge,
      serveReprobe, serveReadProbe, serveLegManual, serveReadEvents, serveClearEvents, serveSetEventMask]
    split
    · exact absurd (show true = false from hfit) nofun
    · rfl

/-- Where the link does not receive, no request is taken. -/
theorem State.serve_of_deaf {s : State} (h : s.receives = false) (i : Instr) : s.serve i = s := by
  have hdeaf (code tag : Byte) (restart : Bool) (owner : State → Answer) : s.takeRequest code tag restart owner = s :=
    if_neg (by rw [h]; exact Bool.false_ne_true)
  cases i with
  | powerOnReset | lineReset | resetRelease | millisecondTick | secondTick | agingTick | windowStart | settleExpiry | dwellExpiry
  | holdExhausted | reportArrival | dispatch | roundStart | roundEvaluation | alignRun | alignIdleElapsed | alignComplete
  | lineBreak | framingError | frameTimeout | frameDiscard | replySent | receivedByte | selectAssertion | reportBitReceived => rfl
  | unknownRequest code tag args =>
    simp only [State.serve, hdeaf, ite_self]
  | _ tag args => exact hdeaf _ _ _ _

theorem isSome_requestBody {i : Instr} (h : (codeAndTag i).isSome = true) : (requestBody i).isSome = true := by
  unfold codeAndTag at h
  cases hbody : requestBody i with
  | none => simp only [hbody, Option.isSome_none, Bool.false_eq_true] at h
  | some body => rfl

/-- A refused answer, whoever gives it, is the reply with its status: a refusal arranges no line reset. -/
theorem begin_refuse_of_any (code tag : Byte) (restart : Bool) {st : Status} (hst : st ≠ .ok) (s : State) :
    (refuse st s).begin code tag restart = s.replied code tag st [] := by
  have hnone : (restart && (refuse st s).status == .ok) = false := by
    rw [show ((refuse st s).status == .ok) = false from beq_eq_false_iff_ne.mpr hst, Bool.and_false]
  rw [Answer.begin, hnone]
  rfl

/-- Settles O38: the owner's refusal, and the link that does not receive. -/
theorem unfitRequestsChangeNothing : Obligations.UnfitRequestsChangeNothing := by
  unfold Obligations.UnfitRequestsChangeNothing
  refine ⟨fun s code tag args hears hunnamed => ?unknown, fun i s code tag hears hct hnamed hfit hwf => ?unfit,
    fun i s hsome hdue hdeaf => ?deaf⟩
  case unknown =>
    have hserve : s.serve (.unknownRequest code tag args) = s.takeRequest code tag false serveUnknown :=
      if_neg (by rw [hunnamed]; exact Bool.false_ne_true)
    have hexec : exec (.unknownRequest code tag args) s = .next ((serveUnknown s).begin code tag false) :=
      exec_of_hears hears rfl hserve
    rw [hexec, serveUnknown, begin_refuse]
  case unfit =>
    obtain ⟨restart, owner, hserve, howner⟩ := State.serve_of_unfit s hct hnamed hwf hfit
    have hbody : (requestBody i).isSome = true := isSome_requestBody (by rw [hct]; rfl)
    rw [exec_of_hears hears (exec_eq_serve hbody s) hserve, howner, begin_refuse_of_any code tag restart (st := .badArgument) nofun]
  case deaf =>
    rw [exec_eq_serve (isSome_requestBody hsome), State.caughtUp_of_nothingDue hdue, State.serve_of_deaf hdeaf]

end Machine
end Sys2Proof
end

section
/-! Proofs, family 11, fortieth part: no operation on the table, the map, the sequencer or the settings reads the link or
writes it (for O36). -/

namespace Sys2Proof
namespace Machine

/-! ### The operations of the sequencer and the table, with another link

A request's effect is made of these operations: each commutes with a change of the link. -/

section OtherLink
variable (s : State) (k : Link)

theorem State.startTest_withLink : (s.withLink k).startTest = s.startTest.withLink k := by
  have houtcome : (s.withLink k).startOutcome = s.startOutcome := rfl
  unfold State.startTest
  rw [State.withLink_mode, houtcome]
  split
  · split <;> rfl
  · split <;> rfl
  all_goals rfl

theorem State.startTestIfIdle_withLink : (s.withLink k).startTestIfIdle = s.startTestIfIdle.withLink k := by
  rw [State.startTestIfIdle_eq, State.startTestIfIdle_eq, State.withLink_mode, s.startTest_withLink]
  split <;> rfl

theorem State.enterMode_withLink (m : Mode) : (s.withLink k).enterMode m = (s.enterMode m).withLink k :=
  (s.withMode m).startTestIfIdle_withLink k

theorem State.command_withLink (l : Leg) (p : SwitchState) (settle : Nat) :
    (s.withLink k).command l p settle = (s.command l p settle).withLink k := by
  have hother : (s.withLink k).otherOut l = s.otherOut l := rfl
  have hswitch : (s.withLink k).switch l = s.switch l := rfl
  unfold State.command
  rw [State.withLink_lockout, hother, hswitch]
  split
  · rfl
  · split <;> rfl

theorem State.abortCommand_withLink : (s.withLink k).abortCommand = s.abortCommand.withLink k := by
  unfold State.abortCommand
  rw [State.withLink_mode]
  split
  · exact s.command_withLink ..
  · exact s.command_withLink ..
  all_goals rfl

theorem State.raiseEntry_withLink (new : RecordState) : (s.withLink k).raiseEntry new = (s.raiseEntry new).withLink k := by
  cases new <;> rfl

theorem State.enterState_withLink (n : SlotNo) (new : RecordState) :
    (s.withLink k).enterState n new = (s.enterState n new).withLink k := by
  have hrecord : (s.withLink k).record n = s.record n := rfl
  unfold State.enterState
  rw [hrecord]
  split
  · rfl
  · split
    · rfl
    · exact (s.putRecord ..).raiseEntry_withLink k new

theorem State.joinQueue_withLink (n : SlotNo) (second : Word32) :
    (s.withLink k).joinQueue n second = (s.joinQueue n second).withLink k := by
  have hrecord : (s.withLink k).record n = s.record n := rfl
  unfold State.joinQueue
  rw [hrecord]
  split
  · rfl
  · exact (s.withWaitQueue _).startTestIfIdle_withLink k

theorem State.leaveQueue_withLink (name : RecordName) :
    (s.withLink k).leaveQueue name = (s.leaveQueue name).withLink k := by
  rw [State.leaveQueue_eq, State.leaveQueue_eq]
  rfl

theorem State.requeue_withLink (name : RecordName) : (s.withLink k).requeue name = (s.requeue name).withLink k := by
  have hnamed : (s.withLink k).named name = s.named name := rfl
  unfold State.requeue
  rw [hnamed, s.enterState_withLink k]
  split
  · rfl
  · split
    · exact (s.enterState ..).joinQueue_withLink k ..
    all_goals rfl

theorem State.abortRound_withLink (after : Mode) : (s.withLink k).abortRound after = (s.abortRound after).withLink k := by
  have hround : (s.withLink k).round = s.round := rfl
  unfold State.abortRound
  rw [hround, s.abortCommand_withLink]
  split
  · rfl
  · rw [State.requeue_withLink, State.enterMode_withLink]

theorem State.endHold_withLink : (s.withLink k).endHold = s.endHold.withLink k := by
  have hguard : (s.withLink k).guardNow = s.guardNow := rfl
  unfold State.endHold
  rw [State.withLink_mode, hguard]
  split
  · rw [State.command_withLink, State.enterMode_withLink]
  all_goals rfl

theorem State.zoneRound_withLink (l : Leg) : (s.withLink k).zoneRound l = (s.zoneRound l).withLink k := by
  unfold State.zoneRound
  rw [State.withLink_mode]
  split <;> rfl

theorem State.retireQuietly_withLink (n : SlotNo) : (s.withLink k).retireQuietly n = (s.retireQuietly n).withLink k := by
  have hrecord : (s.withLink k).record n = s.record n := rfl
  have hround : ((s.freeSlot n).withLink k).round = (s.freeSlot n).round := rfl
  have hafter (name : RecordName) (held : RecordState) :
      ((s.freeSlot n).withLink k).afterRetirement name held = ((s.freeSlot n).afterRetirement name held).withLink k := by
    unfold State.afterRetirement
    rw [hround]
    split
    · split
      · rfl
      · split
        · exact (s.freeSlot n).abortRound_withLink k .idle
        · rfl
    · exact (s.freeSlot n).leaveQueue_withLink k name
    all_goals rfl
  unfold State.retireQuietly
  rw [hrecord]
  split
  · rfl
  · exact hafter ..

theorem State.retire_withLink (n : SlotNo) : (s.withLink k).retire n = (s.retire n).withLink k := by
  have hrecord : (s.withLink k).record n = s.record n := rfl
  have hleg (r : Record) : (s.withLink k).relinkLeg n r = s.relinkLeg n r := rfl
  unfold State.retire
  simp only [hrecord, hleg, s.retireQuietly_withLink k]
  split
  · rfl
  · split <;> rfl

theorem State.merge_withLink (na nb : SlotNo) (a b : Record) (ea eb : EchoPart) :
    (s.withLink k).merge na nb a b ea eb = (s.merge na nb a b ea eb).withLink k := by
  have hput (r : Record) (changed : Bool) : (s.withLink k).putRecord na r changed = (s.putRecord na r changed).withLink k := rfl
  unfold State.merge
  simp only [State.withLink_plant, State.withLink_settings, hput, State.retireQuietly_withLink]
  split <;> rfl

theorem State.reprobe_withLink (n : SlotNo) (r : Record) (g : IngressPart) :
    (s.withLink k).reprobe n r g = (s.reprobe n r g).withLink k := by
  have hput (x : Record) : (s.withLink k).putRecord n x false = (s.putRecord n x false).withLink k := rfl
  unfold State.reprobe
  simp only [hput, State.enterState_withLink, State.joinQueue_withLink, State.withLink_clock]

theorem State.configure_withLink (c : Settings) : (s.withLink k).configure c = (s.configure c).withLink k := by
  rw [State.configure_eq, State.configure_eq]
  exact ((s.withSettings c).withClock _).startTestIfIdle_withLink k

theorem State.endIsolate_withLink : (s.withLink k).endIsolate = s.endIsolate.withLink k := by
  have hround : (s.withLink k).isolateRound = s.isolateRound := rfl
  have hhold : (s.withLink k).isolateHold = s.isolateHold := rfl
  unfold State.endIsolate
  rw [hround, hhold, State.withLink_safety, s.abortRound_withLink k, s.endHold_withLink k]
  split
  · rfl
  · split
    · rfl
    · split <;> rfl

theorem State.setSafety_withLink (c : Safety) : (s.withLink k).setSafety c = (s.setSafety c).withLink k := by
  have hzero : (((s.withLink k).withSafety c).withClock { (s.withLink k).clock with windowCount := 0 }).zeroCharges =
      ((s.withSafety c).withClock { s.clock with windowCount := 0 }).zeroCharges.withLink k := rfl
  have hheld (t : State) : (t.withLink k).heldWithoutAllowance = t.heldWithoutAllowance := rfl
  unfold State.setSafety
  simp only [hzero, State.endIsolate_withLink, hheld, State.endHold_withLink]
  split <;> exact State.startTest_withLink ..

/-- A fold of steps that commute with a change of the link commutes with it. -/
theorem foldl_withLink {α : Type} {f : State → α → State} (hf : ∀ (t : State) (x : α), f (t.withLink k) x = (f t x).withLink k)
    (xs : List α) : xs.foldl f (s.withLink k) = (xs.foldl f s).withLink k := by
  induction xs generalizing s with
  | nil => rfl
  | cons x xs ih => rw [List.foldl_cons, List.foldl_cons, hf, ih]

theorem State.rescale_withLink (leg : Leg) : (s.withLink k).rescale leg = (s.rescale leg).withLink k := by
  have hechoes (pinned : Bool) : (s.withLink k).echoesOn leg pinned = s.echoesOn leg pinned := rfl
  unfold State.rescale
  simp only [hechoes]
  rw [foldl_withLink s k (fun _ _ => rfl), foldl_withLink _ k (fun t n => t.retireQuietly_withLink k n)]

theorem State.activate_withLink (g : Staging) : (s.withLink k).activate g = (s.activate g).withLink k := by
  have hmapped (m : PerLeg LegMap) : ((s.withLink k).withPlant m).withStaging none = ((s.withPlant m).withStaging none).withLink k :=
    rfl
  unfold State.activate
  simp only [State.withLink_plant, hmapped, State.rescale_withLink]
  split
  · rfl
  · split <;> rfl

end OtherLink

end Machine
end Sys2Proof
end

section
/-! Proofs, family 11, forty-first part: a request's owner neither reads the link nor writes it (for O36). -/

namespace Sys2Proof
namespace Machine

/-- An answer with another link in its state. -/
def Answer.withLink (k : Link) (a : Answer) : Answer := { a with state := a.state.withLink k }

/-- An owner neither reads the link nor writes it. -/
def LinkBlind (owner : State → Answer) : Prop := ∀ (s : State) (k : Link), owner (s.withLink k) = (owner s).withLink k

/-- Of an owner that is blind to the link, an answer begins as the same reply whatever frame was in reception. -/
theorem LinkBlind.begin_eq {owner : State → Answer} (h : LinkBlind owner) (s : State) (frame : Option Frame) (code tag : Byte)
    (restart : Bool) :
    (owner (s.withLink { s.link with frame := frame })).begin code tag restart = (owner s).begin code tag restart := by
  have hlink : (owner s).state.link = s.link := by
    have hself : owner s = (owner s).withLink s.link := h s s.link
    exact congrArg (fun a => a.state.link) hself
  rw [h s]
  simp only [Answer.begin, Answer.withLink, replyBody, State.withLink_link, hlink]
  rfl

section Owners
variable (args : List Byte)

/-! ### IDENT, RESTART, the clock and the settings (section 10.6) -/

theorem linkBlind_serveIdent : LinkBlind (serveIdent args) := by
  intro s k
  unfold serveIdent
  split <;> rfl

theorem linkBlind_serveRestart : LinkBlind (serveRestart args) := by
  intro s k
  unfold serveRestart
  split <;> rfl

theorem linkBlind_serveReadClock : LinkBlind (serveReadClock args) := by
  intro s k
  unfold serveReadClock
  split <;> rfl

theorem linkBlind_serveSetClock : LinkBlind (serveSetClock args) := by
  intro s k
  unfold serveSetClock
  split <;> rfl

theorem linkBlind_serveReadSettings : LinkBlind (serveReadSettings args) := by
  intro s k
  unfold serveReadSettings
  split <;> rfl

theorem linkBlind_serveReadSafety : LinkBlind (serveReadSafety args) := by
  intro s k
  unfold serveReadSafety
  split <;> rfl

theorem linkBlind_serveLockSafety : LinkBlind (serveLockSafety args) := by
  intro s k
  unfold serveLockSafety
  split <;> rfl

theorem linkBlind_serveConfigure : LinkBlind (serveConfigure args) := by
  intro s k
  unfold serveConfigure
  simp only [State.configure_withLink]
  repeat' split
  all_goals rfl

theorem linkBlind_serveSetSafety : LinkBlind (serveSetSafety args) := by
  intro s k
  unfold serveSetSafety
  simp only [State.withLink_safetyLock, State.setSafety_withLink]
  repeat' split
  all_goals rfl

/-! ### The map and the zones (chapter 2) -/

theorem linkBlind_serveMapOpen : LinkBlind (serveMapOpen args) := by
  intro s k
  unfold serveMapOpen
  simp only [State.withLink_staging]
  repeat' split
  all_goals rfl

theorem linkBlind_serveMapTaps : LinkBlind (serveMapTaps args) := by
  intro s k
  unfold serveMapTaps
  simp only [State.withLink_staging]
  repeat' split
  all_goals rfl

theorem linkBlind_serveMapStations : LinkBlind (serveMapStations args) := by
  intro s k
  unfold serveMapStations
  simp only [State.withLink_staging]
  repeat' split
  all_goals rfl

theorem linkBlind_serveMapActivate : LinkBlind (serveMapActivate args) := by
  intro s k
  have hconflict (g : Staging) : (s.withLink k).conflict g = s.conflict g := rfl
  have hothers (l : Leg) : (s.withLink k).stationsElsewhere l = s.stationsElsewhere l := rfl
  have hrescales (g : Staging) : (s.withLink k).rescales g = s.rescales g := rfl
  unfold serveMapActivate
  simp only [State.withLink_staging, hconflict, hothers, hrescales, State.activate_withLink]
  repeat' split
  all_goals rfl

theorem linkBlind_serveMapDiscard : LinkBlind (serveMapDiscard args) := by
  intro s k
  unfold serveMapDiscard
  split <;> rfl

theorem linkBlind_serveReadLeg : LinkBlind (serveReadLeg args) := by
  intro s k
  unfold serveReadLeg
  simp only [State.withLink_plant, State.withLink_staging]
  repeat' split
  all_goals rfl

theorem linkBlind_serveReadStations : LinkBlind (serveReadStations args) := by
  intro s k
  unfold serveReadStations
  simp only [State.withLink_plant]
  repeat' split
  all_goals rfl

theorem linkBlind_serveSetZone : LinkBlind (serveSetZone args) := by
  intro s k
  have hput (l : Leg) (z : Option Zone) : (s.withLink k).putZone l z = (s.putZone l z).withLink k := rfl
  unfold serveSetZone
  simp only [hput, State.zoneRound_withLink, State.startTestIfIdle_withLink]
  repeat' split
  all_goals rfl

theorem linkBlind_serveClearZone : LinkBlind (serveClearZone args) := by
  intro s k
  have hput (l : Leg) (z : Option Zone) : (s.withLink k).putZone l z = (s.putZone l z).withLink k := rfl
  unfold serveClearZone
  simp only [hput, State.startTestIfIdle_withLink]
  repeat' split
  all_goals rfl

theorem linkBlind_serveReadZones : LinkBlind (serveReadZones args) := by
  intro s k
  unfold serveReadZones
  split <;> rfl

/-! ### The records (chapter 9) -/

theorem linkBlind_serveLookup : LinkBlind (serveLookup args) := by
  intro s k
  have hname (num gen : Byte) : (s.withLink k).checkName num gen = s.checkName num gen := rfl
  unfold serveLookup
  simp only [hname]
  repeat' split
  all_goals rfl

theorem linkBlind_serveFind : LinkBlind (serveFind args) := by
  intro s k
  unfold serveFind
  repeat' split
  all_goals rfl

theorem linkBlind_serveFindStation : LinkBlind (serveFindStation args) := by
  intro s k
  unfold serveFindStation
  split <;> rfl

theorem linkBlind_serveListChanged : LinkBlind (serveListChanged args) := by
  intro s k
  unfold serveListChanged
  split <;> rfl

theorem linkBlind_serveAcknowledge : LinkBlind (serveAcknowledge args) := by
  intro s k
  have hname (num gen : Byte) : (s.withLink k).checkName num gen = s.checkName num gen := rfl
  unfold serveAcknowledge
  simp only [hname]
  repeat' split
  all_goals rfl

theorem linkBlind_serveAnnotate : LinkBlind (serveAnnotate args) := by
  intro s k
  have hname (num gen : Byte) : (s.withLink k).checkName num gen = s.checkName num gen := rfl
  unfold serveAnnotate
  simp only [hname]
  repeat' split
  all_goals rfl

theorem linkBlind_servePin : LinkBlind (servePin args) := by
  intro s k
  have hname (num gen : Byte) : (s.withLink k).checkName num gen = s.checkName num gen := rfl
  unfold servePin
  simp only [hname]
  repeat' split
  all_goals rfl

theorem linkBlind_serveUnpin : LinkBlind (serveUnpin args) := by
  intro s k
  have hname (num gen : Byte) : (s.withLink k).checkName num gen = s.checkName num gen := rfl
  unfold serveUnpin
  simp only [hname]
  repeat' split
  all_goals rfl

theorem linkBlind_serveRetire : LinkBlind (serveRetire args) := by
  intro s k
  have hname (num gen : Byte) : (s.withLink k).checkName num gen = s.checkName num gen := rfl
  unfold serveRetire
  simp only [hname, State.retire_withLink]
  repeat' split
  all_goals rfl

theorem linkBlind_serveMerge : LinkBlind (serveMerge args) := by
  intro s k
  have hname (num gen : Byte) : (s.withLink k).checkName num gen = s.checkName num gen := rfl
  unfold serveMerge
  simp only [hname, State.merge_withLink]
  repeat' split
  all_goals rfl

theorem linkBlind_serveReprobe : LinkBlind (serveReprobe args) := by
  intro s k
  have hname (num gen : Byte) : (s.withLink k).checkName num gen = s.checkName num gen := rfl
  unfold serveReprobe
  simp only [hname, State.reprobe_withLink]
  repeat' split
  all_goals rfl

/-! ### The sequencer, the holds and the lockout (chapters 7 and 8) -/

theorem linkBlind_serveReadProbe : LinkBlind (serveReadProbe args) := by
  intro s k
  unfold serveReadProbe
  split <;> rfl

theorem linkBlind_servePauseProbing : LinkBlind (servePauseProbing args) := by
  intro s k
  unfold servePauseProbing
  simp only [State.withLink_mode, State.abortRound_withLink]
  repeat' split
  all_goals rfl

theorem linkBlind_serveResumeProbing : LinkBlind (serveResumeProbing args) := by
  intro s k
  unfold serveResumeProbing
  simp only [State.withLink_mode, State.enterMode_withLink]
  repeat' split
  all_goals rfl

theorem State.grantHold_withLink (l : Leg) (depth : Depth) (origin : Origin) (s : State) (k : Link) :
    (s.withLink k).grantHold l depth origin = (s.grantHold l depth origin).withLink k := by
  have hallowance : (s.withLink k).allowance l = s.allowance l := rfl
  have hswitch : (s.withLink k).switch l = s.switch l := rfl
  have hguard : (s.withLink k).guardNow = s.guardNow := rfl
  unfold State.grantHold State.beginHold
  simp only [State.withLink_safety, hallowance, hswitch, hguard, State.command_withLink]
  repeat' split
  all_goals rfl

theorem linkBlind_serveLegManual : LinkBlind (serveLegManual args) := by
  intro s k
  unfold serveLegManual
  simp only [State.withLink_mode, State.grantHold_withLink]
  repeat' split
  all_goals rfl

theorem linkBlind_serveLegRelease : LinkBlind (serveLegRelease args) := by
  intro s k
  unfold serveLegRelease
  simp only [State.withLink_mode, State.endHold_withLink]
  repeat' split
  all_goals rfl

theorem linkBlind_serveReleaseLockout : LinkBlind (serveReleaseLockout args) := by
  intro s k
  have hswitch (l : Leg) : (s.withLink k).switch l = s.switch l := rfl
  have hreleased : ((s.withLink k).clearLatches).withLockout false = (s.clearLatches.withLockout false).withLink k := rfl
  unfold serveReleaseLockout
  simp only [State.withLink_lockout, hswitch, hreleased, State.enterMode_withLink]
  repeat' split
  all_goals rfl

/-! ### The events (section 10.7) -/

theorem linkBlind_serveReadEvents : LinkBlind (serveReadEvents args) := by
  intro s k
  unfold serveReadEvents
  split <;> rfl

theorem linkBlind_serveClearEvents : LinkBlind (serveClearEvents args) := by
  intro s k
  unfold serveClearEvents
  split <;> rfl

theorem linkBlind_serveSetEventMask : LinkBlind (serveSetEventMask args) := by
  intro s k
  unfold serveSetEventMask
  split <;> rfl

end Owners

theorem linkBlind_serveUnknown : LinkBlind serveUnknown := fun _ _ => rfl

end Machine
end Sys2Proof
end

section
/-! Proofs, family 11, forty-second part: a request's frame received byte by byte (O36). -/

namespace Sys2Proof
namespace Machine

/-! ### A request is served alike whatever frame is in reception (R186) -/

/-- Every well-formed request is taken by an owner that is blind to the link. -/
theorem State.serve_cases {i : Instr} (hbody : (requestBody i).isSome = true) (hwf : i.wellFormed = true) :
    ∃ code tag restart owner, LinkBlind owner ∧ ∀ s : State, s.serve i = s.takeRequest code tag restart owner := by
  cases i with
  | powerOnReset | lineReset | resetRelease | millisecondTick | secondTick | agingTick | windowStart | settleExpiry | dwellExpiry
  | holdExhausted | reportArrival | dispatch | roundStart | roundEvaluation | alignRun | alignIdleElapsed | alignComplete
  | lineBreak | framingError | frameTimeout | frameDiscard | replySent | receivedByte | selectAssertion | reportBitReceived =>
    exact absurd hbody nofun
  | unknownRequest code tag args =>
    have hunnamed : namesRequest code = false := by
      simp only [Instr.wellFormed, Bool.and_eq_true, Bool.not_eq_true'] at hwf
      exact hwf.2
    exact ⟨code, tag, false, serveUnknown, linkBlind_serveUnknown, fun s => if_neg (by rw [hunnamed]; exact Bool.false_ne_true)⟩
  | ident tag args => exact ⟨_, _, _, _, linkBlind_serveIdent args, fun _ => rfl⟩
  | restart tag args => exact ⟨_, _, _, _, linkBlind_serveRestart args, fun _ => rfl⟩
  | readClock tag args => exact ⟨_, _, _, _, linkBlind_serveReadClock args, fun _ => rfl⟩
  | setClock tag args => exact ⟨_, _, _, _, linkBlind_serveSetClock args, fun _ => rfl⟩
  | readSettings tag args => exact ⟨_, _, _, _, linkBlind_serveReadSettings args, fun _ => rfl⟩
  | configure tag args => exact ⟨_, _, _, _, linkBlind_serveConfigure args, fun _ => rfl⟩
  | readSafety tag args => exact ⟨_, _, _, _, linkBlind_serveReadSafety args, fun _ => rfl⟩
  | setSafety tag args => exact ⟨_, _, _, _, linkBlind_serveSetSafety args, fun _ => rfl⟩
  | lockSafety tag args => exact ⟨_, _, _, _, linkBlind_serveLockSafety args, fun _ => rfl⟩
  | mapOpen tag args => exact ⟨_, _, _, _, linkBlind_serveMapOpen args, fun _ => rfl⟩
  | mapTaps tag args => exact ⟨_, _, _, _, linkBlind_serveMapTaps args, fun _ => rfl⟩
  | mapStations tag args => exact ⟨_, _, _, _, linkBlind_serveMapStations args, fun _ => rfl⟩
  | mapActivate tag args => exact ⟨_, _, _, _, linkBlind_serveMapActivate args, fun _ => rfl⟩
  | mapDiscard tag args => exact ⟨_, _, _, _, linkBlind_serveMapDiscard args, fun _ => rfl⟩
  | readLeg tag args => exact ⟨_, _, _, _, linkBlind_serveReadLeg args, fun _ => rfl⟩
  | readStations tag args => exact ⟨_, _, _, _, linkBlind_serveReadStations args, fun _ => rfl⟩
  | setZone tag args => exact ⟨_, _, _, _, linkBlind_serveSetZone args, fun _ => rfl⟩
  | clearZone tag args => exact ⟨_, _, _, _, linkBlind_serveClearZone args, fun _ => rfl⟩
  | readZones tag args => exact ⟨_, _, _, _, linkBlind_serveReadZones args, fun _ => rfl⟩
  | lookup tag args => exact ⟨_, _, _, _, linkBlind_serveLookup args, fun _ => rfl⟩
  | find tag args => exact ⟨_, _, _, _, linkBlind_serveFind args, fun _ => rfl⟩
  | findStation tag args => exact ⟨_, _, _, _, linkBlind_serveFindStation args, fun _ => rfl⟩
  | listChanged tag args => exact ⟨_, _, _, _, linkBlind_serveListChanged args, fun _ => rfl⟩
  | acknowledge tag args => exact ⟨_, _, _, _, linkBlind_serveAcknowledge args, fun _ => rfl⟩
  | annotate tag args => exact ⟨_, _, _, _, linkBlind_serveAnnotate args, fun _ => rfl⟩
  | pin tag args => exact ⟨_, _, _, _, linkBlind_servePin args, fun _ => rfl⟩
  | unpin tag args => exact ⟨_, _, _, _, linkBlind_serveUnpin args, fun _ => rfl⟩
  | retire tag args => exact ⟨_, _, _, _, linkBlind_serveRetire args, fun _ => rfl⟩
  | merge tag args => exact ⟨_, _, _, _, linkBlind_serveMerge args, fun _ => rfl⟩
  | reprobe tag args => exact ⟨_, _, _, _, linkBlind_serveReprobe args, fun _ => rfl⟩
  | readProbe tag args => exact ⟨_, _, _, _, linkBlind_serveReadProbe args, fun _ => rfl⟩
  | pauseProbing tag args => exact ⟨_, _, _, _, linkBlind_servePauseProbing args, fun _ => rfl⟩
  | resumeProbing tag args => exact ⟨_, _, _, _, linkBlind_serveResumeProbing args, fun _ => rfl⟩
  | legManual tag args => exact ⟨_, _, _, _, linkBlind_serveLegManual args, fun _ => rfl⟩
  | legRelease tag args => exact ⟨_, _, _, _, linkBlind_serveLegRelease args, fun _ => rfl⟩
  | releaseLockout tag args => exact ⟨_, _, _, _, linkBlind_serveReleaseLockout args, fun _ => rfl⟩
  | readEvents tag args => exact ⟨_, _, _, _, linkBlind_serveReadEvents args, fun _ => rfl⟩
  | clearEvents tag args => exact ⟨_, _, _, _, linkBlind_serveClearEvents args, fun _ => rfl⟩
  | setEventMask tag args => exact ⟨_, _, _, _, linkBlind_serveSetEventMask args, fun _ => rfl⟩

theorem State.serve_withFrame {i : Instr} (hbody : (requestBody i).isSome = true) (hwf : i.wellFormed = true) {s : State}
    (hreceives : s.receives = true) (frame : Option Frame) :
    (s.withLink { s.link with frame := frame }).serve i = s.serve i := by
  obtain ⟨code, tag, restart, owner, hblind, hserve⟩ := State.serve_cases hbody hwf
  have hframed : (s.withLink { s.link with frame := frame }).receives = true := hreceives
  rw [hserve, hserve, State.takeRequest, State.takeRequest, if_pos hframed, if_pos hreceives, hblind.begin_eq]

/-! ### The bytes of a frame (R184) -/

/-- The state with these bytes of a frame just gathered, the last one a moment ago. -/
def State.gathering (bytes : List Byte) (s : State) : State :=
  s.withLink { s.link with frame := some { bytes := bytes, gap := 0 } }

/-- A byte just gathered leaves no timeout due, and no other step asks for the link. -/
theorem State.hears_gathering {s : State} (h : s.hears = true) (bytes : List Byte) : (s.gathering bytes).hears = true := by
  have htimeout : (s.gathering bytes).timeoutDue = false := by
    cases hphase : s.link.phase with
    | ready rate => simp [State.timeoutDue, State.gathering, hphase]
    | measuring | rateTaken | sendingAlign => simp [State.timeoutDue, State.gathering, hphase]
  have hreceives : (s.gathering bytes).receives = s.receives := rfl
  have hsettle (l : Leg) : (s.gathering bytes).settleDue l = s.settleDue l := rfl
  have hhold : (s.gathering bytes).holdExhausted = s.holdExhausted := rfl
  have hdwell : (s.gathering bytes).dwellDue = s.dwellDue := rfl
  have hevaluation : (s.gathering bytes).evaluationDue = s.evaluationDue := rfl
  have hstart : (s.gathering bytes).roundStartDue = s.roundStartDue := rfl
  have hsecond : (s.gathering bytes).secondDue = s.secondDue := rfl
  have haging : (s.gathering bytes).agingDue = s.agingDue := rfl
  have hwindow : (s.gathering bytes).windowDue = s.windowDue := rfl
  simp only [State.hears, State.nothingDue, Bool.and_eq_true] at h
  simp only [State.hears, State.nothingDue, htimeout, hreceives, hsettle, hhold, hdwell, hevaluation, hstart, hsecond, haging,
    hwindow, h, Bool.not_false, Bool.and_self]

theorem exec_receivedByte_of_hears {s : State} (h : s.hears = true) (b : Byte) : exec (.receivedByte b) s = .next (s.takeByte b) := by
  obtain ⟨hdue, hreceives⟩ := Bool.and_eq_true_iff.mp h
  exact exec_receivedByte_of_taken hdue hreceives

/-- A byte of a frame with an accepted LEN completes it or is gathered. -/
theorem State.takeByte_gathering (s : State) {taken : List Byte} {b : Byte} (hlen : lenAccepted ((taken ++ [b]).headD 0) = true) :
    (s.gathering taken).takeByte b =
      if (taken ++ [b]).length = frameLength ((taken ++ [b]).headD 0) then (s.gathering taken).judgeFrame (taken ++ [b])
      else s.gathering (taken ++ [b]) :=
  State.takeByte_of_goodLen (f := { bytes := taken, gap := 0 }) rfl hlen

/-- The rest of a frame, received byte by byte: the last byte has the whole frame judged. -/
theorem execAll_gathering {s : State} (hears : s.hears = true) {len : Byte} {rest : List Byte} (hlen : lenAccepted len = true)
    (hlength : rest.length + 1 = frameLength len) (todo : List Byte) (b : Byte) (taken : List Byte)
    (hwhole : taken ++ b :: todo = len :: rest) :
    ∃ before, execAll (s.gathering taken) ((b :: todo).map Instr.receivedByte) =
      .next ((s.gathering before).judgeFrame (len :: rest)) := by
  induction todo generalizing b taken with
  | nil =>
    refine ⟨taken, execAll_cons ?_ []⟩
    rw [exec_receivedByte_of_hears (State.hears_gathering hears taken), State.takeByte_gathering s (by rwa [hwhole]), hwhole]
    exact congrArg Host.Outcome.next (if_pos hlength)
  | cons c todo ih =>
    have hnext : (taken ++ [b]) ++ c :: todo = len :: rest := by rw [List.append_assoc, List.singleton_append, hwhole]
    have hhead : (taken ++ [b]).headD 0 = len := by
      cases taken with
      | nil => exact (List.cons.inj hwhole).1
      | cons x xs => exact (List.cons.inj hwhole).1
    have hcount : (taken ++ [b]).length + (todo.length + 1) = frameLength len := by
      rw [← hlength, ← List.length_cons, ← List.length_append, hnext, List.length_cons]
    have hgathered : exec (.receivedByte b) (s.gathering taken) = .next (s.gathering (taken ++ [b])) := by
      rw [exec_receivedByte_of_hears (State.hears_gathering hears taken), State.takeByte_gathering s (by rwa [hhead]), hhead,
        if_neg (by omega)]
    obtain ⟨before, hrest⟩ := ih c (taken ++ [b]) hnext
    exact ⟨before, (execAll_cons hgathered _).trans hrest⟩

/-- The frame of a request's body, judged, is the request served. -/
theorem State.judgeFrame_framed (code tag : Byte) (args : List Byte) (s : State) :
    s.judgeFrame (framed (code :: tag :: args)) = s.serve (decodeRequest code tag args) := by
  have hcrc : crcMatches (framed (code :: tag :: args)) = true := crcMatches_counted _
  simp only [State.judgeFrame, hcrc, if_true, decodeFrameBody_framed]

/-- Settles O36: the sync begins the frame, its bytes are gathered, and the last one has the request served. -/
theorem framesArriveByteByByte : Obligations.FramesArriveByteByByte := by
  unfold Obligations.FramesArriveByteByByte
  intro i frame s hwf hencode hears hnone
  obtain ⟨hcaught, hreceives⟩ := State.hears_elim hears
  obtain ⟨code, tag, rfl, hdecode⟩ := encodeRequest_cases hencode hwf
  have hbody : (requestBody i).isSome = true := by
    rw [← hdecode, requestBody_decodeRequest]
    rfl
  have hsync : exec (.receivedByte requestSync) s = .next (s.gathering []) := by
    rw [exec_receivedByte_of_hears hears, State.takeByte_of_hunting hnone]
    rfl
  have hargs := length_arguments_le hwf
  have hcounted : (code :: tag :: i.arguments).length = i.arguments.length + 2 := rfl
  have hlen : (byteOf (code :: tag :: i.arguments).length).toNat = i.arguments.length + 2 := toNat_byteOf (by omega)
  obtain ⟨before, hrest⟩ := execAll_gathering hears (len := byteOf (code :: tag :: i.arguments).length)
    (rest := (code :: tag :: i.arguments) ++ crcBytes (byteOf (code :: tag :: i.arguments).length :: code :: tag :: i.arguments))
    ((lenAccepted_iff _).mpr ⟨by omega, by omega⟩) (by rw [frameLength, hlen, List.length_append, length_crcBytes, hcounted]) _ _ [] rfl
  have hserved : (s.gathering before).judgeFrame (framed (code :: tag :: i.arguments)) = s.serve i := by
    rw [State.judgeFrame_framed, hdecode]
    exact State.serve_withFrame hbody hwf hreceives _
  rw [List.map_cons, execAll_cons hsync, exec_eq_serve hbody, hcaught, ← hserved]
  exact hrest

end Machine
end Sys2Proof
end
